-- ==== Sys2Proof/Word.lean ====
section
/-! DEFINITION. The word types of the OT-2 model and their plainest arithmetic (R6: little-endian, bit 0 least significant). -/

namespace Sys2Proof

/-- One byte of memory, of a descriptor or of a message. -/
abbrev Byte := BitVec 8

/-- A register, a doorbell value, a vector instruction: 64 bits. -/
abbrev Word := BitVec 64

/-- A descriptor of 128 bytes, byte 0 in bits 7..0 (R84, R6). -/
abbrev Desc := BitVec 1024

end Sys2Proof
end

