-- ==== Sys2Proof/Syntax.lean ====
section
/-! DEFINITION. The commands of the OT-2 block: one constructor of `Instr` per row of spec/opcode_table.json, with its operands. -/

namespace Sys2Proof

/-- The operands of an operation of a context (R84, R85): the context, the command position of its descriptor in the dispatch
window, the bytes that the host's RDMA READ responses have delivered so far (host address of R350, byte), and the order in which
row slices became available (positions of the index list; used with STRICT clear only, R144). -/
structure OpArg where
  ctx : Nat
  pos : Nat
  hin : List Host.Cell := []
  order : List Nat := []
deriving DecidableEq, Repr

/-- Who writes a register (R436): via 0 steward on host port 0, 1 steward on host port 1, 2 management over I3C, 3 the module;
the 16 source bytes as a number, and the queue pair number. -/
structure Src where
  via : Nat
  addr : Nat
  qpn : Nat
deriving DecidableEq, Repr

/-- The kinds of packet payload on the fabric (R298, R299, R309, R312, R330). -/
inductive PBody where
  /-- Control packets 0x01 to 0x07 (R299): step, datum, orig_rank, event, rank, state, digest, context. -/
  | control (step datum orig event rank state digest context : Nat)
  /-- HELLO (R309): identity word, port, lanes, version, version_min, grid with valid, expect with valid, expect_port, status. -/
  | hello (ident port lanes version versionMin grid expect expectPort status : Nat)
  /-- Tray accesses (R312): module address, byte count, data. -/
  | tray (addr count : Nat) (data : List Byte)
  /-- READY (R330): word fields and opcode, send_bytes, recv_bytes, start datum. -/
  | ready (seq tag attempt step epoch opcode sendBytes recvBytes start : Nat)
  /-- DATA (R330): word fields, stream offset, payload. -/
  | data (seq tag attempt step epoch offset : Nat) (payload : List Byte)
  /-- FINISH (R330): word fields, bytes placed. -/
  | finish (seq tag attempt step epoch placed : Nat)
  /-- QUEUE_DATA (R330): queue id, attempt, step, send number, offset in slot, payload. -/
  | queueData (queue attempt step number offset : Nat) (payload : List Byte)
  /-- QUEUE_CREDIT (R330): queue id, attempt, step, send number, credits returned. -/
  | queueCredit (queue attempt step number credits : Nat)
  /-- A body of a reserved type, with the header's word. -/
  | other (word : Nat)
deriving DecidableEq, Repr

/-- A packet (R298): header fields and body. `slots` is length_m1 + 1. -/
structure Packet where
  dest : Nat
  src : Nat
  vc : Nat
  type : Nat
  slots : Nat
  hops : Nat
  job : Nat
  body : PBody
deriving DecidableEq, Repr

/-- Part of a packet as a flit carries it: `count` slots from slot `first` (R297: a packet may span flits). -/
structure Piece where
  pkt : Packet
  first : Nat
  count : Nat
deriving DecidableEq, Repr

/-- The header fields that every flit carries (R296): credit returns per VC, ack and ack_valid. -/
structure FlitHdr where
  credits : List Nat
  ack : Nat
  ackValid : Bool
deriving DecidableEq, Repr

/-- How a flit came over its lanes (R295, R296): for each of its four codewords the symbols received wrong (place in the codeword and
difference), whether the CRC-32C field received is that of the flit's bytes, and the eye height and width that the receiver measured, if it
did (R293, R314). -/
structure RxReport where
  errors : List (List (Nat × Nat)) := []
  crcOk : Bool := true
  eye : Option (Nat × Nat) := none
deriving DecidableEq, Repr

/-- A data flit (R296, R301). -/
structure Flit where
  hdr : FlitHdr
  seq : Nat
  pieces : List Piece
deriving DecidableEq, Repr

/-- A host's queue pair as an inbound access names it (R345, R352): endpoint kind (1 steward, 2 context), context, host port,
source address, queue pair number. -/
structure Conn where
  kind : Nat
  ctx : Nat
  port : Nat
  addr : Nat
  qpn : Nat
deriving DecidableEq, Repr

/-- The private data of a REQ (R348). -/
structure ReqData where
  magic : Nat
  version : Nat
  kind : Nat
  ctx : Nat
  reservedZero : Bool
  /-- responder resources that the REQ offers: RDMA READs outstanding at once (R346). -/
  resources : Nat := 16
deriving DecidableEq, Repr

/-- An update for a setter adder (R184): target burst, format code (0 F32, 1 F16, 2 B16, 3 I32, 4 I64), lane mask (a set bit
updates the lane), addends by lane, and the issuing context, position, order domain and key. -/
structure AdderUpdate where
  addr : Nat
  format : Nat
  mask : Nat
  addends : List Nat
  ctx : Nat
  pos : Nat
  domain : Nat
  key : Nat
deriving DecidableEq, Repr

/-- One entry of a config block (R450): register address and value. -/
abbrev CfgEntry := Nat × Nat

/-- A signature (R446): its 2,420 bytes, and whether ML-DSA-44 of FIPS 204 accepts it under the public key and over the bytes that the
table names. The spec names FIPS 204 and does not lay its computation down (log entry 98). -/
structure Signature where
  bytes : List Byte := []
  valid : Bool := true
deriving DecidableEq, Repr

/-- A config block (R450), as the bytes of a config slot give it. -/
structure CfgSlot where
  magic : Nat := 0x43463254
  version : Nat := 1
  /-- 0 vendor key, 1 owner key. -/
  signer : Nat := 0
  keyIndex : Nat := 0
  securityVersion : Nat
  fwFloor : Nat
  serial : Nat
  entries : List CfgEntry
  signature : Signature := {}
deriving DecidableEq, Repr

/-- The owner record of block 2 (R450): the owner's public key, a serial binding, the vendor key that signed, its signature. -/
structure OwnerRec where
  publicKey : List Byte := []
  serial : Nat := 0
  keyIndex : Nat := 0
  signature : Signature := {}
deriving DecidableEq, Repr

/-- One of the three components of a firmware image (R448): 1 control firmware, 2 kiln microcode, 3 flue agent firmware. -/
structure FwPart where
  id : Nat
  offset : Nat
  length : Nat
  digest : List Byte
deriving DecidableEq, Repr

/-- A firmware image (R448): the fields of its header, and the bytes after it. -/
structure FwSlot where
  magic : Nat := 0x46573254
  version : Nat := 1
  keyIndex : Nat := 0
  stepping : Nat := 0xB0
  securityVersion : Nat := 0
  bodyLength : Nat := 0
  fwVersion : Nat := 0
  components : List FwPart := []
  publicKey : List Byte := []
  signature : Signature := {}
  body : List Byte := []
deriving DecidableEq, Repr

/-- What a start-up meets (R406, R407): which steps fail and how, and what the flash holds. -/
structure StartReport where
  linkFails : Bool := false
  /-- die position, type and interface version of the first die that does not fit (R308). -/
  packageMismatch : Option (Nat × Nat × Nat) := none
  dramFails : Bool := false
  flashChannelFailed : Option Nat := none
  mapValid : Bool := true
  portLanes : List Nat := []
  /-- what the training of each port measures: the neighbour's datum less this module's, and the one-way delay (R393). -/
  portOffsets : List (Int × Nat) := []
  hostPortUp : List Bool := [true, true]
  /-- the 4 KiB of identity SRAM as they read, and the seed that the correction with the helper data gives (R453). -/
  idSram : List Byte := []
  idSeed : List Byte := []
  /-- what comparing the key pair and verifying the certificate find (R455, R502): 0 nothing amiss, 1 another public key, 2 a signature that
  fails. -/
  idFault : Nat := 0
  /-- channels whose copy of block 2 of the boot area fails its CRC-32C or its signature (R447). -/
  badCopies : List Nat := []
  captureDurable : Bool := true
  sramSurvived : Bool := true
  /-- block keys and correction loads that the retention survey of the mount reads (R213). -/
  survey : List (Nat × Nat) := []
deriving DecidableEq, Repr

/-- How a flash package answers the reads of one sector of 4,128 bytes, data and metadata (R194, R214): its location, the offset in the
journal stream of one that holds journal, the answers to the attempts (none for an uncorrectable one), those of the other pages of the
stripe, and the correction load. -/
structure SectorRead where
  loc : Nat
  journal : Option Nat := none
  tries : List (Option (List Byte))
  others : List (Option (List Byte)) := []
  eccLoad : Nat := 0
deriving DecidableEq, Repr

/-- The context and command position that a burst access serves, if any (R173). -/
abbrev Behalf := Option (Nat × Nat)

/-- What the DRAM added to a burst read: symbol index and exclusive-or (R167). -/
abbrev Noise := List (Nat × Byte)

/-- The commands: one constructor per row of spec/opcode_table.json. -/
inductive Instr where
  -- operations of a context (R89)
  | fence (a : OpArg)
  | copy (a : OpArg)
  | fill (a : OpArg)
  | residentLoad (a : OpArg)
  | residentStore (a : OpArg)
  | product (a : OpArg)
  | partialSum (a : OpArg)
  | attentionFwd (a : OpArg)
  | attentionBwd (a : OpArg)
  | openSeq (a : OpArg)
  | append (a : OpArg)
  | fork (a : OpArg)
  | pin (a : OpArg)
  | unpin (a : OpArg)
  | freeSeq (a : OpArg)
  | refill (a : OpArg)
  | convert (a : OpArg)
  | amax (a : OpArg)
  | vector (a : OpArg)
  | gatherPool (a : OpArg)
  | scatterGrad (a : OpArg)
  | migrate (a : OpArg)
  | allReduce (a : OpArg)
  | reduceScatter (a : OpArg)
  | allGather (a : OpArg)
  | exchange (a : OpArg)
  | permute (a : OpArg)
  | broadcast (a : OpArg)
  | queueSend (a : OpArg)
  | queueRecv (a : OpArg)
  | queueRelease (a : OpArg)
  | optSgdMomentum (a : OpArg)
  | optRowwiseAdagrad (a : OpArg)
  | optAdam (a : OpArg)
  | prefetchAnnounce (a : OpArg)
  | checkLine (a : OpArg)
  | cone (a : OpArg)
  | coneBend (a : OpArg)
  -- vector instructions (R94, R95): kiln, instruction word
  | vadd (k : Nat) (w : Word)
  | vsub (k : Nat) (w : Word)
  | vmul (k : Nat) (w : Word)
  | vfma (k : Nat) (w : Word)
  | vfms (k : Nat) (w : Word)
  | vfnma (k : Nat) (w : Word)
  | vdiv (k : Nat) (w : Word)
  | vsqrt (k : Nat) (w : Word)
  | vmin (k : Nat) (w : Word)
  | vmax (k : Nat) (w : Word)
  | vabs (k : Nat) (w : Word)
  | vneg (k : Nat) (w : Word)
  | vcopysign (k : Nat) (w : Word)
  | vrsqrt (k : Nat) (w : Word)
  | vexp (k : Nat) (w : Word)
  | vlog (k : Nat) (w : Word)
  | vtanh (k : Nat) (w : Word)
  | vsigmoid (k : Nat) (w : Word)
  | verf (k : Nat) (w : Word)
  | vcmp (k : Nat) (w : Word)
  | vsel (k : Nat) (w : Word)
  | vcvt (k : Nat) (w : Word)
  | vround (k : Nat) (w : Word)
  | viadd (k : Nat) (w : Word)
  | visub (k : Nat) (w : Word)
  | vimul (k : Nat) (w : Word)
  | vand (k : Nat) (w : Word)
  | vor (k : Nat) (w : Word)
  | vxor (k : Nat) (w : Word)
  | vshl (k : Nat) (w : Word)
  | vshr (k : Nat) (w : Word)
  | vsar (k : Nat) (w : Word)
  | vbcast (k : Nat) (w : Word)
  | vperm (k : Nat) (w : Word)
  | vslide (k : Nat) (w : Word)
  | vredadd (k : Nat) (w : Word)
  | vredmax (k : Nat) (w : Word)
  | vredmin (k : Nat) (w : Word)
  | vscan (k : Nat) (w : Word)
  | vld (k : Nat) (w : Word)
  | vst (k : Nat) (w : Word)
  | vlds (k : Nat) (w : Word)
  | vsts (k : Nat) (w : Word)
  | vgather (k : Nat) (w : Word)
  | vscatter (k : Nat) (w : Word)
  | vldn (k : Nat) (w : Word)
  | vstn (k : Nat) (w : Word)
  | vrand (k : Nat) (w : Word)
  | pand (k : Nat) (w : Word)
  | por (k : Nat) (w : Word)
  | pnot (k : Nat) (w : Word)
  | pset (k : Nat) (w : Word)
  | pcnt (k : Nat) (w : Word)
  | sli (k : Nat) (w : Word)
  | sadd (k : Nat) (w : Word)
  | ssub (k : Nat) (w : Word)
  | smul (k : Nat) (w : Word)
  | scmp (k : Nat) (w : Word)
  | br (k : Nat) (w : Word)
  | brc (k : Nat) (w : Word)
  | loop (k : Nat) (w : Word)
  | halt (k : Nat) (w : Word)
  | vectorInstructionLimit (k : Nat)
  -- the dispatch window and the kilns
  | dispatch (c : Nat)
  | descriptorFetch (c : Nat) (ds : List Desc)
  | descriptorReread (c : Nat) (ds : List Desc)
  | waitSwitchThreshold (k : Nat)
  | quantum (k : Nat)
  | switchComplete (k : Nat)
  | creditWaitLong (c pos : Nat)
  -- doorbells (R360): context, bytes written, value
  | cmdProducer (c nbytes : Nat) (v : Word)
  | eventConsumer (c nbytes : Nat) (v : Word)
  | tallyConsumer (c nbytes : Nat) (v : Word)
  | resume (c nbytes : Nat) (v : Word)
  -- step control (R243): source, context, step field
  | stepAbort (src : Src) (c step : Nat)
  | resolveToFire (src : Src) (c step : Nat)
  | resolveToVoid (src : Src) (c step : Nat)
  | load (src : Src) (c step : Nat)
  | sealCtx (src : Src) (c step : Nat)
  | restoreFromHearth (src : Src) (c step : Nat)
  -- commits and what a commit enables
  | flueCommit (src : Src) (v : Word)
  | heldCommit (bank : Nat)
  | contextEnable (c : Nat)
  | contextDisable (c : Nat)
  | launchArm (c step l : Nat)
  | launchCancel (c : Nat)
  | launchRelease (c : Nat)
  | portEnable (p : Nat)
  | portRetrain (p : Nat)
  | portDisable (p : Nat)
  -- registers
  | registerWrite (src : Src) (addr : Nat) (v : Word)
  | rcRead (src : Src) (addr nwords : Nat)
  | w1cClear (src : Src) (addr : Nat) (v : Word)
  -- power, resets, clocks, temperatures
  | requestRun (src : Src)
  | requestSleep (src : Src)
  | requestDeep (src : Src)
  | powerStateChangeDone
  | warmReset (src : Src)
  | fullReset (src : Src) (rep : StartReport)
  | clkFcountCtrl (src : Src) (n : Nat) (v : Word)
  | fcountGateEnd (n count : Nat)
  | powerOn (rep : StartReport)
  | powerFailWarning (mv : Nat)
  | inputVoltage (mv : Nat)
  | clockLost (source : Nat)
  | clockReturned (source : Nat)
  | recoveredInPlace
  | watchdog (core : Nat)
  | dieTemperatureSample (die sensor : Nat) (t : Int)
  | witnessCaptured
  -- control messages of the firing protocol (R234, R299)
  | bent (p : Packet)
  | abort (p : Packet)
  | fire (p : Packet)
  | void (p : Packet)
  | heartbeat (p : Packet)
  | heartbeatTimer (c rank : Nat)
  | lost (p : Packet)
  | digest (p : Packet)
  | memberLost (c rank : Nat)
  | switch (c : Nat)
  | commitWalk (c : Nat)
  | rollbackComplete (c : Nat)
  | tallyHeld (c : Nat)
  | automaticCheckLine (c : Nat)
  | shadowReserveRefill
  -- collective and queue packets
  | ready (p : Packet)
  | data (p : Packet)
  | finish (p : Packet)
  | queueData (p : Packet)
  | queueCredit (p : Packet)
  | collectiveWaitLong (c pos : Nat)
  -- links
  | dataFlit (port : Nat) (f : Flit) (rx : RxReport)
  | idleFlit (port : Nat) (h : FlitHdr) (rx : RxReport)
  | replayRequest (port : Nat) (h : FlitHdr) (rx : RxReport)
  | laneControl (port : Nat) (h : FlitHdr) (mask : Nat) (rx : RxReport)
  | ackTimer (port : Nat)
  | replayTimeout (port : Nat)
  | linkTimeout (port : Nat)
  /-- `sync` is the mask of the lanes that have lost sync at once; 0 when the lane has reached an error limit (R303, R304). -/
  | laneFailure (port lane sync : Nat)
  | trainingEnd (port lanes : Nat) (eyeHeight eyeWidth : Nat) (offset : Int) (delay : Nat)
  | trainingTimeout (port lanes : Nat)
  | trainingPatternReceived (port : Nat)
  | retrainInterval (port : Nat)
  | hello (port : Nat) (p : Packet)
  | helloTimer (port : Nat)
  | trayReadRequest (p : Packet)
  | trayReadResponse (p : Packet)
  | trayWrite (p : Packet)
  -- the datum
  | datumAligned (hops : Nat)
  | datumHoldoverLimit
  | datumUpstreamChanged
  -- bonded memory
  | refresh (die ch : Nat)
  | refreshIntervalRestore (die : Nat)
  | layerTemperatureSample (die sensor : Nat) (t : Option Int)
  | throttleEvaluation (die : Nat)
  | patrolScrubRead (addr : Nat) (noise : Noise)
  | ceWindowEnd
  | burstRead (addr : Nat) (behalf : Behalf) (noise : Noise)
  | burstWrite (addr mask : Nat) (img : List Byte) (behalf : Behalf)
  | setterAdderUpdate (u : AdderUpdate)
  | orderKeyClose (domain key : Nat)
  -- migration and the flash tier
  | migrationCopyComplete (c parcel : Nat)
  | promotion (c parcel : Nat)
  | demandMiss (c parcel stall : Nat)
  | cleaning (c parcel loc : Nat)
  | demotion (c parcel : Nat)
  | journalFlush (c step : Nat) (pages : List Nat)
  | journalResume
  | garbageCollection (block : Nat)
  | reFiring (block fresh : Nat)
  | flashProgramDone (loc : Nat) (erase ok : Bool) (upto : Nat)
  | sectorReadDone (r : SectorRead)
  | channelLost (ch : Nat)
  | channelRebuildDone (ch : Nat)
  -- page waits
  | pageWaitResume (a : OpArg)
  | pageWaitLong (c pos : Nat)
  -- host attachment
  | req (port addr qpn : Nat) (d : ReqData)
  | rtu (conn : Conn)
  | dreq (conn : Conn)
  | fatalNak (conn : Conn)
  | hostTimeout (conn : Conn)
  | hostLinkDown (port : Nat) (down : Bool)
  | inboundRdmaRead (conn : Conn) (rkey addr len : Nat)
  | inboundRdmaWrite (conn : Conn) (rkey addr : Nat) (bytes : List Byte)
  | inputReadRetry (c pos : Nat)
  | ringStalled (c pos unread : Nat)
  | ringResumed (c pos : Nat)
  | keepalive (c : Nat)
  | writeRetransmit (c port : Nat)
  | tallyDelivered (c : Nat)
  | tallyWrite (c : Nat)
  | eventEntryWrite (c : Nat)
  | statusBlockWrite (c : Nat)
  -- management (R456, R457, R495)
  | getCertificate (eid : Nat)
  | getMeasurements (eid : Nat) (nonce : List Byte) (mask : Nat)
  | readLog (eid first count : Nat)
  | readWitness (eid source offset : Nat)
  | registerRead (eid addr : Nat)
  | managementRegisterWrite (eid addr : Nat) (v : Word)
  | setEndpointId (eid : Nat)
  | getEndpointId
  | getMctpVersionSupport (type : Nat)
  | getMessageTypeSupport
  | getVendorMessageSupport (selector : Nat)
  | pldmSensorPoll (sensor : Nat)
  | verifyComplete (component : Nat)
  | activateFirmware
  | entdaa (addr : Nat)
  | writeAcknowledged (c port n : Nat)
  | powerStageStop
  | pldmBaseRequest (command : Nat)
  | pldmFirmwareUpdate (component : Nat) (fw : FwSlot) (cfg : CfgSlot) (owner : OwnerRec)
  | drep (conn : Conn)
  | congestionNotificationPacket (port : Nat)
  | pfcPauseFrame (port prio : Nat) (pause : Bool)
deriving DecidableEq, Repr

end Sys2Proof
end

