-- ==== Sys2Proof/WellFormed.lean ====
section
/-! DEFINITION. Which commands are well formed: every operand within the range that the spec gives its field. A command that is
not well formed names something the module does not have. -/

namespace Sys2Proof

/-- A context of R79 is one of 1,024. -/
def OpArg.wf (a : OpArg) : Bool := decide (a.ctx < 1024 ∧ a.pos < 2 ^ 64)

/-- The four writers of R436 and the widths of their source fields. -/
def Src.wf (x : Src) : Bool := decide (x.via < 4 ∧ x.addr < 2 ^ 128 ∧ x.qpn < 2 ^ 24)

/-- The header fields of R298 in their widths. -/
def Packet.wf (p : Packet) : Bool :=
  decide (p.dest < 2 ^ 14 ∧ p.src < 2 ^ 14 ∧ p.vc < 4 ∧ p.type < 256 ∧ 0 < p.slots ∧ p.slots ≤ 256 ∧ p.hops < 16)

/-- The header fields of R296. -/
def FlitHdr.wf (h : FlitHdr) : Bool := decide (h.credits.length = 4 ∧ h.ack < 4096)

/-- A data flit of R296: a header, a 12-bit sequence, well-formed packets. -/
def Flit.wf (f : Flit) : Bool := f.hdr.wf && decide (f.seq < 4096) && f.pieces.all fun x => x.pkt.wf

/-- Four codewords of 576 ten-bit symbols (R295, R296), an eye of the widths of R476. -/
def RxReport.wf (r : RxReport) : Bool :=
  decide (r.errors.length ≤ 4) && (r.errors.all fun e => e.all fun x => decide (x.1 < 576 ∧ x.2 < 1024)) &&
    (r.eye.all fun e => decide (e.1 < 1024 ∧ e.2 < 256))

/-- The endpoints of R346. -/
def Conn.wf (x : Conn) : Bool := decide ((x.kind = 1 ∨ x.kind = 2) ∧ x.ctx < 1024 ∧ x.port < 2)

/-- The five adder formats of R183 and a burst-aligned target. -/
def AdderUpdate.wf (u : AdderUpdate) : Bool := decide (u.format < 5 ∧ u.addr % 64 = 0)

/-- An image of at most 8 MiB, its header's fields in their widths (R448). -/
def FwSlot.wf (f : FwSlot) : Bool :=
  decide (f.body.length + 4096 ≤ 8388608 ∧ f.components.length ≤ 3 ∧ f.magic < 2 ^ 32 ∧ f.version < 2 ^ 16 ∧ f.keyIndex < 256 ∧ f.stepping < 256 ∧
    f.securityVersion < 2 ^ 32 ∧ f.bodyLength < 2 ^ 32 ∧ f.fwVersion < 2 ^ 32)

/-- A block of at most 64 KiB, its fields in their widths (R450). -/
def CfgSlot.wf (b : CfgSlot) : Bool :=
  decide (16 * b.entries.length + 2452 ≤ 65536 ∧ b.magic < 2 ^ 32 ∧ b.version < 2 ^ 16 ∧ b.signer < 256 ∧ b.keyIndex < 256 ∧
    b.securityVersion < 2 ^ 32 ∧ b.fwFloor < 2 ^ 32 ∧ b.serial < 2 ^ 64)

/-- The serial and the key of an owner record in their widths (R450). -/
def OwnerRec.wf (o : OwnerRec) : Bool := decide (o.serial < 2 ^ 64 ∧ o.keyIndex < 256)

/-- Whether a command is well formed. -/
def Instr.wf : Instr → Bool
  | .fence a | .copy a | .fill a | .residentLoad a | .residentStore a | .product a | .partialSum a | .attentionFwd a
  | .attentionBwd a | .openSeq a | .append a | .fork a | .pin a | .unpin a | .freeSeq a | .refill a | .convert a | .amax a
  | .vector a | .gatherPool a | .scatterGrad a | .migrate a | .allReduce a | .reduceScatter a | .allGather a | .exchange a
  | .permute a | .broadcast a | .queueSend a | .queueRecv a | .queueRelease a | .optSgdMomentum a | .optRowwiseAdagrad a
  | .optAdam a | .prefetchAnnounce a | .checkLine a | .cone a | .coneBend a | .pageWaitResume a =>
    a.wf
  | .vadd k _ | .vsub k _ | .vmul k _ | .vfma k _ | .vfms k _ | .vfnma k _ | .vdiv k _ | .vsqrt k _ | .vmin k _ | .vmax k _
  | .vabs k _ | .vneg k _ | .vcopysign k _ | .vrsqrt k _ | .vexp k _ | .vlog k _ | .vtanh k _ | .vsigmoid k _ | .verf k _
  | .vcmp k _ | .vsel k _ | .vcvt k _ | .vround k _ | .viadd k _ | .visub k _ | .vimul k _ | .vand k _ | .vor k _ | .vxor k _
  | .vshl k _ | .vshr k _ | .vsar k _ | .vbcast k _ | .vperm k _ | .vslide k _ | .vredadd k _ | .vredmax k _ | .vredmin k _
  | .vscan k _ | .vld k _ | .vst k _ | .vlds k _ | .vsts k _ | .vgather k _ | .vscatter k _ | .vldn k _ | .vstn k _
  | .vrand k _ | .pand k _ | .por k _ | .pnot k _ | .pset k _ | .pcnt k _ | .sli k _ | .sadd k _ | .ssub k _ | .smul k _
  | .scmp k _ | .br k _ | .brc k _ | .loop k _ | .halt k _ | .vectorInstructionLimit k | .waitSwitchThreshold k | .quantum k
  | .switchComplete k =>
    decide (k < 48)
  | .dispatch c | .creditWaitLong c _ | .contextEnable c | .contextDisable c | .launchArm c _ _ | .launchCancel c
  | .launchRelease c | .heartbeatTimer c _ | .memberLost c _ | .switch c | .commitWalk c | .rollbackComplete c | .tallyHeld c
  | .automaticCheckLine c | .collectiveWaitLong c _ | .migrationCopyComplete c _ | .promotion c _ | .demandMiss c _ _
  | .cleaning c _ _ | .demotion c _ | .journalFlush c _ _ | .pageWaitLong c _ | .inputReadRetry c _ | .ringStalled c _ _
  | .ringResumed c _ | .tallyDelivered c | .tallyWrite c =>
    decide (c < 1024)
  | .descriptorFetch c ds | .descriptorReread c ds =>
    decide (c < 1024) && decide (ds.length ≤ 256)
  | .cmdProducer c nbytes _ | .eventConsumer c nbytes _ | .tallyConsumer c nbytes _ | .resume c nbytes _ =>
    decide (c < 1024) && decide (0 < nbytes)
  | .stepAbort src c _ | .resolveToFire src c _ | .resolveToVoid src c _ | .load src c _ | .sealCtx src c _
  | .restoreFromHearth src c _ =>
    src.wf && decide (c < 1024)
  | .flueCommit src _ | .requestRun src | .requestSleep src | .requestDeep src | .warmReset src | .fullReset src _ =>
    src.wf
  | .heldCommit bank =>
    decide (bank < 2)
  | .portEnable p | .portRetrain p | .portDisable p =>
    decide (p < 8)
  | .registerWrite src addr _ | .rcRead src addr _ | .w1cClear src addr _ =>
    src.wf && decide (addr % 8 = 0)
  | .powerStateChangeDone | .powerOn _ | .recoveredInPlace | .witnessCaptured | .shadowReserveRefill | .datumAligned _
  | .datumHoldoverLimit | .datumUpstreamChanged | .ceWindowEnd | .orderKeyClose _ _ | .journalResume | .garbageCollection _
  | .reFiring _ _ | .flashProgramDone _ _ _ _ | .sectorReadDone _ | .getCertificate _ | .getMeasurements _ _ _
  | .readLog _ _ _ | .readWitness _ _ _ | .getEndpointId | .getMctpVersionSupport _ | .getMessageTypeSupport
  | .getVendorMessageSupport _ | .pldmSensorPoll _ | .verifyComplete _ | .activateFirmware | .powerStageStop
  | .pldmBaseRequest _ =>
    true
  | .pldmFirmwareUpdate _ fw cfg owner =>
    fw.wf && cfg.wf && owner.wf
  | .clkFcountCtrl src n _ =>
    src.wf && decide (n < 16)
  | .fcountGateEnd n _ =>
    decide (n < 16)
  | .powerFailWarning mv | .inputVoltage mv =>
    decide (mv < 65536)
  | .clockLost source | .clockReturned source =>
    decide (source < 13)
  | .watchdog core =>
    decide (core < 4)
  | .dieTemperatureSample die sensor _ =>
    decide (die < 4) && decide (sensor < 4)
  | .bent p | .abort p | .fire p | .void p | .heartbeat p | .lost p | .digest p | .ready p | .data p | .finish p
  | .queueData p | .queueCredit p | .trayReadRequest p | .trayReadResponse p | .trayWrite p =>
    p.wf
  | .dataFlit port f rx =>
    decide (port < 8) && f.wf && rx.wf
  | .idleFlit port h rx | .replayRequest port h rx =>
    decide (port < 8) && h.wf && rx.wf
  | .laneControl port h mask rx =>
    decide (port < 8) && h.wf && decide (mask < 16) && rx.wf
  | .ackTimer port | .replayTimeout port | .linkTimeout port | .trainingPatternReceived port | .retrainInterval port
  | .helloTimer port =>
    decide (port < 8)
  | .laneFailure port lane sync =>
    decide (port < 8) && decide (lane < 4) && decide (sync < 16)
  | .trainingEnd port lanes eyeHeight eyeWidth _ _ =>
    decide (port < 8) && decide (lanes < 16) && decide (eyeHeight < 1024) && decide (eyeWidth < 256)
  | .trainingTimeout port lanes =>
    decide (port < 8) && decide (lanes < 16)
  | .hello port p =>
    decide (port < 8) && p.wf
  | .refresh die ch =>
    decide (die < 2) && decide (ch < 512)
  | .refreshIntervalRestore die | .throttleEvaluation die =>
    decide (die < 2)
  | .layerTemperatureSample die sensor _ =>
    decide (die < 2) && decide (sensor < 13)
  | .patrolScrubRead addr noise | .burstRead addr _ noise =>
    decide (addr % 64 = 0) && decide (noise.length ≤ 76)
  | .burstWrite addr mask img _ =>
    decide (addr % 64 = 0) && decide (img.length = 64) && decide (mask < 2 ^ 64)
  | .setterAdderUpdate u =>
    u.wf
  | .channelLost ch | .channelRebuildDone ch =>
    decide (ch < 32)
  | .req port _ _ _ | .hostLinkDown port _ | .congestionNotificationPacket port =>
    decide (port < 2)
  | .rtu conn | .dreq conn | .fatalNak conn | .hostTimeout conn | .inboundRdmaRead conn _ _ _ | .inboundRdmaWrite conn _ _ _
  | .drep conn =>
    conn.wf
  | .keepalive c | .eventEntryWrite c | .statusBlockWrite c =>
    decide (c < 1025)
  | .writeRetransmit c port | .writeAcknowledged c port _ =>
    decide (c < 1025 ∧ port < 2)
  | .registerRead eid _ | .managementRegisterWrite eid _ _ | .setEndpointId eid =>
    decide (eid < 256)
  | .entdaa addr =>
    decide (addr < 128)
  | .pfcPauseFrame port prio _ =>
    decide (port < 2) && decide (prio < 8)

/-- A command that names only what the module has. -/
abbrev Instr.WellFormed (i : Instr) : Prop := i.wf = true

end Sys2Proof
end

