-- ==== Sys2Proof/Config.lean ====
section
/-! DEFINITION. What the spec leaves open: constants without a body. Nothing in Lean can evaluate them, so a claim that holds,
holds whatever they are (notes/assumptions name each). -/

namespace Sys2Proof

/-- The functions that the module approximates within 2 ulp (R94 for the first six, R282 for the last two). -/
inductive Approx where
  | rsqrt | exp | log | tanh | sigmoid | erf | cos | sin
deriving DecidableEq, Repr

/-- The result of an approximation on F32 bits. R94 and R282 bound it within 2 ulp and fix it over all B0 parts; the value within
the bound is open (log entry 3). -/
opaque Config.approx : Approx → BitVec 32 → BitVec 32

/-- Whether a fused multiply-add of zero, infinity and a quiet NaN raises invalid operation: IEEE 754-2019 leaves it to the
implementation and the spec names no choice (log entry 4). -/
opaque Config.fmaZeroInfNan : Bool

/-- A fresh value for each count: an rkey, a queue pair number, a time within a timing table (log entry 5). -/
opaque Config.fresh : Nat → Nat

/-- ML-DSA.KeyGen_internal of FIPS 204 (R453): public and private key of a seed. The spec names FIPS 204 and does not lay it down (log entry
6). -/
opaque Config.keyGen : List Byte → List Byte × List Byte

/-- ML-DSA-44 signing of FIPS 204 (R446): private key and message, which is a SHA3-256 digest (log entry 6). -/
opaque Config.sign : List Byte → List Byte → List Byte

/-- The integer result of a vector instruction where R94 states none: a conversion to I32 or U32 of a NaN, an infinity or a
value out of range, by the operand's bits and the target's signedness (log entry 7). -/
opaque Config.cvtOutOfRange : Bool → BitVec 32 → BitVec 32

/-- The result of VSHL, VSHR or VSAR by 32 or more places, by opcode, operand and count: R94 states none (log entry 76). -/
opaque Config.shiftPast : Nat → BitVec 32 → BitVec 32 → BitVec 32

/-- What is left in a saggar after the wheel has used it, by count, saggar and word: no rule says (log entry 54). -/
opaque Config.saggar : Nat → Bool → Nat → BitVec 32

/-- What an output block buffer of the staging area holds before a block runs, by count and shelf offset: products and drains use the same
area and no rule says what they leave (log entry 83). -/
opaque Config.staging : Nat → Nat → BitVec 8

/-- The exception flags of an approximation: inexact and invalid (R94 names both, not when each is raised) (log entry 3). -/
opaque Config.approxFlags : Approx → BitVec 32 → Bool × Bool

/-- The upper 16 bits of a lane that an F16 result is written to (R94 says only that F16 is the low 16 bits): by the lane's old contents
and the result (log entry 21). -/
opaque Config.f16High : BitVec 32 → BitVec 16 → BitVec 16

/-- The bit of completion payload byte 0 that holds each of the five IEEE flags, in the order invalid, division by zero,
overflow, underflow, inexact: R365 does not state the order (log entry 8). -/
opaque Config.flagByte : Bool → Bool → Bool → Bool → Bool → BitVec 8

/-- SHA3-256 digest of the boot ROM (R458): bytes that no command delivers (log entry 6). -/
opaque Config.digestOf : Nat → List Byte

/-- Bytes of the identity certificate that were set at manufacture: key_index, issued, public key and signature (R454), by offset (log entry
10). -/
opaque Config.certByte : Nat → BitVec 8

/-- What an MCTP control answer carries that DSP0236 fixes and the spec does not: 0 the versions of a message type, 1 the vendor
command set (R456), by message type or selector (log entry 28). -/
opaque Config.mctp : Nat → Nat → List Byte

/-- Completion code and body of the answer to a PLDM base request (DSP0240 fixes them, R456 only names it), by command (log entry 28). -/
opaque Config.pldmBase : Nat → Nat × List Byte

/-- The bytes that the TRB_WITNESS window shows where no capture stands: slot 0 the SRAM's header area outside a capture, slot k + 1 an erased
witness slot (R443 and R445 do not give them; log entry 90). -/
opaque Config.witnessFree : Nat → Nat → BitVec 8

/-- The MAC address of a host port, set at manufacture (R477) (log entry 10). -/
opaque Config.mac : Nat → Nat

end Sys2Proof
end

