-- ==== Sys2Proof/Machine/Bytes.lean ====
section
/-! DEFINITION. Bit fields, byte order, association lists, sorting and check codes, as the meanings use them. -/

namespace Sys2Proof

/-- The field of `n` bytes at byte offset `o` of a descriptor, as a number. -/
def Desc.field (d : Desc) (o n : Nat) : Nat := (d >>> (8 * o)).toNat % 2 ^ (8 * n)

/-- Bits `lo` to `lo + n - 1` of a number. -/
def bits (x lo n : Nat) : Nat := (x >>> lo) % 2 ^ n

/-- Bit `i` of a number. -/
def bitOf (x i : Nat) : Bool := x.testBit i

/-- The `n` little-endian bytes of a number. -/
def leBytes (n x : Nat) : List Byte := (List.range n).map fun i => BitVec.ofNat 8 (x >>> (8 * i))

/-- The number whose little-endian bytes are given. -/
def ofLeBytes : List Byte → Nat
  | [] => 0
  | b :: bs => b.toNat + 256 * ofLeBytes bs

/-- The smallest multiple of `k` that is at least `n`, divided by `k`. -/
def ceilDiv (n k : Nat) : Nat := (n + k - 1) / k

/-- A count that stops at the largest value of `w` bits (R171, R220: "saturates"). -/
def satAdd (w n k : Nat) : Nat := min (n + k) (2 ^ w - 1)

/-- Look a key up in an association list. -/
def alook {β : Type} (k : Nat) : List (Nat × β) → Option β
  | [] => none
  | (k', v) :: rest => if k' = k then some v else alook k rest

/-- Put a value under a key, keeping the keys rising. -/
def aset {β : Type} (k : Nat) (v : β) : List (Nat × β) → List (Nat × β)
  | [] => [(k, v)]
  | (k', v') :: rest =>
    if k < k' then (k, v) :: (k', v') :: rest
    else if k = k' then (k, v) :: rest
    else (k', v') :: aset k v rest

/-- Remove a key, wherever it stands. -/
def adel {β : Type} (k : Nat) : List (Nat × β) → List (Nat × β)
  | [] => []
  | (k', v') :: rest => if k' = k then adel k rest else (k', v') :: adel k rest

/-- The CRC register after one byte, for a reflected CRC of `poly` (structural on the eight bits). -/
def crcRefl (poly : Nat) : Nat → Nat → Nat
  | 0, c => c
  | n + 1, c => crcRefl poly n (if c.testBit 0 then (c >>> 1) ^^^ poly else c >>> 1)

/-- CRC-32C: reflected polynomial 0x82F63B78, initial value and final exclusive-or all ones. -/
def crc32c (bs : List Byte) : Nat :=
  (bs.foldl (fun c b => crcRefl 0x82F63B78 8 (c ^^^ b.toNat)) 0xFFFFFFFF) ^^^ 0xFFFFFFFF

/-- The CRC register after one bit, for the unreflected CRC-16 of R359. -/
def crc16Bits : Nat → Nat → Nat
  | 0, c => c
  | n + 1, c => crc16Bits n (if c.testBit 15 then ((c <<< 1) ^^^ 0x1021) % 65536 else (c <<< 1) % 65536)

/-- CRC-16 of R359: polynomial 0x1021, initial value 0xFFFF, no reflection, no final exclusive-or. -/
def crc16 (bs : List Byte) : Nat :=
  bs.foldl (fun c b => crc16Bits 8 (c ^^^ (b.toNat <<< 8))) 0xFFFF

/-- Put an element into a list before the first that it does not come after. -/
def insertBy {α : Type} (le : α → α → Bool) (x : α) : List α → List α
  | [] => [x]
  | y :: rest => if le x y then x :: y :: rest else y :: insertBy le x rest

/-- A list in order; elements of which neither comes before the other stay as they stood. -/
def sortBy {α : Type} (le : α → α → Bool) (xs : List α) : List α := xs.foldr (insertBy le) []

end Sys2Proof
end

