-- ==== Sys2Proof/Machine/Sha3.lean ====
section
/-! DEFINITION. SHA3-256 of FIPS 202, which R446 and R458 name: Keccak-f[1600] on 25 lanes of 64 bits. -/

namespace Sys2Proof.Sha3

/-- Rotate a 64-bit lane left. -/
def rotl (x n : Nat) : Nat := let n := n % 64; ((x <<< n) ||| (x >>> (64 - n))) % 2 ^ 64

/-- Rotation offsets of rho, lane x + 5 y. -/
def rho : List Nat := [0, 1, 62, 28, 27, 36, 44, 6, 55, 20, 3, 10, 43, 25, 39, 41, 45, 15, 21, 8, 18, 2, 61, 56, 14]

/-- One step of the round-constant register of FIPS 202, algorithm 5. -/
def lfsr (r : Nat) : Nat := if r.testBit 7 then ((r <<< 1) ^^^ 0x171) % 256 else r <<< 1

/-- The register after `n` steps. -/
def lfsrN : Nat → Nat
  | 0 => 1
  | n + 1 => lfsr (lfsrN n)

/-- Round constant of round i. -/
def rc (i : Nat) : Nat :=
  (List.range 7).foldl (fun acc j => if (lfsrN (j + 7 * i)).testBit 0 then acc + 2 ^ (2 ^ j - 1) else acc) 0

/-- One round of Keccak-f[1600]. -/
def round (a : List Nat) (i : Nat) : List Nat :=
  let g (x y : Nat) := a.getD (x % 5 + 5 * (y % 5)) 0
  let c := (List.range 5).map fun x => g x 0 ^^^ g x 1 ^^^ g x 2 ^^^ g x 3 ^^^ g x 4
  let d := (List.range 5).map fun x => c.getD ((x + 4) % 5) 0 ^^^ rotl (c.getD ((x + 1) % 5) 0) 1
  let t := a.mapIdx fun k v => v ^^^ d.getD (k % 5) 0
  let b := (List.range 25).map fun k =>
    let x := k % 5
    let y := k / 5
    let sx := (x + 3 * y) % 5
    rotl (t.getD (sx + 5 * x) 0) (rho.getD (sx + 5 * x) 0)
  let h (x y : Nat) := b.getD (x % 5 + 5 * y) 0
  let e := (List.range 25).map fun k => h k (k / 5) ^^^ (((2 ^ 64 - 1) ^^^ h (k % 5 + 1) (k / 5)) &&& h (k % 5 + 2) (k / 5))
  e.mapIdx fun k v => if k = 0 then v ^^^ rc i else v

/-- Keccak-f[1600]. -/
def keccakF (a : List Nat) : List Nat := (List.range 24).foldl round a

/-- The message with the padding of SHA3: 0x06, zeros, 0x80 in the last byte of a 136-byte block. -/
def pad (bs : List Byte) : List Byte :=
  let k := 136 - bs.length % 136
  if k = 1 then bs ++ [0x86] else bs ++ [0x06] ++ List.replicate (k - 2) 0 ++ [0x80]

/-- Absorb the blocks of a padded message. -/
def absorb : Nat → List Byte → List Nat → List Nat
  | 0, _, a => a
  | n + 1, bs, a =>
    if bs = [] then a
    else absorb n (bs.drop 136) (keccakF (a.mapIdx fun k v => if k < 17 then v ^^^ ofLeBytes ((bs.drop (8 * k)).take 8) else v))

/-- The 32-byte digest. -/
def sha3 (bs : List Byte) : List Byte :=
  let p := pad bs
  ((absorb (p.length / 136) p (List.replicate 25 0)).take 4).flatMap (leBytes 8)

end Sys2Proof.Sha3
end

