-- ==== Sys2Proof/Machine/State.lean ====
section
/-! DEFINITION. The state of the module as plain data: every register, FIFO, buffer, counter, mode and pin the spec gives it, the
queue of waiting commands, and the state after reset. Each field's docstring names its width, its rule and its reset value. -/

namespace Sys2Proof.Machine

/-- Why the module stops. No command of this block ends in a fault: every trouble the spec describes is an event (R433) and a
next state. -/
inductive Fault where
  /-- Raised by no command; a fault type needs a name. Safe: the model never stops with it. -/
  | none
deriving DecidableEq, Repr

/-- Why a command has no meaning. -/
inductive Refusal where
  /-- Raised by Dispatch.lean only, for a command without a meaning yet. Safe: nothing is claimed of it. -/
  | notModelled (mnemonic : String)
  /-- Raised by a command that meets a cell of a state table which the spec marks "cannot occur" (R239), or by a packet
  that R331 says cannot be ahead: the spec gives no effect there. Safe: the model stops where the spec says the hardware never is. -/
  | cannotOccur (mnemonic : String)
deriving DecidableEq, Repr

/-! ### Contexts -/

/-- Step states of R239 in the coding of R299. -/
inductive StepState where
  | running | bent | armed | inDoubt | voiding | stopped
deriving DecidableEq, Repr

/-- Ring states of R369 in the coding of R364. -/
inductive RingState where
  | active | blocked | torn | stalled | halted | orphaned
deriving DecidableEq, Repr

/-- The causes of waiting of an operation in the window (R86): the starve causes, in order. -/
inductive Wait where
  | collective | queueCredit | queueArrival | page | firing | hostInput | demandMiss | sibling | other
deriving DecidableEq, Repr

/-- How far an operation of the dispatch window has come (R85). -/
inductive OpState where
  | waiting | running | finished
deriving DecidableEq, Repr

/-- An RDMA READ that an operation of the window needs (R18, R346, R371). -/
structure HostRead where
  /-- host address under R350. -/
  addr : Nat
  len : Nat
  /-- host port of the queue pair that it has gone out on; none while it is held. -/
  port : Option Nat := none
  /-- bytes of it that have come, and whether it is complete. -/
  got : Nat := 0
  done : Bool := false
deriving DecidableEq, Repr

/-- An operation in the dispatch window (R85). -/
structure WinOp where
  /-- command position; 64 bits; R357 (13). -/
  pos : Nat
  /-- the 128-byte descriptor as fetched; R84 (04). -/
  desc : Desc
  /-- waiting, dispatched, or finished with its completion held under R383. -/
  st : OpState := .waiting
  /-- what a dispatched operation waits for, if anything; R86 (04). -/
  wait : Option Wait := none
  /-- the step it belongs to; R232 (09). -/
  step : Nat := 0
  /-- the once-per-wait event (0x06C3, 0x0543, 0x0704) has been raised; R102, R338, R276. -/
  told : Bool := false
  /-- the self-blocked event 0x0709 has been raised for this wait; R277 (10). -/
  toldBlocked : Bool := false
  /-- its place in the dispatch order of the operations in the window; R271 (10). -/
  turn : Nat := 0
  /-- what it has to report so far, kept over a page-wait and while it is finished but held: IEEE flags, saturated and invalid groups, its
  own counts, and the numerics events to raise at its end; R48, R49 (02), R273 (10), R185 (07), R505 (13). -/
  flags : Nat := 0
  sat : Nat := 0
  inv : Nat := 0
  own : List Nat := []
  events : List (Nat × Nat) := []
  /-- work already done by a page-waiting operation: slots written; R276 (10). -/
  progress : Nat := 0
  /-- a kiln operation that could go on, but one of its kilns serves another context; R81, R82 (04). -/
  due : Bool := false
  /-- numerics events already raised; R50 (02). -/
  seen : List Nat := []
  /-- outbound writes it still waits for; R505 (13). -/
  writes : Nat := 0
  /-- host address and bytes of what it waits for: the unread remainder of a READ; R371 (13). -/
  asked : Option (Nat × Nat) := none
  /-- its RDMA READs, oldest first: those of its descriptor go out before it is dispatched; R18 (01), R346, R350 (13). -/
  reads : List HostRead := []
  /-- IEEE flags that setter adders reported for it, bits 0 to 4 invalid, division by zero, overflow, underflow, inexact; R184. -/
  adderFlags : Nat := 0
  /-- lanes in which setter adders met an exception for it, and the first target; R184, R190. -/
  adderExc : Nat := 0
  adderFirst : Nat := 0
deriving DecidableEq, Repr

/-- An entry of an event ring before it is written (R365). -/
structure Entry where
  kind : Nat
  outcome : Nat
  code : Nat
  context : Nat
  position : Nat
  step : Nat
  datum : Nat
  tag : Nat
  /-- 24 payload bytes as a number; R502 (16). -/
  payload : Nat
deriving DecidableEq, Repr

/-- What an outbound RDMA WRITE carries (R361, R505). -/
inductive WriteKind where
  | entry (eventPos : Nat)
  | tally (step : Nat) (last : Bool) (endPos : Nat)
  | status
  | output (pos : Nat)
  /-- output of an operation that a void has taken from the window. -/
  | left
deriving DecidableEq, Repr

/-- An RDMA WRITE of the module that the host has not acknowledged (R361, R505). -/
structure HostWrite where
  /-- host address under R350, in the form of the ring or descriptor. -/
  addr : Nat
  bytes : List Byte
  kind : WriteKind
  /-- host port of the queue pair it travels on. -/
  port : Nat
  /-- times it was transmitted again; R505 (13). -/
  resent : Nat := 0
  /-- whether it has gone out on its queue pair; one that finds none is held; R350, R505 (13). -/
  sent : Bool := true
  /-- bytes of it that are acknowledged; R505 (13). -/
  acked : Nat := 0
deriving DecidableEq, Repr

/-- A shadow parcel of the unfired step (R229). -/
structure Shadow where
  frame : Nat
  /-- false when no fill was made because one operation writes all of it; R229 (09). -/
  filled : Bool
  /-- the frame of the fired contents, if any. -/
  old : Option Nat
deriving DecidableEq, Repr

/-- A shadow that has fired and whose entry the commit walk has not written yet (R236). -/
structure FiredShadow where
  frame : Nat
  old : Option Nat
  step : Nat
deriving DecidableEq, Repr

/-- What a conversion of the step did to one carried-scale code (R107). -/
structure CarriedWrite where
  /-- context address of C[g]. -/
  addr : Nat
  /-- 0 a carried-scale conversion that did not saturate, 1 one that did, 2 a rebase. -/
  kind : Nat
  /-- command position of the operation. -/
  pos : Nat
  /-- the code a rebase wrote. -/
  code : Nat
deriving DecidableEq, Repr

/-- One GATHER_POOL of a batch (R140). -/
structure Ordinal where
  pos : Nat
  desc : Desc
  done : Bool := false
  scattered : Bool := false
  /-- its key is closed under STRICT; R150 (06). -/
  closed : Bool := false
  /-- the resolved index list: lookup position, row, or nothing when dropped. -/
  rows : List (Option Nat) := []
  /-- the bags as numbers of lookups. -/
  bagLens : List Nat := []
  /-- F32 weights by position, empty when unweighted. -/
  weights : List Nat := []
deriving DecidableEq, Repr

/-- One entry of a coalescer map (R140, R141). -/
structure CoalEntry where
  table : Nat
  row : Nat
  slices : Nat
  slab : Nat
  mult : Nat
  updated : Bool := false
  /-- the slice as its coalescer's hot-slice store holds it; R158 (06). -/
  hot : Option (List Byte) := none
deriving DecidableEq, Repr

/-- A batch of embedding operations (R140). -/
structure Batch where
  handle : Nat
  slabAddr : Nat
  bufAddr : Nat
  granules : Nat
  ords : List Ordinal := []
  entries : List CoalEntry := []
deriving DecidableEq, Repr

/-- A two-phase migration (R155, R156). -/
structure Migration where
  parcel : Nat
  /-- 0 die 0, 1 die 1, 2 flash. -/
  dest : Nat
  /-- frame of the copy, for a DRAM destination. -/
  frame : Nat
  /-- contents of the copy for a flash destination. -/
  image : List Host.Cell := []
  /-- 64-bit dirty mask by record; R155 (06). -/
  dirty : Nat := 0
  /-- false COPYING, true PENDING. -/
  pending : Bool := false
  /-- position of its MIGRATE. -/
  pos : Nat
deriving DecidableEq, Repr

/-- An announcement (R205): the step its list belongs to, the announcing step, the parcels held. -/
structure Announce where
  target : Nat
  by_ : Nat
  parcels : List Nat
deriving DecidableEq, Repr

/-- A tally record held in DRAM (R249). -/
structure Tally where
  step : Nat
  bytes : List Byte
  fired : Bool := false
  delivered : Bool := false
  journaled : Bool := false
  /-- frames of the free parcel pool that hold it; R249 (09). -/
  frames : List Nat := []
  /-- bytes of it handed to the tally ring. -/
  written : Bool := false
  /-- event 0x010C raised; R367 (13). -/
  tooBig : Bool := false
  /-- tally_pos after it, once written, and its last RDMA WRITE is acknowledged; R248, R367. -/
  endPos : Nat := 0
  acked : Bool := false
deriving DecidableEq, Repr

/-- Counts of one end of a pipeline queue in the step (R98). -/
structure QueueEnd where
  id : Nat
  sends : Nat := 0
  recvs : Nat := 0
  releases : Nat := 0
  /-- credits returned by the peer. -/
  credits : Nat := 0
  /-- bytes of each send number that have arrived. -/
  arrived : List (Nat × Nat) := []
  /-- size of each send number, once its last packet came. -/
  sizes : List (Nat × Nat) := []
deriving DecidableEq, Repr

/-- One peer of a collective in flight (R329). -/
structure Peer where
  /-- job rank. -/
  rank : Nat
  sendBytes : Nat
  recvBytes : Nat
  /-- its READY has come. -/
  ready : Bool := false
  /-- the stream for this peer, once this member has it. -/
  out : Option (List Byte) := none
  /-- the stream for this peer has been sent. -/
  sent : Bool := false
  /-- stream bytes that have come. -/
  got : Nat := 0
  /-- bytes come and the coll's clock after each packet: the order of arrival; R320 (12). -/
  marks : List (Nat × Nat) := []
  /-- the bytes that have come, by stream offset, unlisted 0. -/
  buf : List Host.Cell := []
  /-- every byte of it is placed and FINISH sent. -/
  finSent : Bool := false
  finGot : Bool := false
  /-- its start datum. -/
  start : Option Nat := none
deriving DecidableEq, Repr

/-- An entry of a move list (R327). -/
structure Move where
  /-- team rank. -/
  peer : Nat
  recv : Bool
  addr : Nat
  bytes : Nat
deriving DecidableEq, Repr

/-- A collective in flight (R328, R329). -/
structure Coll where
  pos : Nat
  desc : Desc
  opcode : Nat
  tag : Nat
  seq : Nat
  epoch : Nat
  start : Nat
  /-- job ranks in team-rank order. -/
  team : List Nat
  /-- job rank of the parent in the tree; none at a root and in a star or direct collective. -/
  parent : Option Nat := none
  /-- job ranks of the children, in increasing position. -/
  kids : List Nat := []
  peers : List Peer := []
  /-- the member's own contribution: one stream for each shard. -/
  own : List (List Byte) := []
  moves : List Move := []
  /-- the stream of the result, once known. -/
  result : Option (List Byte) := none
  /-- groups that the leaf's conversion saturated. -/
  leafSat : List Nat := []
  /-- ranges of state that its start has read; R229 (09). -/
  reads : List (Nat × Nat) := []
  /-- packets that have come, for the order of arrival. -/
  clock : Nat := 0
  /-- what it waits for: the peer, and READY, DATA or FINISH; R338, R344 (12). -/
  waited : Option (Nat × Nat) := none
  /-- what the operation reports so far (R48): IEEE flags, saturated and invalid groups, events. -/
  flags : Nat := 0
  sat : Nat := 0
  inv : Nat := 0
  events : List (Nat × Nat) := []
deriving DecidableEq, Repr

/-- A READY recorded before its collective started (R329). -/
structure EarlyReady where
  tag : Nat
  seq : Nat
  rank : Nat
  opcode : Nat
  sendBytes : Nat
  recvBytes : Nat
  start : Nat
  epoch : Nat
  step : Nat
  attempt : Nat
deriving DecidableEq, Repr

/-- A logged page action of an unfired step (R268). -/
inductive PageAct where
  /-- the frame's count went up by one; its generation then. -/
  | inc (pool frame generation : Nat)
  /-- a decrement that waits for the firing; the generation of the entry given up, and whether its block was full in every layer. -/
  | dec (pool frame generation : Nat) (full : Bool)
  /-- bytes of the sequence area before a change: module address, value, size. -/
  | old (addr value size : Nat)
  /-- the pinned flag of a sequence is to be cleared at the firing. -/
  | unpin (seq : Nat)
  /-- the record is to be closed at the firing. -/
  | close (seq : Nat)
deriving DecidableEq, Repr

/-- A context (R79): everything that belongs to one of the 1,024 contexts, beside its set-up registers. -/
structure Ctx where
  /-- enabled; 1 bit; R468, R483 (17). Reset: false (R408). -/
  enabled : Bool := false
  /-- LOADING; 1 bit; R255 (09). Reset: false. -/
  loading : Bool := false
  /-- step state; R239 (09). Reset: STOPPED, as R468 leaves an enabled context. -/
  step : StepState := .stopped
  /-- fired-step register F; 64 bits; R232 (09). Reset: 0 (R468). -/
  fired : Nat := 0
  /-- layout epoch E; 32 bits; R334 (12). Reset: 0. -/
  epoch : Nat := 0
  /-- E at the last firing; 32 bits; R334 (12). Reset: 0. -/
  firedEpoch : Nat := 0
  /-- rollbacks since the last firing, the attempt of R330; R330 (12). Reset: 0. -/
  attempt : Nat := 0
  /-- the context may run without a launch; R399, R468. Reset: true. -/
  fresh : Bool := true
  /-- D of the FIRE held; 64 bits; R235 (09). Reset: none. -/
  fireD : Option Nat := none
  /-- the member has bent its cone; R233 (09). Reset: false. -/
  selfBent : Bool := false
  /-- BENT messages that have arrived: rank, step; R234 (09). Reset: none. -/
  bentFrom : List (Nat × Nat) := []
  /-- BENT has gone to the parent; R234 (09). Reset: false. -/
  bentSent : Bool := false
  /-- first abort cause of the step: originating rank, event code; R241 (09). Reset: none. -/
  cause : Option (Nat × Nat) := none
  /-- the leader has sent VOID for the step; R234 (09). Reset: false. -/
  voidSent : Bool := false
  /-- ranks found lost; R234 (09). Reset: none. -/
  lostRanks : List Nat := []
  /-- enter STOPPED at the end of the switch or rollback; R239 (09). Reset: false. -/
  stopAfter : Bool := false
  /-- disable at the end of the switch, rollback or resolution; R468 (17). Reset: false. -/
  disableAfter : Bool := false
  /-- position, datum of start and tag of the CONE that waits in step 4 or 5 of R233. Reset: none. -/
  coneAt : Option (Nat × Nat × Nat) := none
  /-- event 0x0608 raised for this wait; R261 (09). Reset: false. -/
  heldTold : Bool := false
  /-- event 0x0409 raised for this firing, which the backlog holds; R211 (08). Reset: false. -/
  backTold : Bool := false
  /-- datum of the previous switch; 64 bits; R245 (09). Reset: 0. -/
  lastSwitch : Nat := 0
  /-- datum of this step's bend and of the last fired step's bend, to which its record's throttle entries reach; R245 (09).
  Reset: 0, 0. -/
  bendDatum : Nat := 0
  lastBend : Nat := 0
  /-- the previous firing was late; R237 (09). Reset: false. -/
  late : Bool := false
  /-- the step saw a DEGRADED port or link replays up to here: replay count at the last switch; R245 (09). Reset: 0. -/
  replaysAt : Nat := 0
  /-- a port ran DEGRADED in the interval; R245 (09). Reset: false. -/
  degraded : Bool := false
  /-- STRICT as adopted; 1 bit; R381 (14). Reset: false. -/
  strict : Bool := false
  /-- tree_digest of the member list in force; 128 bits; R387 (14). Reset: 0. -/
  treeDigest : Nat := 0
  /-- the context's determinism signature; 32 bytes as a number; R388 (14). Reset: 0. -/
  signature : Nat := 0
  /-- registers committed and waiting for the next firing: address, value; R427 (15). Reset: none. -/
  pendingRegs : List (Nat × Nat) := []
  /-- an armed launch: step field, L; R398 (14). Reset: none. -/
  launch : Option (Nat × Nat) := none
  /-- ring state; R369 (13). Reset: ACTIVE (DESIGN CHOICE, log entry 9). -/
  ring : RingState := .active
  /-- state held before ORPHANED; R369 (13). Reset: ACTIVE. -/
  ringBefore : RingState := .active
  /-- event code of the last change of ring state; 16 bits; R364 (13). Reset: 0. -/
  ringReason : Nat := 0
  /-- next command position to be fetched; 64 bits; R349 (13). Reset: 0 (R357). -/
  fetchPos : Nat := 0
  /-- first descriptor of the current step; 64 bits; R362 (13). Reset: 0. -/
  retirePos : Nat := 0
  /-- CMD_PRODUCER; 64 bits; R360 (13). Reset: 0. -/
  cmdProducer : Nat := 0
  /-- EVENT_CONSUMER; 64 bits; R360 (13). Reset: 0. -/
  eventConsumer : Nat := 0
  /-- next event position; 64 bits; R349 (13). Reset: 0. -/
  eventPos : Nat := 0
  /-- event_pos as the status block may show it: every write before it acknowledged; R361 (13). Reset: 0. -/
  eventAcked : Nat := 0
  /-- TALLY_CONSUMER; 64 bits; R360 (13). Reset: 0. -/
  tallyConsumer : Nat := 0
  /-- next tally byte position to be written; 64 bits; R349 (13). Reset: 0. -/
  tallyPos : Nat := 0
  /-- tally_pos past the last delivered record; R364, R367 (13). Reset: 0. -/
  tallyDone : Nat := 0
  /-- step of the last tally record delivered; 64 bits; R364 (13). Reset: 0. -/
  deliveredStep : Nat := 0
  /-- position of the descriptor that is not valid, and the re-reads made; R363 (13). Reset: none. -/
  reread : Option (Nat × Nat) := none
  /-- step to which the next fetched descriptor belongs, relative to F: CONEs fetched; R232 (09). Reset: 0. -/
  conesFetched : Nat := 0
  /-- dispatch window; at most 256; R85 (04). Reset: empty. -/
  window : List WinOp := []
  /-- entries that wait to be written; at most 4,096 beside completions and operation events; R366 (13). Reset: empty. -/
  entryq : List Entry := []
  /-- entries dropped since the last one written; R366 (13). Reset: 0. -/
  lostEntries : Nat := 0
  /-- a status field changed since the last status write; R364 (13). Reset: false. -/
  statusDirty : Bool := false
  /-- when its status block was last written; R364 (13). Reset: never. -/
  statusAt : Option Nat := none
  /-- outbound RDMA WRITEs not yet acknowledged, oldest first; R361, R505 (13). Reset: empty. -/
  writes : List HostWrite := []
  /-- port of the keep-alive read outstanding; R372 (13). Reset: none. -/
  keepRead : Option Nat := none
  /-- operations whose host reads have stalled; R371 (13). Reset: none. -/
  stalledReads : List Nat := []
  /-- the ring lies outside its window, event 0x0105 raised; R356 (13). Reset: false. -/
  ringOut : Bool := false
  /-- shadow table of the unfired step, by parcel; R229 (09). Reset: empty. -/
  shadows : List (Nat × Shadow) := []
  /-- fired shadow table for the commit walk, by parcel; R236 (09). Reset: empty. -/
  firedShadows : List (Nat × FiredShadow) := []
  /-- carried-scale effects of the step; R107 (05). Reset: none. -/
  carried : List CarriedWrite := []
  /-- watch records updated in the step: address; R114 (05). Reset: none. -/
  watches : List Nat := []
  /-- open batches; R140 (06). Reset: none. -/
  batches : List Batch := []
  /-- migrations of the step; R155 (06). Reset: none. -/
  migrations : List Migration := []
  /-- frames of the shadow reserve that hold the dirty masks of the step's migrations; R154 (06). Reset: none. -/
  maskFrames : List Nat := []
  /-- frames of the shadow reserve that hold the shadow table of the unfired step, 256 entries each; R229, R231 (09). Reset: none. -/
  tableFrames : List Nat := []
  /-- frames that hold the fired shadow table, until the commit walk is through; R231, R236 (09). Reset: none. -/
  firedTable : List Nat := []
  /-- announcements in force; R205 (08). Reset: none. -/
  announces : List Announce := []
  /-- tally records held, at most two; R249 (09). Reset: none. -/
  tallies : List Tally := []
  /-- demand misses of the step: count, stall in ns; R206 (08). Reset: 0, 0. -/
  stepMisses : Nat × Nat := (0, 0)
  /-- queue counts of the step; R98 (04). Reset: none. -/
  queues : List QueueEnd := []
  /-- collectives in flight, at most 16; R328 (12). Reset: none. -/
  colls : List Coll := []
  /-- next sequence of each tag; 16 bits; R328 (12). Reset: none. -/
  collSeq : List (Nat × Nat) := []
  /-- recorded READYs, at most 64; R329 (12). Reset: none. -/
  earlyReady : List EarlyReady := []
  /-- largest lag of the step: rank, lag in ns; R341 (12). Reset: none. -/
  lag : Option (Nat × Int) := none
  /-- logged page actions of the step, newest first; R268 (10). Reset: none. -/
  pageActs : List PageAct := []
  /-- check-line digests received for a step: rank, step, digest; R252 (09). Reset: none. -/
  digests : List (Nat × Nat × Nat) := []
  /-- the fired steps whose digests are due, oldest first, each with the digest of its checked lots as fired; R252 (09). Reset: none. -/
  checkDue : List (Nat × Nat) := []
  /-- hearth step h of the context; 64 bits; R209 (08). Reset: 0. -/
  hearth : Nat := 0
  /-- the step above h that a seal made F: h goes on from it once no copy is dirty since it or before; R209, R255 (log entry 84).
  Reset: none. -/
  rebase : Option Nat := none
  /-- demand misses; 32 bits RC; R220 (08). Reset: 0. -/
  missCount : Nat := 0
  /-- demand-miss stall in ns; 64 bits RC; R220 (08). Reset: 0. -/
  missStall : Nat := 0
  /-- descriptor re-reads; 32 bits RC; R378 (13). Reset: 0. -/
  rereadCount : Nat := 0
  /-- read retries; 32 bits RC; R378 (13). Reset: 0. -/
  retryCount : Nat := 0
  /-- doorbell values ignored as lower; 32 bits RC; R378 (13). Reset: 0. -/
  ignoredCount : Nat := 0
  /-- events dropped; 32 bits RC; R378 (13). Reset: 0. -/
  droppedCount : Nat := 0
  /-- starve counts by cause; 9 counts of 64 bits RC; R86, R483. Reset: 0. -/
  starve : List (Nat × Nat) := []
  /-- demand-missed parcels that operations wait for; R206 (08). Reset: none. -/
  missing : List Nat := []
  /-- the datum at which each of them was missed; R206 (08). Reset: none. -/
  missedAt : List (Nat × Nat) := []
  /-- copies of flash-only parcels that serve reads of this step alone: parcel, frame; R201, R206 (08). Reset: none. -/
  lent : List (Nat × Nat) := []
  /-- memory events that operations of the step have raised, by command position and code; R192 (07). Reset: none. -/
  memTold : List (Nat × Nat) := []
  /-- watch records that the step's firing reports, with their runs, as its CONE read them; R114 (05), R174 (07). Reset: none. -/
  quiet : List (Nat × Nat) := []
deriving DecidableEq, Repr

/-! ### Kilns -/

/-- Kiln states of R83 in the coding of R471. -/
inductive KilnState where
  | idle | running | starving | switching
deriving DecidableEq, Repr

/-- The vector unit and scalar sequencer of a kiln (R75, R93, R94). -/
structure Vu where
  /-- 32 vector registers of 512 lanes of 32 bits, by number; unlisted is +0; R94 (04). Reset: +0. -/
  v : List (Nat × Nat) := []
  /-- predicate registers p1 to p7 of 512 bits, by number; unlisted is all ones; R94 (04). Reset: all ones. -/
  p : List (Nat × Nat) := []
  /-- 16 scalar registers of 64 bits; unlisted is 0; R94 (04). Reset: 0 (DESIGN CHOICE, log entry 9). -/
  s : List (Nat × Nat) := []
  /-- branch flag; 1 bit; R94 (04). Reset: false. -/
  flag : Bool := false
  /-- instruction index in the program; R94 (04). Reset: 0. -/
  pc : Nat := 0
  /-- loop stack: start index, end index, remaining count; at most 4; R94 (04). Reset: empty. -/
  loops : List (Nat × Nat × Nat) := []
  /-- instructions executed in the block; R94 (04). Reset: 0. -/
  count : Nat := 0
  /-- IEEE flags gathered, as bits 0 to 4; R48 (02). Reset: 0. -/
  flags : Nat := 0
  /-- saturated and invalid flag groups written by VSTN; R48, R94. Reset: 0, 0. -/
  groups : Nat × Nat := (0, 0)
  /-- shelf ranges a program may reach: base, bytes; R94 (04). Reset: none. -/
  bufs : List (Nat × Nat) := []
  /-- seed of VRAND; 64 bits; R93 (04). Reset: 0. -/
  seed : Nat := 0
  /-- context and position of the VECTOR operation it serves; R94 (04). Reset: 0, 0. -/
  owner : Nat × Nat := (0, 0)
  /-- the block has ended by HALT; R94 (04). Reset: false. -/
  halted : Bool := false
deriving DecidableEq, Repr

/-- One kiln (R75, R83). -/
structure Kiln where
  /-- state of R83; 2 bits; R471 (17). Reset: IDLE. -/
  st : KilnState := .idle
  /-- context loaded, if any; 10 bits and a flag; R471 (17). Reset: none. -/
  ctx : Option Nat := none
  /-- context being switched to; R82 (04). Reset: none. -/
  next : Option Nat := none
  /-- context it left last, after which R81 counts; R81 (04). Reset: none. -/
  left : Option Nat := none
  /-- the outgoing state is to be saved; R83 (04). Reset: false. -/
  save : Bool := false
  /-- vector unit; R75 (04). Reset: as Vu. -/
  vu : Vu := {}
  /-- saggars 0 and 1: 16,384 F32 words each, by index, unlisted 0; R75 (04). Reset: 0 (DESIGN CHOICE, log entry 9). -/
  saggar0 : List (Nat × Nat) := []
  /-- saggar 1; R75 (04). Reset: 0 (DESIGN CHOICE, log entry 9). -/
  saggar1 : List (Nat × Nat) := []
  /-- 64 KiB resident blocks written since the last restore; R82 (04). Reset: none. -/
  dirty : List Nat := []
  /-- starve counts by cause; nine of 64 bits RC; R485 (17). Reset: 0. -/
  starve : List (Nat × Nat) := []
  /-- datum at which the kiln took its context, and at which it entered its state; R81 (04). Reset: 0, 0. -/
  takenAt : Nat := 0
  since : Nat := 0
  /-- cause that the starving is counted against; R86 (04). Reset: none. -/
  starving : Option Wait := none
  /-- datum up to which the starve cycles are counted; R86 (04). Reset: 0. -/
  counted : Nat := 0
deriving DecidableEq, Repr

/-! ### Bonded memory -/

/-- Error counters of a channel (R171, R172). -/
structure Chan where
  corrected : Nat := 0
  /-- corrected bursts with 1 to 4 symbols; 4 x 16 bits RC. -/
  by1 : Nat := 0
  by2 : Nat := 0
  by3 : Nat := 0
  by4 : Nat := 0
  uncorrectable : Nat := 0
  addrFaults : Nat := 0
  /-- corrected bursts of the current window; R172 (07). -/
  window : Nat := 0
  /-- event 0x0301 raised in this window. -/
  told : Bool := false
  /-- datum of the last refresh; R177 (07). -/
  refreshed : Nat := 0
deriving DecidableEq, Repr

/-- One DRAM stack's thermal and refresh state (R177 to R182). -/
structure Stack where
  /-- 13 sensor readings in 0.25 degrees C: layers 0 to 11, setter die; R179, R473. Reset: 0 (R473 SET_TEMP resets to 0). -/
  temps : List (Nat × Int) := []
  /-- faulty sensors; R179 (07). Reset: none. -/
  faulty : List Nat := []
  /-- issue level in percent; R180 (07). Reset: 100. -/
  level : Nat := 100
  /-- hard throttle; R180 (07). Reset: false. -/
  hard : Bool := false
  /-- refresh interval doubled; R177 (07). Reset: false. -/
  doubled : Bool := false
  /-- tripped; R182 (07). Reset: false. -/
  tripped : Bool := false
  /-- in self-refresh on its own oscillator; R178 (07). Reset: false. -/
  selfRefresh : Bool := false
  /-- hottest reading at the last 1 ms evaluation; R181 (07). Reset: 0. -/
  prev : Int := 0
  /-- datum since which every layer has read 82 degrees C or below; R177 (07). Reset: none. -/
  coolSince : Option Nat := none
deriving DecidableEq, Repr

/-- A STRICT order domain of the setter adders (R186). -/
structure Domain where
  id : Nat
  /-- keys below this one are closed. -/
  closed : Nat := 0
  held : List AdderUpdate := []
deriving DecidableEq, Repr

/-- The setter dies (R161 to R192). -/
structure Setter where
  /-- per channel, key 512 * die + channel; R171 (07). Reset: zeros. -/
  chans : List (Nat × Chan) := []
  /-- corrected and uncorrectable bursts per layer, key 12 * die + layer; 32 and 16 bits RC; R171 (07). Reset: 0. -/
  layers : List (Nat × Nat × Nat) := []
  /-- poison marks set, per die; 32 bits RC; R171 (07). Reset: 0, 0. -/
  poison0 : Nat := 0
  poison1 : Nat := 0
  /-- scrub passes, per die; 32 bits RO, wraps; R171 (07). Reset: 0, 0. -/
  scrub0 : Nat := 0
  scrub1 : Nat := 0
  /-- bursts that the present scrub pass has read, per die, as rising disjoint ranges from address to end; R176 (07). Reset: none. -/
  scrubbed0 : List (Nat × Nat) := []
  scrubbed1 : List (Nat × Nat) := []
  /-- start of the corrected-burst window in ns; R172 (07). Reset: 0. -/
  windowStart : Nat := 0
  /-- stack 0; R161 (07). Reset: as Stack. -/
  stack0 : Stack := {}
  /-- stack 1; R161 (07). Reset: as Stack. -/
  stack1 : Stack := {}
  /-- open order domains, at most 4,096; R186 (07). Reset: none. -/
  domains : List Domain := []
  /-- throttle steps since the reset: datum, stack, new level, kind (0 soft, 1 hard); R181, R245. Reset: none. -/
  throttles : List (Nat × Nat × Nat × Nat) := []
deriving DecidableEq, Repr

/-- Frames of one die: the shadow reserve and the free parcel pool (R231, R504). -/
structure Frames where
  /-- frames left in the reserve; R231 (09). Reset: 4,529,848 (6 % of 288 GiB). -/
  reserve : Nat := 4529848
  /-- frames left in the free parcel pool; R231 (09). Reset: the rest of the die. -/
  pool : Nat := 70967624
  /-- frames that the module has taken and not released, by number on the die, highest first; R504 (09). Reset: none. -/
  held : List Nat := []
deriving DecidableEq, Repr

/-- A key-value page frame (R267). -/
structure PFrame where
  count : Nat := 0
  generation : Nat := 0
  cls : Nat := 0
  /-- contexts whose unfired step has touched it. -/
  touch : List Nat := []
  lastUse : Nat := 0
deriving DecidableEq, Repr

/-! ### Flash tier -/

/-- A sector as it is programmed (R197): its metadata but for the CRC, and its data. -/
structure Sector where
  /-- 1 home, 2 journal, 4 home map, 6 witness, 0xFF none: a page was programmed before anything came into it. -/
  kind : Nat
  ctx : Nat := 0
  tag : Nat := 0
  step : Nat := 0
  /-- module write sequence number; 32 bits. -/
  sequence : Nat := 0
  /-- the 4,096 data bytes, offset and byte, unlisted 0. -/
  image : List Host.Cell := []
deriving DecidableEq, Repr

/-- A parcel's home (R198, R199). -/
structure Home where
  /-- bits [32:0] of the home map entry: channel, LUN, plane, block, page, sector. -/
  loc : Nat
  /-- fired step whose contents it holds. -/
  step : Nat
  lost : Bool := false
  /-- module write sequence number of its sector; 32 bits; R197 (08). -/
  sequence : Nat := 0
  /-- the 4,096 data bytes, offset and byte, unlisted 0. -/
  image : List Host.Cell := []
deriving DecidableEq, Repr

/-- An item of the journal stream (R207). -/
structure JItem where
  ctx : Nat
  /-- 1 tally record, 2 fired marker, 3 void marker. -/
  type : Nat
  step : Nat
  body : List Byte := []
  /-- byte offset of its frame in the journal stream. -/
  offset : Nat := 0
  /-- its sectors and the parity of their stripes are programmed. -/
  durable : Bool := false
  lost : Bool := false
deriving DecidableEq, Repr

/-- A flash block's record (R215 to R217), by key (8 * channel + LUN) * 8,192 + plane * 4,096 + block. -/
structure Block where
  cycles : Nat := 0
  reads : Nat := 0
  retired : Bool := false
  /-- powered time in ns at which its data was written; R217 (08). -/
  written : Option Nat := none
  /-- needs re-firing; R217 (08). -/
  refire : Bool := false
deriving DecidableEq, Repr

/-- The flash tier (R193 to R222). -/
structure Tier where
  /-- mounted; R213 (08). Reset: false (mounted by the cold start). -/
  mounted : Bool := false
  /-- home map, key context * 2^33 + parcel; R199 (08). Reset: empty (contents of flash at manufacture, log entry 10). -/
  homes : List (Nat × Home) := []
  /-- dirty-since step of each dirty DRAM copy, same key; R200 (08). Reset: none. -/
  dirtySince : List (Nat × Nat) := []
  /-- datum of the last use of a DRAM copy, same key; R202 (08). Reset: none. -/
  lastUse : List (Nat × Nat) := []
  /-- fired step at which MIGRATE placed a parcel in DRAM, same key; R202 (08). Reset: none. -/
  placed : List (Nat × Nat) := []
  /-- promotions queued, same key; R204 (08). Reset: none. -/
  promoq : List Nat := []
  /-- journal stream, oldest first; R207 (08). Reset: empty. -/
  journal : List JItem := []
  /-- end of the journal stream in bytes; R207 (08). Reset: 0. -/
  journalEnd : Nat := 0
  /-- journal stream bytes whose pages are programmed, parity or not; R211, R212 (08). Reset: 0. -/
  programmed : Nat := 0
  /-- the live journal exceeds TIER_JOURNAL_TARGET: cleaning has its floor share; R211 (08). Reset: false. -/
  raised : Bool := false
  /-- journalling stopped under mode 1; R211 (08). Reset: false. -/
  stopped : Bool := false
  /-- channels whose interface runs SDR instead of NV-LPDDR4; R194 (08). Reset: all 32, until their initialisation. -/
  sdr : List Nat := List.range 32
  /-- sectors programmed since the erase of their block, live or garbage, by the location of R199; R196 to R198 (08). Reset: none
  (contents of flash at manufacture, log entry 10). -/
  flash : List (Nat × Sector) := []
  /-- open stripes: number, channels of the data pages wholly written; R196 (08). Reset: none. -/
  stripes : List (Nat × List Nat) := []
  /-- closed stripes: their parity is programmed; R196 (08). Reset: none. -/
  shut : List Nat := []
  /-- contents of the parity pages programmed, by stripe: four sectors' data and metadata, unlisted 0; R196 (08). Reset: none. -/
  parity : List (Nat × List Host.Cell) := []
  /-- sectors of the journal stream: number, location, bytes of it programmed there; R207, R208 (08). Reset: none. -/
  stream : List (Nat × Nat × Nat) := []
  /-- frames of the free parcel pool that hold the home map, in its order; R199, R504. Reset: none. -/
  mapFrames : List Nat := []
  /-- locations of the home map's pages in the map area, by page; R195, R199 (08). Reset: none. -/
  mapPages : List (Nat × Nat) := []
  /-- powered time in ns up to the datum count `onAt`; R217 (08). Reset: 0, 0. -/
  powered : Nat := 0
  onAt : Nat := 0
  /-- blocks by key; R215 (08). Reset: fresh. -/
  blocks : List (Nat × Block) := []
  /-- channels out of service, and whether rebuilt; R218 (08). Reset: none. -/
  lostChannels : List (Nat × Bool) := []
  /-- read retries and reconstructions per channel; 2 x 32 bits RC; R220 (08). Reset: 0. -/
  recov : List (Nat × Nat × Nat) := []
  /-- datum of the last 0x0403 of each channel; R214 (08). Reset: none. -/
  recovTold : List (Nat × Nat) := []
  /-- promotions; 64 bits RO; R220 (08). Reset: 0. -/
  promotions : Nat := 0
  /-- cleanings; 64 bits RO; R220 (08). Reset: 0. -/
  cleanings : Nat := 0
  /-- demotions; 64 bits RO; R220 (08). Reset: 0. -/
  demotions : Nat := 0
  /-- announced parcels dropped; 32 bits RC; R220 (08). Reset: 0. -/
  dropped : Nat := 0
  /-- sectors lost; 32 bits RC; R220 (08). Reset: 0. -/
  sectorsLost : Nat := 0
  /-- page bytes written: journal, home, garbage collection, re-firing, parity; 5 x 64 bits RO; R220 (08). Reset: 0. -/
  bytesJournal : Nat := 0
  bytesHome : Nat := 0
  bytesGc : Nat := 0
  bytesRefire : Nat := 0
  bytesParity : Nat := 0
  /-- re-firings; 32 bits RO; R220 (08). Reset: 0. -/
  refirings : Nat := 0
  /-- user capacity in parcels; 64 bits RO; R215, R220. Reset: 6,442,450,944 (24 TiB). -/
  capacity : Nat := 6442450944
  /-- spare in MiB; R195, R215. Reset: 6,656 GiB. -/
  spareMiB : Nat := 6815744
  /-- homed state has reached the capacity, event 0x040B raised; R215 (08). Reset: false. -/
  full : Bool := false
  /-- write protect asserted; R212 (08). Reset: false. -/
  writeProtect : Bool := false
  /-- module write sequence number; 32 bits; R197 (08). Reset: 0. -/
  writeSeq : Nat := 0
  /-- wear notices given; R216 (08). Reset: none. -/
  wearTold : List Nat := []
  /-- retired blocks per LUN, key 8 * channel + LUN; 16 bits RO; R220 (08). Reset: 0. -/
  retired : List (Nat × Nat) := []
deriving DecidableEq, Repr

/-! ### Fabric -/

/-- Port states of R307 in the coding of R476. -/
inductive PortState where
  | disabled | training | traverse | up | degraded | quarantined | down
deriving DecidableEq, Repr

/-- One fabric port (R291, R301, R307, R311, R314). -/
structure Port where
  /-- state; 3 bits; R476 (17). Reset: DISABLED. -/
  st : PortState := .disabled
  /-- active lane mask; 4 bits; R476 (17). Reset: 0. -/
  lanes : Nat := 0
  /-- quarantine reason; 3 bits; R476 (17). Reset: 0. -/
  reason : Nat := 0
  /-- eye height in mV and width in 1/256 UI; 10 and 8 bits; R476 (17). Reset: 0. -/
  eyeHeight : Nat := 0
  eyeWidth : Nat := 0
  /-- next data flit sequence to send; 12 bits; R296 (11). Reset: 0. -/
  txSeq : Nat := 0
  /-- replay buffer, oldest first, at most 2,048; R301 (11). Reset: empty. -/
  replay : List Flit := []
  /-- next data flit sequence expected; 12 bits; R301 (11). Reset: 0. -/
  rxSeq : Nat := 0
  /-- data flits received since the last ack; R301 (11). Reset: 0. -/
  unacked : Nat := 0
  /-- a replay request has been sent and not yet served; R301 (11). Reset: false. -/
  asking : Bool := false
  /-- consecutive replays without the ack advancing; R303 (11). Reset: 0. -/
  stuck : Nat := 0
  /-- credits held for VC0 to VC3, in slots; R297 (11). Reset: the buffers' sizes at training. -/
  credits : List Nat := [64, 16384, 8192, 64]
  /-- slots freed and not yet reported, VC0 to VC3; R296 (11). Reset: 0. -/
  freed : List Nat := [0, 0, 0, 0]
  /-- packets that wait for credit or buffer, in order; R297 (11). Reset: empty. -/
  waiting : List Packet := []
  /-- packets partly received: packet, slots so far; R297 (11). Reset: none. -/
  partials : List (Packet × Nat) := []
  /-- the neighbour's most recent HELLO; R311 (11). Reset: none. -/
  neighbour : Option Packet := none
  /-- this end's own check has passed; R311 (11). Reset: false. -/
  passed : Bool := false
  /-- the neighbour's datum less this module's, measured at training and kept in step with the corrections since; R393, R394 (14). Reset: 0. -/
  offset : Int := 0
  /-- one-way delay to the neighbour in ns, measured at training; R393 (14). Reset: 0. -/
  delay : Nat := 0
  /-- replays; 32 bits RC; R314 (11). Reset: 0. -/
  replays : Nat := 0
  /-- all replays since the reset, for R245; R301 (11). Reset: 0. -/
  replaysEver : Nat := 0
  /-- data flits sent and received; 2 x 64 bits RO; R314 (11). Reset: 0. -/
  flitsTx : Nat := 0
  flitsRx : Nat := 0
  /-- credit-stall cycles per VC; 4 x 32 bits RC; R314 (11). Reset: 0. -/
  stalls : List Nat := [0, 0, 0, 0]
  /-- since when a packet of each VC has waited for credit; R314 (11). Reset: none. -/
  stallSince : List (Option Nat) := [none, none, none, none]
  /-- packets wholly received on VC1 that wait in its buffer behind a READY for which there is no record free; R329 (12). Reset: none. -/
  vc1wait : List Packet := []
  /-- turns of the active lanes for the next codeword to send and to receive; R296 (11). Reset: 0. -/
  txTurn : Nat := 0
  rxTurn : Nat := 0
  /-- blocks sent on each lane, modulo 256; 4 x 8 bits; R294 (11). Reset: 0 (DESIGN CHOICE, log entry 96). -/
  blocks : List Nat := [0, 0, 0, 0]
  /-- collective and queue packets discarded as behind: datum of the last 0x0546, count since; R331, R344 (12). Reset: none. -/
  stale : Option (Nat × Nat) := none
  /-- what the lanes have shown within the last millisecond: datum, lane, corrected symbols, uncorrectable codewords; R304 (11). Reset:
  none. -/
  recent : List (Nat × Nat × Nat × Nat) := []
  /-- spares, link failures, quarantines; 3 x 16 bits RC; R314 (11). Reset: 0. -/
  spares : Nat := 0
  linkFailures : Nat := 0
  quarantines : Nat := 0
  /-- per lane: corrected symbols (64 bits), uncorrectable codewords (32), sync losses (16), RC; R314 (11). Reset: 0. -/
  laneCs : List Nat := [0, 0, 0, 0]
  laneUcw : List Nat := [0, 0, 0, 0]
  laneSync : List Nat := [0, 0, 0, 0]
deriving DecidableEq, Repr

/-! ### Hosts and the log -/

/-- A live queue pair (R346, R348). -/
structure Qp where
  conn : Conn
  /-- the RTU has arrived; R345 (13). -/
  est : Bool := false
  /-- closed by the module, DREP awaited; R345 (13). -/
  closing : Bool := false
  /-- rkey of the doorbell page or of the register space given in the REP; R349 (13). -/
  rkey : Nat := 0
  /-- RDMA READs that may be outstanding: 16, or fewer where the REQ offers fewer; R346 (13). -/
  reads : Nat := 16
deriving DecidableEq, Repr

/-- A flit as the module sends it (R296): kind (0 data, 1 idle, 2 replay request, 3 lane control), sequence, credit returns and ack, the lanes
that a lane-control flit leaves active, the slots it carries. -/
structure FlitOut where
  kind : Nat
  seq : Nat := 0
  hdr : FlitHdr
  mask : Nat := 0
  pieces : List Piece := []
deriving DecidableEq, Repr

/-- What the module sends to the outside: the wires. -/
inductive Output where
  /-- connection management: 1 REP, 2 REJ, 3 DREP, 4 DREQ; the connection; the private data bytes (R348, R349). -/
  | cm (kind : Nat) (conn : Conn) (priv : List Byte)
  /-- RDMA READ response data (R353). -/
  | readData (conn : Conn) (bytes : List Byte)
  /-- acknowledgement of an inbound RDMA WRITE. -/
  | writeAck (conn : Conn)
  /-- remote access error NAK (R352). -/
  | nak (conn : Conn)
  /-- a RDMA READ request of the module: context, host address, bytes (R362, R363, R371, R372). -/
  | readReq (ctx addr len : Nat)
  /-- an RDMA WRITE of the module: context or 0xFFFF for the steward, host address, bytes (R361, R505). -/
  | write (ctx addr : Nat) (bytes : List Byte)
  /-- a flit on a port, with the sync fields of the four blocks (`FlitOut.blocks`) that carry it, each naming its lane; R294, R296. -/
  | flit (port : Nat) (syncs : List Nat) (f : FlitOut)
  /-- a packet handed to the link of a port. -/
  | packet (port : Nat) (p : Packet)
  /-- a training pattern or electrical idle on a port: 1 training, 0 idle. -/
  | lanes (port on : Nat)
  /-- a management response: completion code and body (R457), or an MCTP or PLDM answer. -/
  | mgmt (code : Nat) (body : List Byte)
  /-- a pause or resume of a host port's transmission, or a rate response to congestion: port, kind (R345). -/
  | hostTx (port kind : Nat)
deriving DecidableEq, Repr

/-- Host attachment (R345 to R380). -/
structure HostIf where
  /-- live queue pairs, at most 2,049; R346 (13). Reset: none. -/
  qps : List Qp := []
  /-- host port link up, ports 0 and 1; R345 (13). Reset: down. -/
  up0 : Bool := false
  up1 : Bool := false
  /-- transmission paused by PFC; R345 (13). Reset: false. -/
  paused0 : Bool := false
  paused1 : Bool := false
  /-- steward ring position; 64 bits; R356 (13). Reset: 0. -/
  stewardPos : Nat := 0
  /-- entries that wait for a steward queue pair, at most 4,096; R356 (13). Reset: none. -/
  stewardq : List Entry := []
  /-- steward entries dropped since the last written; R356 (13). Reset: 0. -/
  stewardLost : Nat := 0
  /-- steward writes not acknowledged; R356 (13). Reset: none. -/
  stewardWrites : List HostWrite := []
  /-- port of the steward's keep-alive read outstanding; R373 (13). Reset: none. -/
  stewardKeep : Option Nat := none
  /-- the event_pos that the steward's status block last showed, and when it was written; R356, R364 (13). Reset: none. -/
  stewardStatus : Option (Nat × Nat) := none
  /-- a host refused a write of the steward ring: 1 until HST_STEWARD_RING is committed, then 2 until the next connection; R356
  (13). Reset: 0. -/
  stewardHold : Nat := 0
  /-- bytes read and written by the module, per port; 2 x 64 bits RO; R378 (13). Reset: 0. -/
  modRead : List Nat := [0, 0]
  modWritten : List Nat := [0, 0]
  /-- bytes read and written by hosts, per port; 2 x 64 bits RO; R378 (13). Reset: 0. -/
  hostRead : List Nat := [0, 0]
  hostWritten : List Nat := [0, 0]
  /-- retransmissions, NAKs received, CNPs received, per port; 3 x 32 bits RC; R378 (13). Reset: 0. -/
  retrans : List Nat := [0, 0]
  naks : List Nat := [0, 0]
  cnps : List Nat := [0, 0]
  /-- inbound accesses refused; 32 bits RC; R378 (13). Reset: 0. -/
  refused : Nat := 0
  /-- refused accesses by source in the current millisecond: source, datum of its event, count since; R380 (13). Reset: none. -/
  refusedIn : List (Nat × Nat × Nat) := []
deriving DecidableEq, Repr

/-- A trouble-log record (R436); the 40 body bytes as a number. -/
structure LogRec where
  seq : Nat
  datum : Nat
  code : Nat
  context : Nat
  kind : Nat
  flags : Nat
  origin : Nat
  body : Nat
deriving DecidableEq, Repr

/-- A witness record (R442), as captured. -/
structure WitRec where
  cause : Nat
  captureSeq : Nat
  datum : Nat
  /-- the 40 bytes after the datum and the digest, snapshot and context table: bytes 24 to 0x4FFF as a list of cells. -/
  head : List Host.Cell
  laterCount : Nat := 0
  laterFirst : Nat := 0
  records : List LogRec
deriving DecidableEq, Repr

/-- The trouble log and the witness record (R433 to R445). -/
structure Log where
  /-- TRB_LOG_HEAD; 64 bits; R439 (16). Reset: 0. -/
  head : Nat := 0
  /-- records, newest first, at most 16,384; R435 (16). Reset: empty. -/
  recs : List LogRec := []
  /-- witness SRAM, newest first, at most 704; R440 (16). Reset: empty. -/
  sram : List LogRec := []
  /-- the capture in progress; R441 (16). Reset: none. -/
  capture : Option WitRec := none
  /-- events of the boot ROM that wait for the SRAM to take records again, newest first; R434, R444 (16). Reset: none. -/
  romHeld : List LogRec := []
  /-- codes of the events raised since the reset before the module was READY, oldest first; R434 (16). Reset: none. -/
  start : List Nat := []
  /-- captures over the module's life; 64 bits, in flash; R442 (16). Reset: 0. -/
  captureSeq : Nat := 0
  /-- newest durable capture; R436 (16). Reset: none. -/
  durable : Option Nat := none
  /-- 16 witness slots by number; R443 (16). Reset: empty. -/
  slots : List (Nat × WitRec) := []
  /-- a capture that did not become durable: its sequence; R444 (16). Reset: none. -/
  incomplete : Option Nat := none
deriving DecidableEq, Repr

/-! ### Power, clocks, datum, trust, management -/

/-- Where the module stands in its life. -/
inductive Life where
  /-- the input is below its start level, or stopped (R421). -/
  | off
  /-- held in start-up (R407). -/
  | held
  /-- boot recovery (R449). -/
  | recovery
  /-- READY and running. -/
  | ready
  /-- silent after a loss of a system-class source, a trip, or during a warm reset: waits for recovery in place (R415, R416). -/
  | silent
deriving DecidableEq, Repr

/-- One frequency counter (R414). -/
structure Fcount where
  ctrl : Nat := 0
  count : Nat := 0
  valid : Bool := false
  outOfLimits : Bool := false
  limit : Nat := 0
  running : Bool := false
  /-- datum of the last 0x0805. -/
  told : Option Nat := none
deriving DecidableEq, Repr

/-- Power and clocks (R405 to R432). -/
structure Power where
  /-- stage of the module's life. Reset: off (before the cold start of R406). -/
  life : Life := .off
  /-- start-up step of R406; 4 bits; R470 (17). Reset: 0. -/
  startStep : Nat := 0
  /-- a cold start that waits in its step 2 for a clock or a die, with what it will meet and its cause; R406, R424 (15). Reset: none. -/
  startWait : Option (StartReport × Nat) := none
  /-- event that holds the start-up; R407, R449 (15, 16). Reset: 0, none. -/
  holdEvent : Nat := 0
  /-- unconfigured; 1 bit; R451 (16). Reset: false. -/
  unconfigured : Bool := false
  /-- PWR_STATE request; 2 bits; R419 (15). Reset: 0 RUN. -/
  request : Nat := 0
  /-- PWR_STATE current; 2 bits; R419 (15). Reset: 0 RUN. -/
  current : Nat := 0
  /-- state that a transition in progress leads to; R419 (15). Reset: none. -/
  transition : Option Nat := none
  /-- request held during a transition; R420 (15). Reset: none. -/
  heldReq : Option Nat := none
  /-- PWR_INPUT: mV, mA, W; 16 bits each; R422 (15). Reset: 0. -/
  mV : Nat := 0
  mA : Nat := 0
  watts : Nat := 0
  /-- the input is in an excursion outside 48 to 58 V; R421 (15). Reset: false. -/
  excursion : Bool := false
  /-- a power-fail warning is in force; R423 (15). Reset: false. -/
  failing : Bool := false
  /-- datum of that warning; R212 (08). Reset: none. -/
  failedAt : Option Nat := none
  /-- junction temperatures, key 4 * die + sensor (dies: 0, 1 kiln; 2, 3 flue); R424 (15). Reset: 0. -/
  dieTemps : List (Nat × Int) := []
  /-- dies hot in an excursion, dies tripped; R424 (15). Reset: none. -/
  hot : List Nat := []
  tripped : List Nat := []
  /-- sources lost now, by CLK_LOSS bit; 13 bits; R479 (17). Reset: none. -/
  lost : List Nat := []
  /-- sources lost since cleared, by bit; 13 bits W1C; R479 (17). Reset: none. -/
  lostSince : List Nat := []
  /-- frequency counters by number; R414 (15). Reset: zeros. -/
  fcount : List (Nat × Fcount) := []
  /-- cause of the recovery in place under way: 0 warm reset, 1 watchdog, 2 source returned; R416 (15). Reset: none. -/
  recovery : Option Nat := none
deriving DecidableEq, Repr

/-- Datum states of R394 in the coding of R436. -/
inductive DatumState where
  | unaligned | aligned | holdover | root
deriving DecidableEq, Repr

/-- The datum of the module (R390 to R396). -/
structure DatumSt where
  /-- state; 2 bits; R481 (17). Reset: UNALIGNED. -/
  st : DatumState := .unaligned
  /-- correction still to be slewed, in ns; R395 (14). Reset: 0. -/
  slew : Int := 0
  /-- upstream port in use; 3 bits; R481 (17). Reset: 0. -/
  port : Nat := 0
  /-- on the alternate; 1 bit; R481 (17). Reset: false. -/
  onAlt : Bool := false
  /-- hops to the root; 8 bits; R481 (17). Reset: 0. -/
  hops : Nat := 0
  /-- last correction in ns; 32 bits signed; R481 (17). Reset: 0. -/
  correction : Int := 0
  /-- datum of entry to HOLDOVER; R394 (14). Reset: 0. -/
  since : Nat := 0
  /-- the model's own: nanoseconds since the last one that a slew might add or hold, modulo 1,000; R395 (14). Reset: 0. -/
  phase : Nat := 0
deriving DecidableEq, Repr

/-- Firmware, configuration and identity (R446 to R460). -/
structure Trust where
  /-- SHA3-256 digests of the four vendor public keys in the boot ROM; 4 x 256 bits; R446 (16). Reset: those of the empty key (log entry
  10). -/
  romDigests : List (List Byte) := List.replicate 4 (Sha3.sha3 [])
  /-- firmware slots A and B in the boot area, first halves on flash channel 0 and second halves on channel 1; R447, R448. Reset: empty
  images that pass (contents of flash at manufacture, log entry 10). -/
  fwA : FwSlot := {}
  fwB : FwSlot := {}
  /-- channels (0, 1) whose copy of block 2 fails its CRC-32C or its signature; R447 (16). Reset: none. -/
  badCopies : List Nat := []
  /-- the rewrite area holds what block 2 was last written with; R447 (16). Reset: false, erased. -/
  rewritten : Bool := false
  /-- helper data of block 2; R447, R453 (16). Reset: empty (log entry 10). -/
  helper : List Byte := []
  /-- identity SRAM as it read at the last power cut; 4 KiB; R453 (16). Reset: empty. -/
  idSram : List Byte := []
  /-- key store: the identity's private key, kept over warm reset; R453 (16). Reset: none. -/
  keyStore : Option (List Byte) := none
  /-- slot selector, in block 2; R449 (16). Reset: A. -/
  selector : Nat := 0
  /-- running firmware slot; R480 (17). Reset: 0. -/
  running : Nat := 0
  /-- config slots A and B; R450 (16). Reset: none written. -/
  cfgA : Option CfgSlot := none
  cfgB : Option CfgSlot := none
  /-- config slot applied, 0xFF when unconfigured; R480 (17). Reset: 0xFF. -/
  cfgSlot : Nat := 255
  /-- owner record, in block 2; R450, R458. Reset: none. -/
  owner : Option OwnerRec := none
  /-- serial of the identity certificate, 0 when none can be read; 64 bits; R454 (16). Reset: 1 (DESIGN CHOICE, log entry 10). -/
  serial : Nat := 1
  /-- serial of the certificate as written at manufacture; 64 bits, in flash; R454 (16). Reset: 1 (DESIGN CHOICE, log entry 10). -/
  certSerial : Nat := 1
  /-- identity available; R455 (16). Reset: true. -/
  idOk : Bool := true
  /-- component images written to the idle slot and not yet verified: 1 firmware, 2 config, 3 owner; R456 (16). Reset: none. -/
  stagedFw : Option FwSlot := none
  stagedCfg : Option CfgSlot := none
  stagedOwner : Option OwnerRec := none
  /-- verified firmware that awaits ActivateFirmware; R456 (16). Reset: none. -/
  verified : List Nat := []
  /-- commits since the reset; 32 bits; R458 (16). Reset: 0. -/
  commits : Nat := 0
  /-- the staged registers in force at the last commit, which measurement 5 covers; R458 (16). Reset: reset values. -/
  measured : List (Nat × Nat) := []
  /-- I3C dynamic address; 7 bits; R495 (18). Reset: none. -/
  i3c : Option Nat := none
  /-- MCTP endpoint ID; 8 bits; R456 (16). Reset: 0. -/
  eid : Nat := 0
deriving DecidableEq, Repr

/-- A bank's commit in progress (R425, R428). -/
structure Bank where
  /-- written registers: address, value; R425, R464. Reset: none. -/
  written : List (Nat × Nat) := []
  /-- tag of the last commit; 32 bits; R425 (15). Reset: 0. -/
  tag : Nat := 0
  /-- groups refused by it; 12 bits; R425 (15). Reset: 0. -/
  refused : Nat := 0
  /-- event of the first refusal; 16 bits; R425 (15). Reset: 0. -/
  first : Nat := 0
  /-- datum at which the commit in progress ends; busy before it; R425 (15). Reset: 0. -/
  busyUntil : Nat := 0
  /-- tag, groups refused and first event of the commit before it, which the status shows while it runs; R425 (15). Reset: 0. -/
  before : Nat × Nat × Nat := (0, 0, 0)
  /-- a commit held behind it: source and value; R428 (15). Reset: none. -/
  held : Option (Src × Nat) := none
  /-- that commit reached flue die 0 after the one that the other bank holds; R428 (15). Reset: false. -/
  second : Bool := false
deriving DecidableEq, Repr

/-- The state of the module. -/
structure State where
  /-- the datum count in ns; 64 bits; R390 (14). Reset: 0 (DESIGN CHOICE, log entry 9). -/
  datum : Nat := 0
  /-- the model's own: counter of fresh free values (Config.fresh); not the spec's. Reset: 0 (DESIGN CHOICE, log entry 5). -/
  draw : Nat := 0
  /-- power, resets, clocks; R405 to R432 (15). -/
  pwr : Power := {}
  /-- the datum's state; R394 (14). -/
  dat : DatumSt := {}
  /-- die memory and shelves by module address; unlisted reads 0; R163, R406. Reset: empty. -/
  mem : List Host.Cell := []
  /-- stored error patterns of bursts: burst address, list of symbol index (0 to 63 data, 64 to 71 check) and exclusive-or; poison is
  0x5A on all eight check symbols; R167, R173 (07). Reset: none. -/
  upsets : List (Nat × List (Nat × Byte)) := []
  /-- the setter dies; R161 (07). -/
  setter : Setter := {}
  /-- frames of die 0 and die 1; R231 (09). -/
  frames0 : Frames := {}
  frames1 : Frames := {}
  /-- a refill of the shadow reserve is in progress; R231 (09). Reset: false. -/
  refilling : Bool := false
  /-- the free parcel pool fell below TIER_FREE_LOW and has not reached TIER_FREE_HIGH since; R202 (08). Reset: false. -/
  demoting : Bool := false
  /-- staged registers in force that differ from their reset value, by register address; R425, R461 (17). Reset: empty. -/
  regs : List (Nat × Nat) := []
  /-- steward bank; R425 (15). -/
  bankS : Bank := {}
  /-- management bank; R425 (15). -/
  bankM : Bank := {}
  /-- contexts by number; unlisted is as Ctx's reset values; R79 (04). Reset: empty. -/
  ctxs : List (Nat × Ctx) := []
  /-- kilns by number, 0 to 47; unlisted is as Kiln's reset values; R75 (04). Reset: empty. -/
  kilns : List (Nat × Kiln) := []
  /-- key-value page frames, key pool * 2^20 + frame; R267 (10). Reset: empty. -/
  pframes : List (Nat × PFrame) := []
  /-- free coalescer entries; 23 bits RO; R142, R474. Reset: 4,194,304. -/
  entriesFree : Nat := 4194304
  /-- lowest free coalescer entries since the last read; 23 bits RC; R474 (17). Reset: 4,194,304. -/
  entriesLow : Nat := 4194304
  /-- flash tier; R193 (08). -/
  tier : Tier := {}
  /-- fabric ports 0 to 7 by number; R291 (11). Reset: as Port. -/
  ports : List (Nat × Port) := []
  /-- forward discards; 32 bits RC; R314 (11). Reset: 0. -/
  discards : Nat := 0
  /-- discards per port in the current millisecond: port, datum of its event, count since; R316 (11). Reset: none. -/
  discardIn : List (Nat × Nat × Nat) := []
  /-- host attachment; R345 (13). -/
  host : HostIf := {}
  /-- trouble log and witness; R433 (16). -/
  log : Log := {}
  /-- firmware, configuration, identity, management; R446 (16). -/
  trust : Trust := {}
  /-- what the module has sent since the reset, newest first: the wires. Reset: empty. -/
  out : List Output := []
  /-- commands that wait, first in, first out. Reset: empty. -/
  pending : List Instr := []
deriving DecidableEq, Repr

/-- The module right after reset: every field at its reset value, before the cold start of R406 has run. -/
def State.reset : State := {}

end Sys2Proof.Machine
end

