-- ==== Sys2Proof/Machine/RegMap.lean ====
section
/-! DEFINITION. The register space: where each register lies, its fields, range, reset value and effect (R461 to R485). -/

namespace Sys2Proof.Machine

/-- Start of the register space (R163). -/
def regSpace : Nat := 0x7000000000

/-- Address of an offset in module-wide block `k` (R461). -/
def blockAddr (k off : Nat) : Nat := regSpace + k * 0x10000 + off

/-- Address of an offset in context c's page (R461). -/
def pageAddr (c off : Nat) : Nat := 0x7000500000 + c * 0x2000 + off

/-- Address of an offset of context c's doorbell page (R360). -/
def doorbellAddr (c off : Nat) : Nat := 0x7000100000 + c * 0x1000 + off

/-- The groups of R425, by bit. -/
abbrev gFLUE : Nat := 0
abbrev gKLN : Nat := 1
abbrev gSET : Nat := 2
abbrev gFAB : Nat := 4
abbrev gHST : Nat := 5
abbrev gCLK : Nat := 6
abbrev gDET : Nat := 10
abbrev gTIER : Nat := 11

/-- When a committed field of a context page takes effect (R467), and the event that refuses it otherwise. -/
inductive Eff where
  /-- C, and every module-wide register. -/
  | commit
  /-- F: at the context's next firing. -/
  | firing
  /-- D: only while disabled. -/
  | disabled (event : Nat)
  /-- D: only while disabled or STOPPED. -/
  | stopped (event : Nat)
  /-- D: only while disabled or ORPHANED. -/
  | ring (event : Nat)
  /-- D: as `ring`, or while a tally record waits under R367. -/
  | tallyRing (event : Nat)
deriving DecidableEq, Repr

/-- One field of a staged register: low bit, width, least and greatest value. -/
structure RField where
  lsb : Nat
  width : Nat
  lo : Nat := 0
  hi : Nat := 2 ^ 64 - 1
deriving DecidableEq, Repr

/-- A run of staged registers: offset of the first, stride, count, group, fields, reset value, effect, event of a range refusal;
`aligned` gives the number of low bits that must be zero in an address (R463). -/
structure RegSpec where
  off : Nat
  stride : Nat := 8
  count : Nat := 1
  group : Nat
  fields : List RField
  reset : Nat := 0
  eff : Eff := .commit
  event : Nat := 0
  aligned : Nat := 0
deriving DecidableEq, Repr

/-- A register with a single field. -/
def one (off group lsb width lo hi reset : Nat) : RegSpec :=
  { off := off, group := group, fields := [⟨lsb, width, lo, hi⟩], reset := reset }

/-- A register with a module address in bits [39:lsb]. -/
def addrReg (off group lsb : Nat) : RegSpec :=
  { off := off, group := group, fields := [⟨lsb, 40 - lsb, 0, 2 ^ 64⟩], aligned := lsb }

/-- A register with a whole 64-bit word. -/
def word (off group : Nat) : RegSpec := { off := off, group := group, fields := [⟨0, 64, 0, 2 ^ 64⟩] }

/-- The same register, `n` times at a stride. -/
def RegSpec.times (r : RegSpec) (stride n : Nat) : RegSpec := { r with stride := stride, count := n }

/-- The same register with another effect. -/
def RegSpec.at (r : RegSpec) (e : Eff) : RegSpec := { r with eff := e }

/-- The same register with an event for a refused range. -/
def RegSpec.refuses (r : RegSpec) (e : Nat) : RegSpec := { r with event := e }

/-- Staged registers of the module-wide blocks (R470 to R482), by block number. -/
def blockRegs : Nat → List RegSpec
  | 0 => [one 0x20 gFLUE 0 10 10 1000 50, one 0x28 gFLUE 0 10 1 1000 10, one 0x30 gFLUE 0 16 0 65535 64, one 0x38 gFLUE 0 10 10 1000 100]
  | 1 =>
    [addrReg 0x0 gKLN 12, one 0x8 gKLN 0 14 1 10000 100, (addrReg 0x100 gKLN 16).times 0x10 8,
      { off := 0x108, stride := 0x10, count := 8, group := gKLN,
        fields := [⟨0, 21, 0, 1048576⟩, ⟨21, 9, 0, 256⟩, ⟨30, 1, 0, 1⟩, ⟨31, 3, 0, 7⟩, ⟨34, 4, 0, 15⟩, ⟨38, 2, 0, 3⟩, ⟨40, 4, 0, 15⟩,
          ⟨44, 2, 0, 3⟩, ⟨46, 3, 0, 7⟩, ⟨49, 2, 0, 2⟩] }]
  | 2 =>
    [one 0x0 gSET 0 2 0 2 0, one 0x8 gSET 0 32 1 (2 ^ 32 - 1) 1000, one 0x10 gSET 0 20 1 604800 3600, one 0x18 gSET 0 8 1 168 24,
      one 0x20 gSET 0 8 85 95 95]
  | 4 =>
    [{ off := 0x0, group := gFAB, fields := [⟨0, 14, 0, 2 ^ 14⟩, ⟨15, 1, 0, 1⟩] }, one 0x8 gFAB 0 5 1 25 12,
      one 0x10 gFAB 0 10 10 1000 50, one 0x18 gFAB 0 11 1 1024 16, one 0x20 gFAB 0 20 1000 1000000 42000, one 0x28 gFAB 0 10 0 600 10,
      one 0x30 gFAB 0 14 1 10000 100, addrReg 0x38 gFAB 4, one 0x40 gFAB 0 17 10 100000 100,
      { off := 0x100, count := 8, group := gFAB, fields := [⟨0, 2, 0, 3⟩, ⟨2, 1, 0, 1⟩, ⟨3, 1, 0, 1⟩] },
      { off := 0x180, count := 8, group := gFAB, fields := [⟨0, 14, 0, 2 ^ 14⟩, ⟨14, 3, 0, 7⟩, ⟨17, 1, 0, 1⟩] },
      { off := 0x200, count := 2056, group := gFAB, fields := [⟨0, 8, 0, 255⟩] }]
  | 5 =>
    [(word 0x0 gHST).times 0x20 8, (word 0x8 gHST).times 0x20 8,
      { off := 0x10, stride := 0x20, count := 8, group := gHST, fields := [⟨0, 8, 0, 128⟩, ⟨8, 1, 0, 1⟩] },
      word 0x100 gHST, { off := 0x108, group := gHST, fields := [⟨0, 32, 0, 2 ^ 32⟩, ⟨32, 4, 0, 9⟩] }, word 0x110 gHST,
      one 0x118 gHST 0 32 0 (2 ^ 32) 0, one 0x120 gHST 1 11 0 2047 0, one 0x128 gHST 0 10 10 1000 100,
      one 0x130 gHST 0 16 10 60000 2000, one 0x138 gHST 0 10 1 600 10, one 0x140 gHST 0 10 10 1000 100,
      { off := 0x148, group := gHST, fields := [⟨0, 3, 0, 7⟩, ⟨3, 1, 0, 1⟩] },
      (word 0x180 gHST).times 0x20 2, (word 0x188 gHST).times 0x20 2,
      { off := 0x190, stride := 0x20, count := 2, group := gHST, fields := [⟨0, 8, 0, 128⟩, ⟨8, 1, 0, 1⟩] },
      { off := 0x400, stride := 0x20, count := 64, group := gHST, fields := [⟨12, 33, 0, 2 ^ 64⟩], aligned := 12 },
      { off := 0x408, stride := 0x20, count := 64, group := gHST, fields := [⟨12, 28, 0, 2 ^ 64⟩], aligned := 12 },
      { off := 0x410, stride := 0x20, count := 64, group := gHST, fields := [⟨0, 13, 0, 2 ^ 13⟩] }]
  | 6 => [one 0x0 gCLK 0 10 1 1000 10]
  | 10 =>
    [one 0x0 gDET 0 1 0 1 0, { off := 0x10, group := gDET, fields := [⟨0, 14, 0, 2 ^ 14⟩, ⟨15, 1, 0, 1⟩] },
      { off := 0x18, group := gDET, fields := [⟨0, 8, 0, 255⟩] }, one 0x20 gDET 0 10 1 1000 20, one 0x28 gDET 0 14 10 10000 100]
  | 11 =>
    [one 0x0 gTIER 0 5 1 16 4, one 0x8 gTIER 0 27 1048576 67108864 16777216, one 0x10 gTIER 0 25 262144 16777216 1048576,
      one 0x18 gTIER 0 25 262144 16777216 2097152, one 0x20 gTIER 0 16 0 65535 64, one 0x28 gTIER 0 6 0 50 5,
      one 0x30 gTIER 0 14 256 8192 2048, one 0x38 gTIER 0 8 8 192 64, one 0x40 gTIER 0 1 0 1 0, one 0x48 gTIER 0 7 1 90 14,
      one 0x50 gTIER 0 6 8 32 20]
  | _ => []

/-- Staged registers of a context page (R483, R484). -/
def pageRegs : List RegSpec :=
  [one 0x000 gFLUE 0 1 0 1 0, (addrReg 0x018 gFLUE 12).at (.disabled 0), (one 0x020 gFLUE 0 25 1 16777216 0).at (.disabled 0),
    (addrReg 0x028 gFLUE 12).at .firing, (addrReg 0x030 gFLUE 12).at .firing, (addrReg 0x038 gFLUE 6).at (.stopped 0x0547),
    (one 0x048 gKLN 0 48 0 (2 ^ 48) 0).at .firing,
    { off := 0x050, group := gKLN, fields := [⟨0, 6, 0, 32⟩, ⟨6, 2, 0, 3⟩, ⟨8, 1, 0, 1⟩], reset := 0x40, eff := .firing },
    ((addrReg 0x058 gKLN 16).at (.disabled 0x06C2)).refuses 0x06C2, (one 0x060 gKLN 0 14 10 10000 500).at .firing,
    (one 0x068 gKLN 0 10 0 1000 2).at .firing, (one 0x070 gKLN 0 14 1 10000 100).at .firing, (addrReg 0x078 gKLN 12).at .firing,
    (word 0x080 gHST).at (.ring 0x0102), ((one 0x088 gHST 0 4 0 9 0).at (.ring 0x0102)).refuses 0x0102,
    (word 0x090 gHST).at (.ring 0x0102), ((one 0x098 gHST 0 4 0 9 0).at (.ring 0x0102)).refuses 0x0102,
    (word 0x0A0 gHST).at (.tallyRing 0x0102), ((one 0x0A8 gHST 0 4 0 8 0).at (.tallyRing 0x0102)).refuses 0x0102,
    (word 0x0B0 gHST).at (.ring 0x0102),
    (word 0x0C0 gHST).times 0x20 2, (word 0x0C8 gHST).times 0x20 2,
    { off := 0x0D0, stride := 0x20, count := 2, group := gHST, fields := [⟨0, 8, 0, 128⟩, ⟨8, 1, 0, 1⟩] },
    (word 0x100 gHST).times 0x20 16,
    { off := 0x108, stride := 0x20, count := 16, group := gHST, fields := [⟨0, 49, 0, 2 ^ 48⟩] },
    { off := 0x110, stride := 0x20, count := 16, group := gHST, fields := [⟨0, 37, 0, 2 ^ 37⟩] },
    { off := 0x300, group := gDET, fields := [⟨0, 48, 0, 2 ^ 48⟩], eff := .firing },
    { off := 0x328, group := gDET, fields := [⟨0, 48, 0, 2 ^ 48⟩, ⟨48, 1, 0, 1⟩] }, word 0x330 gDET]

/-- Whether an offset is one of a run of registers. -/
def RegSpec.covers (r : RegSpec) (off : Nat) : Bool :=
  decide (r.off ≤ off ∧ off < r.off + r.stride * r.count ∧ (off - r.off) % r.stride = 0)

/-- Where an address of the register space lies (R461). -/
inductive Place where
  | block (k off : Nat)
  | blockStaged (k off : Nat)
  | page (c off : Nat)
  | pageStaged (c off : Nat)
  | doorbell (c off : Nat)
  | counter (off : Nat)
  | logWindow (off : Nat)
  | witnessWindow (off : Nat)
  | none
deriving DecidableEq, Repr

/-- The map of R461. -/
def place (a : Nat) : Place :=
  if regSpace ≤ a ∧ a < regSpace + 0xC0000 then
    let o := a - regSpace
    if o % 0x10000 < 0x8000 then .block (o / 0x10000) (o % 0x10000) else .blockStaged (o / 0x10000) (o % 0x10000 - 0x8000)
  else if 0x7000100000 ≤ a ∧ a < 0x7000500000 then
    .doorbell ((a - 0x7000100000) / 0x1000) ((a - 0x7000100000) % 0x1000)
  else if 0x7000500000 ≤ a ∧ a < 0x7000D00000 then
    let o := a - 0x7000500000
    if o % 0x2000 < 0x1000 then .page (o / 0x2000) (o % 0x2000) else .pageStaged (o / 0x2000) (o % 0x2000 - 0x1000)
  else if 0x7001000000 ≤ a ∧ a < 0x7002000000 then .counter (a - 0x7001000000)
  else if 0x7100000000 ≤ a ∧ a < 0x7100100000 then .logWindow (a - 0x7100000000)
  else if 0x7100100000 ≤ a ∧ a < 0x7100210000 then .witnessWindow (a - 0x7100100000)
  else .none

/-- The address in force that an address of a staged view shadows; any other address as it is (R461). -/
def inForceAddr (a : Nat) : Nat :=
  match place a with
  | .blockStaged k off => blockAddr k off
  | .pageStaged c off => pageAddr c off
  | _ => a

/-- The staged register at an address in force, if there is one. -/
def specOf (a : Nat) : Option RegSpec :=
  match place a with
  | .block k off => (blockRegs k).find? (·.covers off)
  | .page _ off => pageRegs.find? (·.covers off)
  | _ => none

/-- Reset value of the staged register at an address; 0 elsewhere. -/
def regReset (a : Nat) : Nat := ((specOf a).map (·.reset)).getD 0

/-- The context to whose page an address belongs. -/
def pageCtx (a : Nat) : Option Nat :=
  match place a with
  | .page c _ => some c
  | _ => none

/-- The value in force of the staged register at an address (R462, R464). -/
def State.reg (s : State) (a : Nat) : Nat := (alook a s.regs).getD (regReset a)

/-- Put a value in force: the list holds only values that differ from their reset values. -/
def State.setReg (s : State) (a v : Nat) : State :=
  { s with regs := if v = regReset a then adel a s.regs else aset a v s.regs }

/-- The value in force at an offset of block k. -/
def State.blk (s : State) (k off : Nat) : Nat := s.reg (blockAddr k off)

/-- The value in force at an offset of context c's page. -/
def State.pg (s : State) (c off : Nat) : Nat := s.reg (pageAddr c off)

/-- A field of a value. -/
def RField.get (f : RField) (v : Nat) : Nat := bits v f.lsb f.width

/-- The bits of a value that belong to fields. -/
def RegSpec.keep (r : RegSpec) (v : Nat) : Nat := r.fields.foldl (fun acc f => acc ||| (f.get v <<< f.lsb)) 0

/-- Whether a value breaks its register's ranges or alignment (R463, R466). -/
def RegSpec.bad (r : RegSpec) (v : Nat) : Bool :=
  r.fields.any (fun f => decide (f.get v < f.lo ∨ f.hi < f.get v)) || decide (v % 2 ^ r.aligned ≠ 0)

end Sys2Proof.Machine
end

