-- ==== Sys2Proof/Machine/Symbols.lean ====
section
/-! DEFINITION. The symbol code of the setter dies (R167, R168): Reed-Solomon over GF(2^8), and its decoder. -/

namespace Sys2Proof.Symbols

/-- Times alpha in GF(2^8) on p(x) = 0x11D (R167). -/
def xtime (a : Nat) : Nat := if a.testBit 7 then ((a <<< 1) ^^^ 0x11D) % 256 else a <<< 1

/-- The product of two field elements, over the low `n` bits of `b`. -/
def gmulAux (a b : Nat) : Nat → Nat → Nat
  | 0, acc => acc
  | n + 1, acc => gmulAux (xtime a) (b >>> 1) n (if b.testBit 0 then acc ^^^ a else acc)

/-- The product of two field elements. -/
def gmul (a b : Nat) : Nat := gmulAux a b 8 0

/-- A power of a field element. -/
def gpow (a : Nat) : Nat → Nat
  | 0 => 1
  | n + 1 => gmul a (gpow a n)

/-- The inverse of a field element that is not zero: a^254, by squarings. -/
def ginv (a : Nat) : Nat :=
  let a2 := gmul a a
  let a4 := gmul a2 a2
  let a8 := gmul a4 a4
  let a16 := gmul a8 a8
  let a32 := gmul a16 a16
  let a64 := gmul a32 a32
  let a128 := gmul a64 a64
  gmul a128 (gmul a64 (gmul a32 (gmul a16 (gmul a8 (gmul a4 a2)))))

/-- alpha to the power `n`. -/
def alpha : Nat → Nat
  | 0 => 1
  | n + 1 => xtime (alpha n)

/-- One step of the division by g(x): shift a message symbol into the eight remainder symbols (most significant first). -/
def shiftIn (g : List Nat) (rem : List Nat) (sym : Nat) : List Nat :=
  let f := rem.headD 0 ^^^ sym
  (List.zipWith (fun r c => r ^^^ gmul f c) (rem.tail ++ [0]) g)

/-- The product of a polynomial (most significant first) with (x - r). -/
def mulRoot (p : List Nat) (r : Nat) : List Nat :=
  List.zipWith (fun a b => a ^^^ b) (p ++ [0]) (0 :: p.map (gmul r))

/-- g(x) = (x - alpha^0) ... (x - alpha^7), most significant first, without its leading 1 (R167). -/
def generator : List Nat := ((List.range 8).foldl (fun p i => mulRoot p (alpha i)) [1]).tail

/-- Check bytes 0 to 7 of a burst: the remainder of the 68 message symbols, x^0 first (R167). -/
def checkBytes (burstNo : Nat) (data : List Nat) : List Nat :=
  let msg := ((List.range 4).map fun i => bits burstNo (8 * i) 8) ++ data
  (msg.foldl (shiftIn generator) (List.replicate 8 0)).reverse

/-- The exponent of x of a symbol: data byte i is x^(71-i), check byte j (index 64 + j) is x^j, address byte a (index 72 + a) is
x^(75-a). -/
def position (sym : Nat) : Nat :=
  if sym < 64 then 71 - sym else if sym < 72 then sym - 64 else 75 - (sym - 72)

/-- The symbol at an exponent of x. -/
def symbolAt (pos : Nat) : Nat :=
  if pos < 8 then 64 + pos else if pos < 72 then 71 - pos else 72 + (75 - pos)

/-- An error pattern: symbol index and exclusive-or. -/
abbrev Pattern := List (Nat × Byte)

/-- A pattern without symbols that do not differ. -/
def Pattern.clean (p : Pattern) : Pattern := p.filter fun x => x.2 ≠ 0

/-- The exclusive-or of two patterns, symbols rising. -/
def Pattern.xor (p q : Pattern) : Pattern :=
  Pattern.clean (q.foldl (fun acc x => aset x.1 (((alook x.1 acc).getD 0) ^^^ x.2) acc) p)

/-- Syndrome j of a pattern: its polynomial at alpha^j. -/
def syndrome (p : Pattern) (j : Nat) : Nat :=
  p.foldl (fun acc x => acc ^^^ gmul x.2.toNat (alpha ((j * position x.1) % 255))) 0

/-- The eight syndromes. -/
def syndromes (p : Pattern) : List Nat := (List.range 8).map (syndrome p)

/-- State of the locator search. -/
structure Search where
  c : List Nat := [1]
  b : List Nat := [1]
  len : Nat := 0
  m : Nat := 1
  lastB : Nat := 1

/-- Sum of two polynomials, least significant first. -/
def padd : List Nat → List Nat → List Nat
  | [], q => q
  | p, [] => p
  | a :: p, b :: q => (a ^^^ b) :: padd p q

/-- One step of the Berlekamp-Massey search on syndrome `n`. -/
def Search.next (syn : List Nat) (st : Search) (n : Nat) : Search :=
  let d := (List.range (st.len + 1)).foldl (fun acc i => acc ^^^ gmul (st.c.getD i 0) (syn.getD (n - i) 0)) 0
  if d = 0 then { st with m := st.m + 1 }
  else
    let k := gmul d (ginv st.lastB)
    let c' := padd st.c (List.replicate st.m 0 ++ st.b.map (gmul k))
    if 2 * st.len ≤ n then { c := c', b := st.c, len := n + 1 - st.len, m := 1, lastB := d }
    else { st with c := c', m := st.m + 1 }

/-- A polynomial, least significant first, at a point. -/
def peval (p : List Nat) (x : Nat) : Nat := p.foldr (fun c acc => c ^^^ gmul x acc) 0

/-- The pattern of at most `t` symbols that has given syndromes, if there is one. -/
def solve (t : Nat) (syn : List Nat) : Option Pattern :=
  let st := (List.range 8).foldl (Search.next syn) {}
  if st.len > t then none
  else
    let roots := (List.range 76).filter fun p => peval st.c (alpha ((255 - p) % 255)) = 0
    if roots.length ≠ st.len then none
    else
      let omega := (List.range 8).map fun n =>
        (List.range (n + 1)).foldl (fun acc i => acc ^^^ gmul (st.c.getD i 0) (syn.getD (n - i) 0)) 0
      let deriv := (List.range 8).map fun i => if i % 2 = 0 then st.c.getD (i + 1) 0 else 0
      let found : Pattern := roots.map fun p =>
        let xi := alpha ((255 - p) % 255)
        let v := gmul (alpha (p % 255)) (gmul (peval omega xi) (ginv (peval deriv xi)))
        (symbolAt p, BitVec.ofNat 8 v)
      if syndromes found = syn then some found.clean else none

/-- What the decoder makes of a pattern of errors. -/
inductive Decoded where
  /-- no error seen. -/
  | clean
  /-- a correction: the symbols that the locator names and what it turns them by. -/
  | corrected (p : Pattern)
  | uncorrectable
deriving DecidableEq, Repr

/-- Symbols that a mode of SET_CODE_MODE corrects (R168). -/
def reach (mode : Nat) : Nat := if mode = 0 then 4 else if mode = 1 then 2 else 0

/-- The decoder of R168 in a mode, on the errors of a burst as read. -/
def decode (mode : Nat) (p : Pattern) : Decoded :=
  let syn := syndromes p
  if syn.all (· == 0) then .clean
  else match solve (reach mode) syn with
    | some q => .corrected q
    | none => .uncorrectable

/-- The poison pattern of R173: 0x5A on the eight check symbols. -/
def poison : Pattern := (List.range 8).map fun j => (64 + j, 0x5A)

end Sys2Proof.Symbols
end

