-- ==== Sys2Proof/Machine/Ops.lean ====
section
/-! DEFINITION. The named operations over the state that every family uses: contexts, kilns, ports, memory, the plat, events and
the trouble log. -/

namespace Sys2Proof.Machine

/-- What every meaning answers. -/
abbrev Result := Host.Outcome State Fault Refusal

/-! ### Records by number -/

/-- Context c. -/
def State.ctx (s : State) (c : Nat) : Ctx := (alook c s.ctxs).getD {}
/-- Put context c. -/
def State.setCtx (s : State) (c : Nat) (x : Ctx) : State := { s with ctxs := aset c x s.ctxs }
/-- Change context c. -/
def State.modCtx (s : State) (c : Nat) (f : Ctx → Ctx) : State := s.setCtx c (f (s.ctx c))
/-- Kiln n. -/
def State.kiln (s : State) (n : Nat) : Kiln := (alook n s.kilns).getD {}
/-- Put kiln n. -/
def State.setKiln (s : State) (n : Nat) (x : Kiln) : State := { s with kilns := aset n x s.kilns }
/-- Change kiln n. -/
def State.modKiln (s : State) (n : Nat) (f : Kiln → Kiln) : State := s.setKiln n (f (s.kiln n))
/-- Fabric port p. -/
def State.port (s : State) (p : Nat) : Port := (alook p s.ports).getD {}
/-- Put port p. -/
def State.setPort (s : State) (p : Nat) (x : Port) : State := { s with ports := aset p x s.ports }
/-- Change port p. -/
def State.modPort (s : State) (p : Nat) (f : Port → Port) : State := s.setPort p (f (s.port p))
/-- Channel ch of die d. -/
def State.chan (s : State) (d ch : Nat) : Chan := (alook (512 * d + ch) s.setter.chans).getD {}
/-- Change a channel's record. -/
def State.modChan (s : State) (d ch : Nat) (f : Chan → Chan) : State :=
  { s with setter := { s.setter with chans := aset (512 * d + ch) (f (s.chan d ch)) s.setter.chans } }
/-- Stack of die d. -/
def State.stack (s : State) (d : Nat) : Stack := if d = 0 then s.setter.stack0 else s.setter.stack1
/-- Change a stack. -/
def State.modStack (s : State) (d : Nat) (f : Stack → Stack) : State :=
  if d = 0 then { s with setter := { s.setter with stack0 := f s.setter.stack0 } }
  else { s with setter := { s.setter with stack1 := f s.setter.stack1 } }
/-- Frames of die d. -/
def State.frames (s : State) (d : Nat) : Frames := if d = 0 then s.frames0 else s.frames1
/-- Put the frames of a die. -/
def State.setFrames (s : State) (d : Nat) (f : Frames) : State :=
  if d = 0 then { s with frames0 := f } else { s with frames1 := f }
/-- Put something on the wires. -/
def State.emit (s : State) (o : Output) : State := { s with out := o :: s.out }
/-- A fresh free value (log entry 5). -/
def State.drawFresh (s : State) : Nat × State := (Config.fresh s.draw, { s with draw := s.draw + 1 })
/-- The wheel of a kiln has used both saggars: what they hold then is free (log entry 54). -/
def State.useSaggars (s : State) (k : Nat) : State :=
  let fill (half : Bool) : List (Nat × Nat) := (List.range 16384).map fun i => (i, (Config.saggar s.draw half i).toNat)
  { s.modKiln k (fun x => { x with saggar0 := fill false, saggar1 := fill true }) with draw := s.draw + 1 }
/-- SLEEP ends because an operation or a launch needs RUN (R420); the change takes 20 µs. During a transition the need waits, as a request
that software has made stands. -/
def State.wake (s : State) : State :=
  { s with pwr := if s.pwr.transition.isSome then { s.pwr with heldReq := s.pwr.heldReq.or (some 0) } else { s.pwr with transition := some 0 } }
/-- Element `i` of a list of counts, changed. -/
def modAt (l : List Nat) (i : Nat) (f : Nat → Nat) : List Nat := l.modify i f

/-! ### Settings in force -/

/-- The current unfired step n = F + 1 of a context (R232). -/
def State.step (s : State) (c : Nat) : Nat := (s.ctx c).fired + 1
/-- Kiln set of a context as a list of kilns; its k-th is context kiln k (R79). -/
def State.kilnSet (s : State) (c : Nat) : List Nat := (List.range 48).filter fun i => (s.pg c 0x048).testBit i
/-- Resident size in bytes (R76). -/
def State.residentSize (s : State) (c : Nat) : Nat := bits (s.pg c 0x050) 0 6 * 65536
/-- Priority of a context (R79). -/
def State.priority (s : State) (c : Nat) : Nat := bits (s.pg c 0x050) 6 2
/-- Heritage context (R128). -/
def State.heritage (s : State) (c : Nat) : Bool := (s.pg c 0x050).testBit 8
/-- Member list of a context: address, or none (R317). -/
def State.memberList (s : State) (c : Nat) : Nat := s.pg c 0x038
/-- Command ring entries (R484). -/
def State.cmdEntries (s : State) (c : Nat) : Nat := 2 ^ (bits (s.pg c 0x088) 0 4 + 6)
/-- Event ring entries (R484). -/
def State.eventEntries (s : State) (c : Nat) : Nat := 2 ^ (bits (s.pg c 0x098) 0 4 + 6)
/-- Tally ring bytes (R484). -/
def State.tallyBytes (s : State) (c : Nat) : Nat := 2 ^ (bits (s.pg c 0x0A8) 0 4 + 28)
/-- The module's own grid reference (R310), and whether it is valid. -/
def State.gridRef (s : State) : Nat := bits (s.blk 4 0) 0 14
def State.gridValid (s : State) : Bool := (s.blk 4 0).testBit 15

/-! ### The trouble log (R433 to R438) and the witness record (R440, R441) -/

/-- Datum state in the coding of R436. -/
def DatumState.code : DatumState → Nat
  | .unaligned => 0
  | .aligned => 1
  | .holdover => 2
  | .root => 3

/-- A setter die in the coding of the origin field of R436, which every payload uses for a die (R502). -/
def setterDie (d : Nat) : Nat := 4 + d

/-- The die that raises an event, coded as the origin field of R436: the one its payload names, or the setter die of the address it gives;
for the rest see log entry 11. -/
def originOf (code payload : Nat) : Nat :=
  let cls := code / 256
  if code = 0x0301 then bits payload 32 8
  else if code = 0x0305 ∨ code = 0x0306 then setterDie (bits payload 103 1)
  else if cls = 3 then bits payload 0 8
  else if code = 0x0A06 ∨ code = 0x0A07 then bits payload 0 8
  else if cls = 0x0A then 4 + bits payload 0 8 % 2
  else if cls = 2 ∨ cls = 0x0B ∨ cls = 7 then 2
  else 0

/-- Append a record to the trouble log, and to the witness SRAM unless it is of kind 2 or the SRAM is frozen (R435, R440). -/
def State.record (s : State) (kind code context origin body : Nat) : State :=
  let r : LogRec := { seq := s.log.head, datum := s.datum, code := code, context := context, kind := kind,
                      flags := s.dat.st.code, origin := origin, body := body }
  { s with log := { s.log with
      head := s.log.head + 1
      recs := (r :: s.log.recs).take 16384
      sram := if kind = 2 ∨ s.log.capture.isSome then s.log.sram else (r :: s.log.sram).take 704 } }

/-- Whether a cold start waits in its step 2 (R406). -/
def State.waits (s : State) : Bool := s.pwr.life == .held && s.pwr.startWait.isSome

/-- Whether the control firmware does not run yet: in boot recovery (R449), and in a cold start that waits. -/
def State.booting (s : State) : Bool := s.pwr.life == .recovery || s.waits

/-- An event before the control firmware runs: it enters only the witness record and PLDM (R434); while the SRAM is frozen it waits. -/
def State.romEvent (s : State) (code payload : Nat) : State :=
  let r : LogRec := { seq := s.log.head, datum := s.datum, code := code, context := 0xFFFF, kind := 1, flags := s.dat.st.code,
                      origin := originOf code payload, body := payload <<< 128 }
  { s with log := { s.log with
      start := s.log.start ++ [code]
      sram := if s.log.capture.isSome then s.log.sram else (r :: s.log.sram).take 704
      romHeld := if s.log.capture.isSome then r :: s.log.romHeld else s.log.romHeld } }

/-- The SRAM takes records again (R444), those of the boot ROM that waited first. -/
def Log.thaw (l : Log) : Log := { l with capture := none, sram := (l.romHeld ++ l.sram).take 704, romHeld := [] }

/-- Body of a record of kinds 2 to 5 (R436): source, via, qpn, address, value. -/
def sourceBody (src : Src) (address value : Nat) : Nat :=
  src.addr + (src.via <<< 128) + (src.qpn <<< 160) + (address <<< 192) + (value <<< 256)

/-- The module itself as a source (R436, via 3). -/
def selfSrc : Src := { via := 3, addr := 0, qpn := 0 }

/-- The management controller as a source: the MCTP endpoint ID in byte 0 (R436). -/
def mgmtSrc (eid : Nat) : Src := { via := 2, addr := eid % 256, qpn := 0 }

/-- The bank of a source: false the steward's, true the management controller's (R425). -/
def srcMgmt (x : Src) : Bool := x.via == 2

/-- Whether a register write reaches the module: through the steward when it is READY, through management also in the hold of R407
and while it is silent. -/
def State.takesWrite (s : State) (src : Src) : Bool :=
  s.pwr.life == .ready || (src.via == 2 && (s.pwr.life == .held || s.pwr.life == .silent) && !s.booting)

/-- Queue an entry for the steward ring, dropping the oldest of a full queue (R356). -/
def State.toSteward (s : State) (e : Entry) : State :=
  if s.host.stewardq.length < 4096 then { s with host := { s.host with stewardq := s.host.stewardq ++ [e] } }
  else { s with host := { s.host with stewardq := s.host.stewardq.tail ++ [e], stewardLost := s.host.stewardLost + 1 } }

/-- Window and offset of a host address (R350). -/
def hostParts (a : Nat) : Nat × Nat := (bits a 48 4, bits a 0 48)

/-- Whether a window holds a range with a right (R351). -/
def windowHolds (s : State) (c w off n : Nat) (write : Bool) : Bool :=
  let ctl := s.pg c (0x100 + 0x20 * w + 0x10)
  ctl.testBit 36 && ctl.testBit (if write then 33 else 32) && decide (off + n ≤ bits (s.pg c (0x108 + 0x20 * w)) 0 49)

/-- Whether a ring of `len` bytes at a host address lies in a window with the write right (R356). -/
def State.ringInWindow (s : State) (c addr len : Nat) : Bool :=
  let (w, off) := hostParts addr
  windowHolds s c w off len true

/-- Entries of a context that wait because its event ring takes none (R356, R366, R374): those beyond its free slots, or all of them while
the ring is ORPHANED or out of its window. -/
def State.eventsOver (s : State) (c : Nat) : Nat :=
  let x := s.ctx c
  let shut := x.ring == .orphaned || !s.ringInWindow c (s.pg c 0x090) (s.eventEntries c * 64)
  x.entryq.length - (if shut then 0 else x.eventConsumer + s.eventEntries c - x.eventPos)

/-- An event outside any context enters the log and the steward ring (R434). -/
def State.tell (s : State) (code payload : Nat) : State :=
  let s := s.record 1 code 0xFFFF (originOf code payload) (payload <<< 128)
  s.toSteward { kind := 2, outcome := 0, code := code, context := 0xFFFF, position := 0, step := 0, datum := s.datum, tag := 0,
                payload := payload }

/-- Note for PLDM an event that is raised in a start-up, before the module is READY (R434). -/
def State.noteEarly (s : State) (code : Nat) : State :=
  if s.pwr.life = .held then { s with log := { s.log with start := s.log.start ++ [code] } } else s

/-- Raise an event outside any context (R434): to the log and the steward ring, once the control firmware runs. -/
def State.raise (s : State) (code payload : Nat) : State :=
  if s.booting then s.romEvent code payload else (s.tell code payload).noteEarly code

/-- Queue an entry for a context's event ring; one that may be dropped (R366) is dropped and counted when the queue is full, and
event 0x010A is raised for the first of them. -/
def State.toContext (s : State) (c : Nat) (droppable : Bool) (e : Entry) : State :=
  if droppable ∧ s.eventsOver c ≥ 4096 then
    s.modCtx c fun x => { x with lostEntries := satAdd 32 x.lostEntries 1, droppedCount := satAdd 32 x.droppedCount 1 }
  else s.modCtx c fun x => { x with entryq := x.entryq ++ [e] }

/-- Raise an event of context c (R434): the log, the context's event ring and, for a mirrored class, the steward ring (R356).
`pos` is the command position for an event that an operation raises. -/
def State.raiseCtx (s : State) (c : Nat) (pos : Option Nat) (code payload : Nat) : State :=
  let step := s.step c
  let p := pos.getD 0
  let s := s.record 1 code c (originOf code payload) (p + (step <<< 64) + (payload <<< 128))
  let e : Entry := { kind := 2, outcome := 0, code := code, context := c, position := p, step := step, datum := s.datum, tag := 0,
                     payload := payload }
  let s := s.toContext c pos.isNone e
  if (s.blk 5 0x120).testBit (code / 256) then s.toSteward e else s

/-- The operation at a command position of a context's window. -/
def State.winOp (s : State) (c pos : Nat) : Option WinOp := (s.ctx c).window.find? fun w => w.pos == pos

/-- Change an operation of the window. -/
def State.modWin (s : State) (c pos : Nat) (f : WinOp → WinOp) : State :=
  s.modCtx c fun x => { x with window := x.window.map fun w => if w.pos = pos then f w else w }

/-- Raise a memory event of an operation, at most once for the operation (R192). -/
def State.raiseOnce (s : State) (c pos code payload : Nat) : State :=
  if (s.ctx c).memTold.contains (pos, code) then s
  else (s.modCtx c fun x => { x with memTold := (pos, code) :: x.memTold }).raiseCtx c (some pos) code payload

/-! ### Bonded memory (R161 to R175) -/

/-- One byte of die memory or shelf; a byte nothing has written reads 0 (R406 step 7, R416). -/
def Memory.get (m : List Host.Cell) (a : Nat) : Byte := (alook a m).getD 0

/-- Write one byte: the list lists no zero. -/
def Memory.put (m : List Host.Cell) (a : Nat) (b : Byte) : List Host.Cell := if b = 0 then adel a m else aset a b m

/-- `n` bytes from an address. -/
def Memory.getBytes (m : List Host.Cell) (a n : Nat) : List Byte := (List.range n).map fun i => Memory.get m (a + i)

/-- Write bytes from an address on. -/
def Memory.putBytes (m : List Host.Cell) (a : Nat) : List Byte → List Host.Cell
  | [] => m
  | b :: bs => Memory.putBytes (Memory.put m a b) (a + 1) bs

/-- The canonical form: addresses strictly rising, no entry zero. -/
def Memory.wf : List Host.Cell → Bool
  | [] => true
  | [(_, b)] => decide (b ≠ 0)
  | (a, b) :: (a', b') :: rest => decide (b ≠ 0) && decide (a < a') && Memory.wf ((a', b') :: rest)

/-- Die memory (R163). -/
def isDie (a : Nat) : Bool := decide (a < 0x4800000000 ∨ (0x8000000000 ≤ a ∧ a < 0xC800000000))
/-- The shelves (R163). -/
def isShelf (a : Nat) : Bool := decide (0x7800000000 ≤ a ∧ a < 0x7818000000)

/-- R166: die, channel, channel-local granule, layer, burst of a die-memory address. -/
def locate (a : Nat) : Nat × Nat × Nat × Nat × Nat :=
  let die := bits a 39 1
  let g := (a % 2 ^ 39) >>> 8
  let ch := (g ^^^ (g >>> 9) ^^^ (g >>> 18) ^^^ (g >>> 27)) % 512
  let l := g >>> 9
  (die, ch, l, l / 196608, bits a 6 2)

/-- A number stored little-endian, without the symbol code: how the module's engines read their own structures. -/
def State.memNat (s : State) (a n : Nat) : Nat := ofLeBytes (Memory.getBytes s.mem a n)

/-- Put bytes as they are; every burst they touch is written with a fresh code. -/
def State.poke (s : State) (a : Nat) (bs : List Byte) : State :=
  { s with mem := Memory.putBytes s.mem a bs,
           upsets := s.upsets.filter fun u => !decide (u.1 + 64 > a ∧ u.1 < a + bs.length) }

/-- The stored error pattern of a burst. -/
def State.upset (s : State) (b : Nat) : Symbols.Pattern := (alook b s.upsets).getD []

/-- Put a stored error pattern. -/
def State.setUpset (s : State) (b : Nat) (p : Symbols.Pattern) : State :=
  { s with upsets := if p = [] then adel b s.upsets else aset b p s.upsets }

/-- The data bytes of a burst under an error pattern. -/
def turned (data : List Byte) (p : Symbols.Pattern) : List Byte :=
  data.mapIdx fun i b => b ^^^ ((alook i p).getD 0)

/-- Source of a poisoning in the payload of 0x0302 (R502). -/
inductive PoisonSource where
  | read | writeBack | adder | scrub
deriving DecidableEq, Repr

def PoisonSource.code : PoisonSource → Nat
  | .read => 0
  | .writeBack => 1
  | .adder => 2
  | .scrub => 3

/-- die, layer and channel in the first four payload bytes of class 0x03 (R502). -/
def whereBytes (a : Nat) : Nat :=
  let (d, ch, _, layer, _) := locate a
  setterDie d + (layer <<< 8) + (ch <<< 16)

/-- Poison a whole granule (R173): each of its bursts keeps its data as stored and takes check bytes XORed with 0x5A. -/
def State.poisonGranule (s : State) (a : Nat) (src : PoisonSource) : State :=
  let g := a / 256 * 256
  let s := (List.range 4).foldl (fun s i =>
    let b := g + 64 * i
    let data := turned (Memory.getBytes s.mem b 64) (s.upset b)
    { s with mem := Memory.putBytes s.mem b data, upsets := aset b Symbols.poison s.upsets }) s
  let d := (locate a).1
  let st := s.setter
  let s := { s with setter := if d = 0 then { st with poison0 := satAdd 32 st.poison0 1 }
                              else { st with poison1 := satAdd 32 st.poison1 1 } }
  s.raise 0x0302 (whereBytes a + (src.code <<< 32) + (g <<< 64))

/-- Count a corrected burst (R171, R172). -/
def State.countCorrected (s : State) (a n : Nat) : State :=
  let (d, ch, _, layer, _) := locate a
  let s := s.modChan d ch fun x =>
    { x with
      corrected := satAdd 32 x.corrected 1
      by1 := if n = 1 then satAdd 16 x.by1 1 else x.by1
      by2 := if n = 2 then satAdd 16 x.by2 1 else x.by2
      by3 := if n = 3 then satAdd 16 x.by3 1 else x.by3
      by4 := if n = 4 then satAdd 16 x.by4 1 else x.by4
      window := x.window + 1 }
  let k := 12 * d + layer
  let old := (alook k s.setter.layers).getD (0, 0)
  let s := { s with setter := { s.setter with layers := aset k (satAdd 32 old.1 1, old.2) s.setter.layers } }
  let x := s.chan d ch
  if x.window > s.blk 2 0x8 ∧ ¬ x.told then
    (s.modChan d ch fun x => { x with told := true }).raise 0x0301 (min x.window (2 ^ 32 - 1) + (setterDie d <<< 32) + (ch <<< 48))
  else s

/-- A new corrected-burst window begins (R172). -/
def State.newWindow (s : State) : State :=
  { s with setter := { s.setter with windowStart := s.datum, chans := s.setter.chans.map fun (x : Nat × Chan) =>
      (x.1, { x.2 with window := 0, told := false }) } }

/-- Count an uncorrectable burst (R171). -/
def State.countUncorrectable (s : State) (a : Nat) : State :=
  let (d, ch, _, layer, _) := locate a
  let s := s.modChan d ch fun x => { x with uncorrectable := satAdd 16 x.uncorrectable 1 }
  let k := 12 * d + layer
  let old := (alook k s.setter.layers).getD (0, 0)
  { s with setter := { s.setter with layers := aset k (old.1, satAdd 16 old.2 1) s.setter.layers } }

/-- Count an address-symbol fault (R171). -/
def State.countAddress (s : State) (a : Nat) : State :=
  let (d, ch, _, _, _) := locate a
  s.modChan d ch fun x => { x with addrFaults := satAdd 16 x.addrFaults 1 }

/-- What a burst read delivers: 64 bytes, or poison. -/
inductive BurstData where
  | data (bs : List Byte)
  | poisoned (bs : List Byte)
deriving DecidableEq, Repr

/-- Whether a correction names an address symbol (R170). -/
def namesAddress : Symbols.Decoded → Bool
  | .corrected q => q.any fun x => decide (x.1 ≥ 72)
  | _ => false

/-- One whole-burst read through the symbol code (R167 to R173). `noise` is what the DRAM added: symbols 0 to 71 stay in the
stored burst; 72 to 75 are address symbols of this read and 76 to 79 those of the re-read of R170. The counter of address faults (R171) rises
with each faulty read of the two (DESIGN CHOICE, log entry 109). -/
def State.readBurst (s : State) (b : Nat) (noise : Symbols.Pattern) (src : PoisonSource) : State × BurstData :=
  let stored := s.upset b
  let n := Symbols.Pattern.clean (noise.filter fun x => x.1 < 72)
  let e := stored.xor n
  let raw := Memory.getBytes s.mem b 64
  if stored = [] ∧ noise = [] then (s, .data raw)
  else
    let s := s.setUpset b e
    let first := Symbols.decode (s.blk 2 0) (e.xor (noise.filter fun x => 72 ≤ x.1 ∧ x.1 < 76))
    let again := namesAddress first
    let dec := if again then
        Symbols.decode (s.blk 2 0) (e.xor ((noise.filter fun x => 76 ≤ x.1 ∧ x.1 < 80).map fun x => (x.1 - 4, x.2)))
      else first
    let s := if again then s.countAddress b else s
    if e = Symbols.poison ∧ stored = Symbols.poison then (s, .poisoned raw)
    else if stored = Symbols.poison then
      let s := (s.countUncorrectable b).poisonGranule b src
      (s, .poisoned (Memory.getBytes s.mem b 64))
    else if again ∧ namesAddress dec then
      let s := (((s.countAddress b).raise 0x0304 (whereBytes b + (b <<< 64))).countUncorrectable b).poisonGranule b src
      (s, .poisoned (Memory.getBytes s.mem b 64))
    else match dec with
      | .clean => (s, .data (turned raw e))
      | .corrected q =>
        let left := e.xor (q.filter fun x => x.1 < 72)
        let good := turned raw left
        let s := s.countCorrected b q.length
        if q.length ≥ 3 then (s.poke b good, .data good) else (s, .data good)
      | .uncorrectable =>
        let s := (s.countUncorrectable b).poisonGranule b src
        (s, .poisoned (Memory.getBytes s.mem b 64))

/-- The bursts that `n` bytes from `a` touch. -/
def burstsOf (a n : Nat) : List Nat :=
  if n = 0 then [] else (List.range ((a + n - 1) / 64 + 1 - a / 64)).map fun i => (a / 64 + i) * 64

/-- `n` bytes from an address through the symbol code, or the first poisoned burst of them. -/
def State.readBytes (s : State) (a n : Nat) (src : PoisonSource := .read) : State × Except Nat (List Byte) :=
  if s.upsets.any fun u => decide (u.1 + 64 > a ∧ u.1 < a + n) then
    let r := (burstsOf a n).foldl (fun (acc : State × Except Nat (List Byte)) b =>
      let (s, d) := acc.1.readBurst b [] src
      match d, acc.2 with
      | .data bs, .ok done => (s, .ok (done ++ bs))
      | .poisoned _, .ok _ => (s, .error b)
      | _, .error e => (s, .error e)) (s, .ok [])
    (r.1, r.2.map fun bs => (bs.drop (a % 64)).take n)
  else (s, .ok (Memory.getBytes s.mem a n))

/-- Payload of 0x0303 (R502). -/
def poisonPayload (a pos : Nat) : Nat := whereBytes a + ((a / 64 * 64) <<< 64) + ((pos % 2 ^ 64) <<< 128)

/-- Payload of 0x0305 (R502). -/
def reservedPayload (write : Bool) (a pos : Nat) : Nat := (if write then 1 else 0) + (a <<< 64) + ((pos % 2 ^ 64) <<< 128)

/-- Whether a range of module addresses is die memory or a shelf throughout. -/
def inMemory (m n : Nat) : Bool :=
  (isDie m && isDie (m + n - 1) && m / 2 ^ 39 == (m + n - 1) / 2 ^ 39) || (isShelf m && isShelf (m + n - 1))

/-- The module's own engines write bytes for context c outside an operation: the commit walk, a rollback, the save of a kiln. A partial
burst is read and merged (R162); on a poisoned one the write is not applied (R175), and nothing is written to a reserved range (R165). -/
def State.engineWrite (s : State) (c a : Nat) (bs : List Byte) : State :=
  let n := bs.length
  if n = 0 then s
  else if !inMemory a n then s.raiseCtx c none 0x0305 (reservedPayload true a 0)
  else (burstsOf a n).foldl (fun s b =>
    let lo := max a b
    let hi := min (a + n) (b + 64)
    let part := (bs.drop (lo - a)).take (hi - lo)
    if hi - lo = 64 ∨ s.upset b = [] then s.poke lo part
    else match s.readBurst b [] .writeBack with
      | (s, .data good) => (s.poke b good).poke lo part
      | (s, .poisoned _) => s.raiseCtx c none 0x0303 (poisonPayload b 0)) s

/-! ### The plat (R225 to R227) -/

/-- The fields of a parcel entry (R227). -/
structure PEntry where
  where_ : Nat
  dirty : Bool := false
  lost : Bool := false
  /-- module address of the DRAM frame. -/
  frame : Nat := 0
  step : Nat := 0
deriving DecidableEq, Repr

/-- Module address of a parcel's entry, when its lot is in the directory and valid (R225). -/
def State.entryAddr (s : State) (c p : Nat) : Option Nat :=
  let lot := p / 512
  if lot ≥ s.pg c 0x020 then none
  else
    let d := s.memNat (s.pg c 0x018 + 8 * lot) 8
    if d.testBit 0 then some (bits d 12 28 * 4096 + 8 * (p % 512)) else none

/-- The lot entry of a parcel, 0 beyond the directory (R226). -/
def State.lotEntry (s : State) (c p : Nat) : Nat :=
  if p / 512 ≥ s.pg c 0x020 then 0 else s.memNat (s.pg c 0x018 + 8 * (p / 512)) 8

/-- Decode a parcel entry (R227): the frame field holds bits [38:12] of the module address and `die` its bit 39. -/
def PEntry.ofNat (v : Nat) : PEntry :=
  { where_ := bits v 0 2, dirty := v.testBit 2, lost := v.testBit 3,
    frame := bits v 8 1 * 2 ^ 39 + bits v 9 27 * 4096, step := bits v 36 28 }

/-- Encode a parcel entry (R227). -/
def PEntry.toNat (e : PEntry) : Nat :=
  e.where_ + (if e.dirty then 4 else 0) + (if e.lost then 8 else 0) + (bits e.frame 39 1 <<< 8) + (bits e.frame 12 27 <<< 9) +
    ((e.step % 2 ^ 28) <<< 36)

/-- The parcel's entry as it stands in its leaf block. -/
def State.platEntry (s : State) (c p : Nat) : Option PEntry :=
  (s.entryAddr c p).map fun a => PEntry.ofNat (s.memNat a 8)

/-- Write a parcel's entry. -/
def State.setPlatEntry (s : State) (c p : Nat) (e : PEntry) : State :=
  match s.entryAddr c p with
  | some a => s.engineWrite c a (leBytes 8 e.toNat)
  | none => s

/-- The parcel's fired entry: from the fired shadow table until the commit walk has passed it (R236). -/
def State.firedEntry (s : State) (c p : Nat) : Option PEntry :=
  match alook p (s.ctx c).firedShadows with
  | some f => (s.entryAddr c p).map fun _ => { where_ := 1, dirty := true, frame := f.frame, step := f.step }
  | none => s.platEntry c p

/-- The 4,096 bytes of a frame as stored. -/
def State.frameBytes (s : State) (a : Nat) : List Byte := Memory.getBytes s.mem a 4096

end Sys2Proof.Machine
end

