-- ==== Sys2Proof/Machine/Frames.lean ====
section
/-! DEFINITION. The memory of the dies (R231, R504): what software places, the frames that the module holds, its shadow reserve and its
free parcel pool. -/

namespace Sys2Proof.Machine

/-! ### Software-placed ranges (R504) -/

/-- The enabled contexts, by number. -/
def State.enabledCtxs (s : State) : List Nat := (s.ctxs.filter fun x => x.2.enabled).map (·.1)

/-- N of the member list (R317). -/
def State.members (s : State) (c : Nat) : Nat := s.memNat (s.memberList c + 2) 2

/-- The valid lots of a context's directory. -/
def State.validLots (s : State) (c : Nat) : List Nat :=
  let base := s.pg c 0x018
  let lots := s.pg c 0x020
  s.mem.filterMap fun x =>
    if base ≤ x.1 ∧ x.1 < base + 8 * lots ∧ (x.1 - base) % 8 = 0 ∧ x.2.toNat % 2 = 1 then some ((x.1 - base) / 8) else none

/-- A page pool as its two words give it (R472). -/
structure Pool where
  base : Nat
  frames : Nat
  /-- page_bytes. -/
  pageBytes : Nat
  latent : Bool
  layers : Nat
  heads : Nat
  dim : Nat
  /-- format code of R90: 1, 2 or 3. -/
  fmt : Nat
  /-- scale group, 0 unscaled. -/
  group : Nat
  /-- latent rank. -/
  rank : Nat
  rope : Nat
deriving DecidableEq, Repr

/-- Pool p in force (R472). -/
def State.pool (s : State) (p : Nat) : Pool :=
  let w := s.blk 1 (0x108 + 0x10 * p)
  { base := s.blk 1 (0x100 + 0x10 * p), frames := bits w 0 21, pageBytes := bits w 21 9 * 4096, latent := w.testBit 30,
    layers := bits w 31 3 + 1, heads := bits w 34 4 + 1, dim := 32 * 2 ^ bits w 38 2, fmt := bits w 40 4,
    group := if bits w 44 2 = 0 then 0 else 16 * 2 ^ bits w 44 2, rank := 64 * (bits w 46 3 + 1), rope := 32 * bits w 49 2 }

/-- Contexts with a set-up register away from its reset value. -/
def State.setCtxs (s : State) : List Nat := (s.regs.filterMap fun x => pageCtx x.1).eraseDups

/-- Bytes of a context's save area (R80). -/
def State.saveBytes (s : State) (c : Nat) : Nat := (s.kilnSet c).length * (0x40000 + s.residentSize c)

/-- Ranges that a context's set-up registers place: directory, scratch, save area, member list, queue table. -/
def State.ctxRanges (s : State) (c : Nat) : List (Nat × Nat) :=
  [(s.pg c 0x018, 8 * s.pg c 0x020), (s.pg c 0x028, s.pg c 0x030), (s.pg c 0x058, if s.pg c 0x058 = 0 then 0 else s.saveBytes c),
    (s.pg c 0x038, if s.pg c 0x038 = 0 then 0 else 64 + 2 * s.members c), (s.pg c 0x078, if s.pg c 0x078 = 0 then 0 else 2048)]

/-- Range of a pool. -/
def State.poolRange (s : State) (p : Nat) : Nat × Nat := let q := s.pool p; (q.base, q.frames * q.pageBytes)

/-- Module-wide ranges: sequence area, pools, lag area (16 bytes for each of 16,384 ranks, R340). -/
def State.blockRanges (s : State) : List (Nat × Nat) :=
  [(s.blk 1 0, if s.blk 1 0 = 0 then 0 else 25952256), (s.blk 4 0x38, if s.blk 4 0x38 = 0 then 0 else 16 * 16384)] ++
    (List.range 8).map s.poolRange

/-- Leaf blocks that the valid lots of a context name (R225, R226). -/
def State.leafBlocks (s : State) (c : Nat) : List (Nat × Nat) :=
  (s.validLots c).map fun lot => (bits (s.lotEntry c (512 * lot)) 12 28 * 4096, 4096)

/-- Every software-placed range in force. -/
def State.placedRanges (s : State) : List (Nat × Nat) :=
  ((s.setCtxs.flatMap s.ctxRanges) ++ s.blockRanges ++ s.enabledCtxs.flatMap s.leafBlocks).filter fun r => r.2 != 0

/-- First frame of a range on its die, and the first above it. -/
def frameSpan (r : Nat × Nat) : Nat × Nat := (r.1 % 2 ^ 39 / 4096, (r.1 % 2 ^ 39 + r.2 + 4095) / 4096)

/-- Put a span of frames among spans that rise and do not touch. -/
def joinSpan (lo hi : Nat) : List (Nat × Nat) → List (Nat × Nat)
  | [] => [(lo, hi)]
  | (a, b) :: rest =>
    if hi < a then (lo, hi) :: (a, b) :: rest
    else if b < lo then (a, b) :: joinSpan lo hi rest
    else joinSpan (min lo a) (max hi b) rest

/-- The frames of die d that software has placed, as spans. -/
def State.placedOn (s : State) (d : Nat) : List (Nat × Nat) :=
  (s.placedRanges.filter fun r => bits r.1 39 1 == d && isDie r.1).foldl (fun l r => joinSpan (frameSpan r).1 (frameSpan r).2 l) []

/-- How many they are. -/
def State.placedFrames (s : State) (d : Nat) : Nat := ((s.placedOn d).map fun x => x.2 - x.1).sum

/-! ### Frames (R231, R504) -/

/-- Module address of frame f of die d. -/
def frameAddr (d f : Nat) : Nat := d * 2 ^ 39 + f * 4096
/-- Die and number of the frame at a module address. -/
def frameOf (a : Nat) : Nat × Nat := (bits a 39 1, (a % 2 ^ 39) / 4096)

/-- The highest frame up to n that no span holds. -/
def underSpans (spans : List (Nat × Nat)) (n : Nat) : Nat :=
  match spans.find? fun x => decide (x.1 ≤ n ∧ n < x.2) with
  | some x => x.1 - 1
  | none => n

/-- The highest frame up to n that neither the spans nor the frames of a falling list hold. -/
def seekFrame (spans : List (Nat × Nat)) : List Nat → Nat → Nat
  | [], n => underSpans spans n
  | h :: hs, n =>
    let m := underSpans spans n
    if m < h then seekFrame spans hs m
    else if m = h then seekFrame spans hs (m - 1)
    else m

/-- The highest free module frame of die d up to n (R504; log entry 12). -/
def State.freeFrom (s : State) (d n : Nat) : Nat := seekFrame (s.placedOn d) (s.frames d).held n

/-- Put a frame among those held. -/
def holdFrame (n : Nat) : List Nat → List Nat
  | [] => [n]
  | h :: hs => if h < n then n :: h :: hs else if h = n then h :: hs else h :: holdFrame n hs

/-- Hold a frame, or release it. -/
def Frames.take (f : Frames) (n : Nat) : Frames := { f with held := holdFrame n f.held }
def Frames.give (f : Frames) (n : Nat) : Frames := { f with held := f.held.filter (· != n) }

/-- The next frame of a die that the module takes: the highest free one (R504). -/
def State.nextFrame (s : State) (d : Nat) : Nat := s.freeFrom d 75497471

/-- Take a frame from the shadow reserve of a die, or of the other when it is empty (R229). -/
def State.takeReserve (s : State) (d : Nat) : Option (Nat × State) :=
  let go (d : Nat) : Option (Nat × State) :=
    let f := s.frames d
    if f.reserve = 0 then none
    else
      let n := s.nextFrame d
      some (frameAddr d n, s.setFrames d { f.take n with reserve := f.reserve - 1 })
  match go d with
  | some r => some r
  | none => go (1 - d)

/-- The die with more free reserve, die 0 when equal (R229). -/
def State.reserveDie (s : State) : Nat := if s.frames1.reserve > s.frames0.reserve then 1 else 0
/-- The die with more free parcel pool, die 0 when equal (R201, R255). -/
def State.poolDie (s : State) : Nat := if s.frames1.pool > s.frames0.pool then 1 else 0

/-- Release a frame to the shadow reserve (R236, R241). -/
def State.giveReserve (s : State) (a : Nat) : State :=
  let (d, n) := frameOf a
  let f := s.frames d
  s.setFrames d { f.give n with reserve := f.reserve + 1 }

/-- Frames free in both dies' parcel pools. -/
def State.freePool (s : State) : Nat := s.frames0.pool + s.frames1.pool

/-- The free parcel pool has changed: demotion begins below TIER_FREE_LOW and ends at TIER_FREE_HIGH (R202). -/
def State.watchPool (s : State) : State :=
  { s with demoting := decide (s.freePool < s.blk 11 0x10) || (s.demoting && decide (s.freePool < s.blk 11 0x18)) }

/-- Take a frame from the free parcel pool of a die, or of the other when it is empty. -/
def State.takePool (s : State) (d : Nat) : Option (Nat × State) :=
  let go (d : Nat) : Option (Nat × State) :=
    let f := s.frames d
    if f.pool = 0 then none
    else
      let n := s.nextFrame d
      some (frameAddr d n, (s.setFrames d { f.take n with pool := f.pool - 1 }).watchPool)
  match go d with
  | some r => some r
  | none => go (1 - d)

/-- Release a frame to the free parcel pool. -/
def State.givePool (s : State) (a : Nat) : State :=
  let (d, n) := frameOf a
  let f := s.frames d
  (s.setFrames d { f.give n with pool := f.pool + 1 }).watchPool

/-- Release a list of frames to the shadow reserve. -/
def State.giveReserves (s : State) (fs : List Nat) : State := fs.foldl State.giveReserve s

/-! ### Shadow tables (R229, R231) -/

/-- Room in the shadow table of context c for one more entry of 16 bytes: a frame of the reserve for each 256. -/
def State.takeTable (s : State) (c : Nat) : Option State :=
  if (s.ctx c).shadows.length < 256 * (s.ctx c).tableFrames.length then some s
  else (s.takeReserve s.reserveDie).map fun (f, s) => s.modCtx c fun x => { x with tableFrames := f :: x.tableFrames }

/-- The shadow table of the unfired step is discarded (R241). -/
def State.dropTable (s : State) (c : Nat) : State :=
  let x := s.ctx c
  ((x.shadows.foldl (fun s e => s.giveReserve e.2.frame) s).giveReserves x.tableFrames).modCtx c fun x =>
    { x with shadows := [], tableFrames := [] }

end Sys2Proof.Machine
end

