-- ==== Sys2Proof/Machine/Flash.lean ====
section
/-! DEFINITION. The flash under the tier (R193 to R199, R215 to R218): locations, sectors and their metadata, stripes and their parity,
fresh sectors, homes and the home map, blocks that are moved, erased and retired. -/

namespace Sys2Proof.Machine

/-- Key of a context's parcel in the tier's maps. -/
def homeKey (c p : Nat) : Nat := c * 2 ^ 33 + p

/-- Change the tier. -/
def State.modTier (s : State) (f : Tier → Tier) : State := { s with tier := f s.tier }

/-- Put bytes of an image. -/
def imageBytes (img : List Host.Cell) : List Byte := Memory.getBytes img 0 4096

/-- The image of 4,096 bytes. -/
def imageOf (bs : List Byte) : List Host.Cell := (bs.mapIdx fun i b => (i, b)).filter fun x => x.2 ≠ 0

/-! ### Locations (R193, R199) -/

/-- Key of the block of a location. -/
def blockOf (loc : Nat) : Nat := (8 * bits loc 0 5 + bits loc 5 3) * 8192 + bits loc 8 1 * 4096 + bits loc 9 12
/-- Channel, LUN, plane and block number of a block key. -/
def blockParts (b : Nat) : Nat × Nat × Nat × Nat := (b / 65536, b / 8192 % 8, b / 4096 % 2, b % 4096)
/-- Channel of a block key. -/
def blockChan (b : Nat) : Nat := b / 65536
/-- The i-th sector of a block, page by page. -/
def sectorOf (b i : Nat) : Nat :=
  let (ch, lun, plane, blk) := blockParts b
  ch % 32 + (lun <<< 5) + (plane <<< 8) + (blk <<< 9) + (i / 4 % 1024 <<< 21) + (i % 4 <<< 31)

/-- Number of a page's stripe: the pages with the same LUN, plane, block and page number on all channels (R196), counted page by page
(log entry 85). -/
def stripeOf (loc : Nat) : Nat := bits loc 21 10 + 1024 * (bits loc 9 12 + 4096 * (bits loc 8 1 + 2 * bits loc 5 3))
/-- The page of a stripe on a channel. -/
def stripePage (n ch : Nat) : Nat :=
  ch % 32 + (n / 8388608 % 8 <<< 5) + (n / 4194304 % 2 <<< 8) + (n / 1024 % 4096 <<< 9) + (n % 1024 <<< 21)
/-- The page of a location: its first sector. -/
def pageOf (loc : Nat) : Nat := loc % 2 ^ 31
/-- The four sectors of a page (R194). -/
def pageSectors (page : Nat) : List Nat := (List.range 4).map fun i => pageOf page + (i <<< 31)

/-! ### Sectors (R194, R197) -/

/-- Bytes 0 to 27 of the metadata (R197). -/
def Sector.head (x : Sector) : List Byte :=
  leBytes 1 x.kind ++ List.replicate 3 0 ++ leBytes 2 x.ctx ++ List.replicate 2 0 ++ leBytes 8 x.tag ++ leBytes 8 x.step ++
    leBytes 4 x.sequence

/-- A sector's data and metadata with the CRC-32C over both (R197); one that holds nothing is zero (R196). -/
def Sector.bytes (x : Sector) : List Byte :=
  if x.kind = 0xFF then List.replicate 4128 0
  else
    let data := imageBytes x.image
    data ++ x.head ++ leBytes 4 (crc32c (data ++ x.head))

/-- The check that the module makes on every sector that it reads (R197). -/
def sectorGood (bs : List Byte) : Bool := bs.length == 4128 && ofLeBytes (bs.drop 4124) == crc32c (bs.take 4124)

/-- Whether a sector read is good: the package gives it, its CRC matches, and it is the sector that was programmed at the location, not one
from another (R197, R214). -/
def Tier.readGood (t : Tier) (loc : Nat) (r : Option (List Byte)) : Bool :=
  r.any fun bs => sectorGood bs && (alook loc t.flash).all fun x => (bs.drop 4096).take 28 == x.head

/-- The sector of a home (R197). -/
def Home.sector (h : Home) (c p : Nat) : Sector := { kind := 1, ctx := c, tag := p, step := h.step, sequence := h.sequence, image := h.image }

/-- The home map entry of a parcel (R199). -/
def Home.entry (h : Home) : Nat := h.loc % 2 ^ 33 + (if h.lost then 2 ^ 33 else 0) + 2 ^ 63

/-- The home map: one entry for each homed parcel, in the order of context and parcel (R199; log entry 91). -/
def Tier.mapBytes (t : Tier) : List Byte := t.homes.flatMap fun h => leBytes 8 h.2.entry

/-- Exclusive-or of pages or sectors: the parity of a stripe, or the page that the others and the parity give (R196, R214). -/
def xorPages : List (List Byte) → List Byte
  | [] => []
  | [p] => p
  | p :: rest => List.zipWith (fun a b => a ^^^ b) p (xorPages rest)

/-! ### Stripes (R196, R218) -/

/-- Whether a channel is in service. -/
def Tier.serves (t : Tier) (ch : Nat) : Bool := !(t.lostChannels.any fun x => x.1 == ch)

/-- The channel that holds a stripe's parity: n mod 32 (R196), or, where that is out of service, the next one in service (R218; log entry
92). -/
def Tier.parityChan (t : Tier) (n : Nat) : Nat := (((List.range 32).map fun i => (n + i) % 32).find? t.serves).getD (n % 32)

/-- Data pages of a stripe: one for each channel but the parity's, of those in service (R196, R218). -/
def Tier.dataPages (t : Tier) : Nat := 31 - t.lostChannels.length

/-- The 16,512 bytes of a page's four sectors; an unwritten sector is zero (R194, R196). -/
def Tier.pageBytes (t : Tier) (page : Nat) : List Byte :=
  (pageSectors page).flatMap fun l => ((alook l t.flash).map Sector.bytes).getD (List.replicate 4128 0)

/-- The parity page of a stripe: exclusive-or of its data pages (R196). -/
def Tier.parityPage (t : Tier) (n : Nat) : List Byte :=
  xorPages (((List.range 32).filter fun ch => ch != t.parityChan n).map fun ch => t.pageBytes (stripePage n ch))

/-- Close a stripe: its parity page is programmed over the data pages as they are; those not written stay so (R196). -/
def Tier.closeStripe (t : Tier) (n : Nat) : Tier :=
  if t.shut.contains n then { t with stripes := adel n t.stripes }
  else { t with stripes := adel n t.stripes, shut := n :: t.shut, parity := aset n (imageOf (t.parityPage n)) t.parity,
                bytesParity := (t.bytesParity + 16384) % 2 ^ 64 }

/-- A sector of a stripe is programmed; the last sector of its last data page closes it. -/
def Tier.pageDone (t : Tier) (loc : Nat) : Tier :=
  let n := stripeOf loc
  let ch := bits loc 0 5
  if t.shut.contains n ∨ ch = t.parityChan n then t
  else
    let chs := (alook n t.stripes).getD []
    let whole := (pageSectors loc).all fun l => (alook l t.flash).isSome
    let chs := if chs.contains ch || !whole then chs else ch :: chs
    let t := { t with stripes := aset n chs t.stripes }
    if chs.length ≥ t.dataPages then t.closeStripe n else t

/-! ### Fresh sectors (R198, R215, R217) -/

/-- A block's record. -/
def Tier.block (t : Tier) (b : Nat) : Block := (alook b t.blocks).getD {}
/-- Change a block's record. -/
def Tier.modBlock (t : Tier) (b : Nat) (f : Block → Block) : Tier := { t with blocks := aset b (f (t.block b)) t.blocks }
/-- Locations of the sectors that live: homes, journal sectors, pages of the home map. -/
def Tier.live (t : Tier) : List Nat := t.homes.map (·.2.loc) ++ t.stream.map (·.2.1) ++ t.mapPages.map (·.2)
/-- The live sectors of a block. -/
def Tier.liveIn (t : Tier) (b : Nat) : List Nat := t.live.filter fun l => blockOf l == b
/-- The sector that stands at a location. -/
def Tier.sectorAt (t : Tier) (l : Nat) : Sector :=
  (alook l t.flash).getD (((t.homes.find? fun h => h.2.loc == l).map fun h => h.2.sector (h.1 / 2 ^ 33) (h.1 % 2 ^ 33)).getD { kind := 0xFF })

/-- The blocks of the boot area (R447): blocks 0 to 3 of LUN 0, plane 0, on channels 0 and 1. -/
def bootBlock (b : Nat) : Bool := decide (blockChan b < 2 ∧ b % 65536 < 4)

/-- The erase block on each of channels 0 to 3 that holds witness slot k (R443): the map area's place is the model's choice (log entry 100). -/
def slotBlock (k ch : Nat) : Nat := (8 * ch + 7) * 8192 + 4096 + 4080 + k % 16

/-- The blocks that the tier does not use: those of the boot area (R447) and of the witness slots (R443). -/
def reservedBlock (b : Nat) : Bool := bootBlock b || decide (blockChan b < 4 ∧ 65520 ≤ b % 65536)

/-- Whether a block takes sectors of the tier: on a channel in service, not retired, not reserved. -/
def Tier.blockServes (t : Tier) (b : Nat) : Bool := t.serves (blockChan b) && !(t.block b).retired && !reservedBlock b

/-- Whether a new sector may go to a location: erased, in a block that serves, not in a parity page or a stripe that is closed. -/
def Tier.fresh (t : Tier) (loc : Nat) : Bool :=
  (alook loc t.flash).isNone && t.blockServes (blockOf loc) && bits loc 0 5 != t.parityChan (stripeOf loc) && !t.shut.contains (stripeOf loc)

/-- Whether a block is fresh: it serves and nothing is programmed in it since its erase. -/
def Tier.freshBlock (t : Tier) (b : Nat) : Bool := t.blockServes b && !(t.flash.any fun l => blockOf l.1 == b)

/-- The first fresh block from one on, channel by channel (log entry 85). -/
def Tier.nextBlock (t : Tier) (b : Nat) : Nat :=
  let cand (i : Nat) : Nat := (b + 65536 * i + i / 32) % 2097152
  ((List.range (32 * (t.flash.length + t.blocks.length + 2))).map cand).find? t.freshBlock |>.getD b

/-- The fresh sector that a new one takes for a place that the hardware picks: that place, or the first fresh one of a fresh block. -/
def Tier.place (t : Tier) (loc : Nat) : Nat :=
  if t.fresh loc then loc
  else
    let b := t.nextBlock (blockOf loc)
    ((List.range 4096).map (sectorOf b)).find? t.fresh |>.getD (sectorOf b 0)

/-- The first fresh sector of a block, or of a fresh block after it. -/
def Tier.room (t : Tier) (b : Nat) : Nat := (((List.range 4096).map (sectorOf b)).find? t.fresh).getD (t.place (sectorOf b 0))

/-! ### Powered time (R217) -/

/-- Powered time of the module in ns. -/
def State.poweredTime (s : State) : Nat := s.tier.powered + (s.datum - s.tier.onAt)

/-- A bank whose busy time ends as long after `d` as it did after `old`. -/
def Bank.shift (b : Bank) (old d : Nat) : Bank := { b with busyUntil := d + (b.busyUntil - old) }

/-- The datum count is set to another value: powered time goes on (R217), unless the module is off; a commit under way ends when it would
have, and so do the intervals in which refused accesses and discards are counted. -/
def State.setDatum (s : State) (d : Nat) : State :=
  let move (l : List (Nat × Nat × Nat)) : List (Nat × Nat × Nat) := l.map fun x => (x.1, d + x.2.1 - s.datum, x.2.2)
  { s with datum := d, bankS := s.bankS.shift s.datum d, bankM := s.bankM.shift s.datum d, discardIn := move s.discardIn,
           host := { s.host with refusedIn := move s.host.refusedIn }, tier := { s.tier with powered := if s.pwr.life = .off then s.tier.powered else s.poweredTime, onAt := d } }

/-! ### Homes and the home map (R198 to R200) -/

/-- A sector is programmed (R196, R197): it takes the next module write sequence number, its block's data is as old as its first sector, and
its page goes into its stripe. -/
def State.programmed (s : State) (loc : Nat) (x : Sector) : State :=
  let now := s.poweredTime
  s.modTier fun t =>
    (({ t with flash := aset loc { x with sequence := t.writeSeq } t.flash, writeSeq := (t.writeSeq + 1) % 2 ^ 32 }).modBlock (blockOf loc)
      fun b => { b with written := some (b.written.getD now) }).pageDone loc

/-- Clear a range of memory. -/
def State.clearRange (s : State) (a n : Nat) : State :=
  { s with mem := s.mem.filter fun x => !decide (a ≤ x.1 ∧ x.1 < a + n)
           upsets := s.upsets.filter fun u => !decide (u.1 + 64 > a ∧ u.1 < a + n) }

/-- The home map takes or gives back frames of the free parcel pool: 8 bytes a homed parcel (R199, R504). -/
def State.fitMap (s : State) : State :=
  let want := ceilDiv (8 * s.tier.homes.length) 4096
  let have_ := s.tier.mapFrames.length
  if have_ < want then (List.range (want - have_)).foldl (fun s _ => match s.takePool s.poolDie with
    | some (f, s) => (s.clearRange f 4096).modTier fun t => { t with mapFrames := t.mapFrames ++ [f] }
    | none => s) s
  else ((s.tier.mapFrames.drop want).foldl (fun s f => s.givePool f) s).modTier fun t =>
    { t with mapFrames := t.mapFrames.take want, mapPages := t.mapPages.filter fun x => decide (x.1 < want) }

/-- Page i of a home map's bytes. -/
def mapPage (bs : List Byte) (i : Nat) : List Byte := (bs.drop (4096 * i)).take 4096

/-- The home map follows the homes (R199): its frames hold the entries, and each page that differs from what it was goes into the map area
anew, near a block. -/
def State.writeMap (s : State) (was : List Byte) (b : Nat) : State :=
  let s := s.fitMap
  let now := s.tier.mapBytes
  (List.range s.tier.mapFrames.length).foldl (fun s i =>
    let page := mapPage now i
    if page = mapPage was i then s
    else
      let f := s.tier.mapFrames.getD i 0
      let s := (s.clearRange f 4096).poke f page
      let at_ := s.tier.room b
      (s.programmed at_ { kind := 4, tag := i, image := imageOf page }).modTier fun t => { t with mapPages := aset i at_ t.mapPages }) s

/-- A home's location, as the hardware chooses it (log entry 13). -/
def State.freshLoc (s : State) : Nat × State :=
  let (x, s) := s.drawFresh
  (x % 2 ^ 33, s)

/-- Write a new home of a parcel (R198, R202): contents, step. Its old sector becomes garbage. -/
def State.setHome (s : State) (c p step : Nat) (bs : List Byte) (loc : Nat) : State :=
  let at_ := s.tier.place loc
  let was := s.tier.mapBytes
  let h : Home := { loc := at_, step := step, sequence := s.tier.writeSeq, image := imageOf bs }
  (((s.modTier fun t =>
    { t with homes := aset (homeKey c p) h t.homes, dirtySince := adel (homeKey c p) t.dirtySince,
             bytesHome := (t.bytesHome + 4096) % 2 ^ 64 }).programmed at_ (h.sector c p))).writeMap was (blockOf at_)

/-- Whether a parcel has a home. -/
def State.homed (s : State) (c p : Nat) : Bool := (alook (homeKey c p) s.tier.homes).isSome

/-- Homes reserved by migrations under way (R154). -/
def State.homesDue (s : State) : Nat :=
  (s.ctxs.map fun x => (x.2.migrations.filter fun m => m.dest == 2 && !s.homed x.1 m.parcel).length).sum

/-- Whether the home map has room for one entry more (R199): in its frames, or in a frame still free. -/
def State.mapRoom (s : State) : Bool :=
  decide (8 * s.tier.homes.length < 4096 * s.tier.mapFrames.length) || decide (0 < s.freePool)

/-- Whether a parcel may be given a home (R198, R199, R215): it has one, or homed state with what migrations have reserved (R154) is below
the user capacity, and the home map has room. -/
def State.mayHome (s : State) (c p : Nat) : Bool :=
  s.homed c p || (decide (s.tier.homes.length + s.homesDue < s.tier.capacity) && s.mapRoom)

/-- No new home fits (R215): event 0x040B when homed state reaches the user capacity. -/
def State.checkFull (s : State) : State :=
  if s.tier.homes.length ≥ s.tier.capacity ∧ ¬ s.tier.full then
    (s.modTier fun t => { t with full := true }).raise 0x040B (s.tier.homes.length <<< 64)
  else if s.tier.homes.length < s.tier.capacity then s.modTier fun t => { t with full := false }
  else s

/-! ### Moving, erasing and retiring blocks (R209, R215 to R218) -/

/-- Move a live sector to a fresh one of a block, or of a fresh block after it: whatever names it follows. -/
def State.moveSector (s : State) (l dest : Nat) : State :=
  let at_ := s.tier.room dest
  let x := s.tier.sectorAt l
  (s.modTier fun t =>
    { t with homes := t.homes.map fun (h : Nat × Home) => if h.2.loc = l then (h.1, { h.2 with loc := at_, sequence := t.writeSeq }) else h
             stream := t.stream.map fun (y : Nat × Nat × Nat) => if y.2.1 = l then (y.1, at_, y.2.2) else y
             mapPages := t.mapPages.map fun (y : Nat × Nat) => if y.2 = l then (y.1, at_) else y }).programmed at_ x

/-- Move live sectors; the home map follows. -/
def State.moveAll (s : State) (ls : List Nat) (dest : Nat) : State :=
  let was := s.tier.mapBytes
  (ls.foldl (fun s l => s.moveSector l dest) s).writeMap was dest

/-- Event 0x0408 when the mean cycles of all 2,097,152 blocks reach a share of 200,000 (R216). -/
def State.checkWear (s : State) : State :=
  let sum := (s.tier.blocks.map fun b => b.2.cycles).sum
  [80, 90, 100].foldl (fun s p =>
    if sum * 100 ≥ p * 200000 * 2097152 ∧ ¬ s.tier.wearTold.contains p then
      (s.modTier fun t => { t with wearTold := p :: t.wearTold }).raise 0x0408 p
    else s) s

/-- An erase of a block (R216): its sectors are fresh again, its pages leave their stripes, and a parity page in it is gone. -/
def State.eraseBlock (s : State) (b : Nat) : State :=
  (s.modTier fun t =>
    let ns := (t.flash.filter fun l => blockOf l.1 == b).map fun l => stripeOf l.1
    let kept := t.flash.filter fun l => blockOf l.1 != b
    let holds (n : Nat) : Bool := kept.any fun l => stripeOf l.1 == n
    let t := { t with flash := kept
                      shut := t.shut.filter fun n => !ns.contains n || holds n
                      parity := t.parity.filter fun x => blockOf (stripePage x.1 (t.parityChan x.1)) != b && (!ns.contains x.1 || holds x.1)
                      stripes := (t.stripes.map fun (x : Nat × List Nat) => if ns.contains x.1 then (x.1, x.2.filter (· != blockChan b)) else x).filter
                        fun x => !ns.contains x.1 || holds x.1 }
    t.modBlock b fun x => { x with cycles := x.cycles + 1, reads := 0, refire := false, written := none }).checkWear

/-- Spare leaves by some MiB (R215): notices on crossing each figure; below 3,072 GiB each further GiB takes one from the user
capacity. The projected capacity is a free value. -/
def State.useSpare (s : State) (mib : Nat) : State :=
  let old := s.tier.spareMiB
  let new := old - mib
  let s := s.modTier fun t => { t with spareMiB := new }
  let s := [5120, 4096, 3072].foldl (fun s g =>
    if old ≥ g * 1024 ∧ new < g * 1024 then
      let (x, s) := s.drawFresh
      s.raise 0x0406 (((x % 2 ^ 64) <<< 64) + ((new / 1024) <<< 128))
    else s) s
  let short (m : Nat) : Nat := if m < 3072 * 1024 then (3072 * 1024 - m) / 1024 else 0
  let lostGib := short new - short old
  if lostGib > 0 then
    let s := s.modTier fun t => { t with capacity := t.capacity - lostGib * 262144 }
    (s.raise 0x0407 (s.tier.capacity <<< 64)).checkFull
  else s

/-- Move a block's live sectors to a fresh block that the hardware picks: the tier's own background writes, counted as those of garbage
collection (R220; log entry 93). -/
def State.moveBlock (s : State) (b : Nat) : State :=
  let (x, s) := s.drawFresh
  let ls := s.tier.liveIn b
  let t := s.tier.modBlock b fun y => { y with retired := true }
  (s.moveAll ls (t.nextBlock (x % 2097152))).modTier fun t => { t with bytesGc := (t.bytesGc + ls.length * 4096) % 2 ^ 64 }

/-- Retire a block (R215): live sectors are moved first, event 0x0405, and the spare gives a replacement. -/
def State.retire (s : State) (b cause : Nat) : State :=
  if (s.tier.block b).retired then s
  else
    let s := s.moveBlock b
    let s := s.modTier fun t => { t.modBlock b (fun y => { y with retired := true }) with
                                    retired := aset (b / 8192) (satAdd 16 ((alook (b / 8192) t.retired).getD 0) 1) t.retired }
    let (ch, lun, plane, blk) := blockParts b
    (s.raise 0x0405 (ch + (lun <<< 8) + (plane <<< 16) + (cause <<< 24) + (blk <<< 32))).useSpare 16

/-- Re-fire a block (R217): every live sector is rewritten to a fresh block, and the block is erased. -/
def State.refire (s : State) (b fresh : Nat) : State :=
  let ls := s.tier.liveIn b
  let t := s.tier.modBlock b fun y => { y with retired := true }
  let s := s.moveAll ls (if t.freshBlock fresh then fresh else t.nextBlock fresh)
  (s.modTier fun t =>
    { t with refirings := (t.refirings + 1) % 2 ^ 32, bytesRefire := (t.bytesRefire + ls.length * 4096) % 2 ^ 64 }).eraseBlock b

/-- Take a channel out of service (R218). -/
def State.loseChannel (s : State) (ch : Nat) : State :=
  if s.tier.lostChannels.any fun x => x.1 == ch then s
  else (s.modTier fun t => { t with lostChannels := t.lostChannels ++ [(ch, false)] }).raise 0x040D ch

/-- Whether a stripe used a channel (R218): a sector of it stands there, or its parity. -/
def Tier.stripeUses (t : Tier) (n ch : Nat) : Bool :=
  n % 32 == ch || (pageSectors (stripePage n ch)).any fun l => (alook l t.flash).isSome

/-! ### The journal stream in sectors (R207 to R209) -/

/-- Bytes of an item with its frame. -/
def JItem.bytes (i : JItem) : Nat := 16 + i.body.length

/-- An item as it stands in the journal stream (R207). -/
def JItem.stream (i : JItem) : List Byte := leBytes 4 i.body.length ++ leBytes 1 i.type ++ List.replicate 3 0 ++ leBytes 8 i.step ++ i.body

/-- The sectors of the stream that an item lies in. -/
def JItem.sectors (i : JItem) : List Nat :=
  (List.range ((i.offset + i.bytes - 1) / 4096 + 1 - i.offset / 4096)).map fun k => i.offset / 4096 + k

/-- Sector k of the journal stream up to byte `upto` of it, as it is programmed (R197, R207). -/
def Tier.streamSector (t : Tier) (k upto : Nat) : Sector :=
  let hits := t.journal.filter fun i => decide (i.offset < 4096 * (k + 1) ∧ 4096 * k < i.offset + i.bytes)
  let img := hits.foldl (fun img i =>
    let lo := max (4096 * k) i.offset
    let hi := min (min (4096 * (k + 1)) upto) (i.offset + i.bytes)
    Memory.putBytes img (lo - 4096 * k) ((i.stream.drop (lo - i.offset)).take (hi - lo))) []
  { kind := 2, tag := 4096 * k, image := img,
    step := ((hits.find? fun i => decide (4096 * k ≤ i.offset)).map (·.step)).getD 0 }

/-- Program sector k of the journal stream, as far as byte `upto` of the stream, at a location. -/
def State.programStream (s : State) (k upto loc : Nat) : State :=
  (s.programmed loc (s.tier.streamSector k upto)).modTier fun t =>
    { t with stream := aset k (loc, min 4096 (upto - 4096 * k)) t.stream, programmed := max t.programmed (min upto (4096 * (k + 1))),
             bytesJournal := (t.bytesJournal + 4096) % 2 ^ 64 }

/-- Whether sector k of the stream is programmed as far as an item needs. -/
def Tier.streamHolds (t : Tier) (i : JItem) (k : Nat) : Bool :=
  (alook k t.stream).any fun y => decide (min 4096 (i.offset + i.bytes - 4096 * k) ≤ y.2)

/-- The parity of the open stripes that hold journal sectors is written (R212). -/
def Tier.sealJournal (t : Tier) : Tier :=
  ((t.stream.map fun x => stripeOf x.2.1).eraseDups.filter fun n => (alook n t.stripes).isSome).foldl Tier.closeStripe t

/-- Whether an item is safe in flash: its sectors and the parity of their stripes are programmed (R209). -/
def Tier.safe (t : Tier) (i : JItem) : Bool :=
  i.sectors.all fun k => t.streamHolds i k && (alook k t.stream).any fun y => t.shut.contains (stripeOf y.1)

end Sys2Proof.Machine
end

