-- ==== Sys2Proof/Machine/Wire.lean ====
section
/-! DEFINITION. The forms on a fabric link (R295, R296, R298, R299, R309, R330): packets and flits as bytes, and the code of a lane. -/

namespace Sys2Proof.Machine

/-! ### The code of a lane (R295) -/

/-- Times alpha in GF(2^10) on p(x) = x^10 + x^3 + 1 (R295). -/
def fecShift (a : Nat) : Nat := if a.testBit 9 then (2 * a ^^^ 0x409) % 1024 else 2 * a

/-- The product of two field elements: one term for each of the ten bits of the second, highest first. -/
def fecMul (a b : Nat) : Nat := (List.range 10).foldl (fun acc i => fecShift acc ^^^ (if b.testBit (9 - i) then a else 0)) 0

/-- The powers of alpha from 1 on. -/
def fecPowers : Nat → Nat → List Nat
  | 0, _ => []
  | n + 1, a => a :: fecPowers n (fecShift a)

/-- g(x), coefficients from the highest power down (R295). -/
def fecGenerator : List Nat :=
  (fecPowers 32 1).foldl (fun g r => ((g ++ [0]).zip (0 :: g)).map fun (x : Nat × Nat) => x.1 ^^^ fecMul r x.2) [1]

/-- Check symbols 31 down to 0 of a message: its remainder modulo g(x) (R295). -/
def fecRemainder (msg : List Nat) : List Nat :=
  msg.foldl (fun rem m =>
    let q := rem.headD 0 ^^^ m
    ((rem.drop 1 ++ [0]).zip (fecGenerator.drop 1)).map fun (x : Nat × Nat) => x.1 ^^^ fecMul q x.2) (List.replicate 32 0)

/-- A codeword's 576 symbols in the order sent: 544 message symbols of ten data bits each, then the check symbols (R295). -/
def codeword (data : List Byte) : List Nat :=
  let v := ofLeBytes data
  let msg := (List.range 544).map fun k => bits v (10 * k) 10
  msg ++ fecRemainder msg

/-- What the decoder makes of the wrong symbols of a codeword: how many it corrects, at most 16; none when there are more and it reports the
codeword as uncorrectable (R295). -/
def fecCorrected (wrong : List (Nat × Nat)) : Option Nat :=
  let n := ((wrong.filter fun x => x.2 != 0).map (·.1)).eraseDups.length
  if n ≤ 16 then some n else none

/-! ### Packets (R298) -/

/-- The type-specific word, bytes 8 to 15 (R299, R309, R312, R330; the byte count of a tray access in its upper bits, log entry 20). -/
def wordOf : PBody → Nat
  | .control .. => 0
  | .hello ident .. => ident % 2 ^ 64
  | .tray addr count _ => addr % 2 ^ 40 + ((count % 2 ^ 24) <<< 40)
  | .ready seq tag attempt step epoch .. => collWord seq tag attempt step epoch
  | .data seq tag attempt step epoch .. => collWord seq tag attempt step epoch
  | .finish seq tag attempt step epoch _ => collWord seq tag attempt step epoch
  | .queueData queue attempt step number .. => queueWord queue attempt step number
  | .queueCredit queue attempt step number _ => queueWord queue attempt step number
  | .other w => w % 2 ^ 64
where
  /-- The word of a collective packet (R330). -/
  collWord (seq tag attempt step epoch : Nat) : Nat :=
    seq % 2 ^ 16 + ((tag % 2 ^ 8) <<< 16) + ((attempt % 16) <<< 24) + ((step % 16) <<< 28) + ((epoch % 2 ^ 32) <<< 32)
  /-- The word of a queue packet (R330). -/
  queueWord (queue attempt step number : Nat) : Nat :=
    queue % 64 + ((attempt % 16) <<< 8) + ((step % 16) <<< 12) + ((number % 2 ^ 16) <<< 16)

/-- The body from offset 16 on (R299, R309, R330), without the zeros that end it. -/
def bodyBytes : PBody → List Byte
  | .control step datum orig event rank state digest context =>
    leBytes 8 step ++ leBytes 8 datum ++ leBytes 2 orig ++ leBytes 2 event ++ leBytes 2 rank ++ leBytes 2 (state % 256) ++
      leBytes 16 digest ++ leBytes 2 context
  | .hello _ port lanes version least grid expect expectPort status =>
    leBytes 1 port ++ leBytes 1 lanes ++ leBytes 2 version ++ leBytes 2 least ++ leBytes 2 grid ++ leBytes 2 expect ++
      leBytes 1 expectPort ++ leBytes 1 status
  | .tray _ _ data => data
  | .ready _ _ _ _ _ opcode sendBytes recvBytes start => leBytes 8 (opcode % 256) ++ leBytes 8 sendBytes ++ leBytes 8 recvBytes ++ leBytes 8 start
  | .data _ _ _ _ _ offset payload => leBytes 8 offset ++ leBytes 8 (payload.length % 2 ^ 32) ++ payload
  | .finish _ _ _ _ _ placed => leBytes 8 placed
  | .queueData _ _ _ _ offset payload => leBytes 8 offset ++ leBytes 8 (payload.length % 2 ^ 32) ++ payload
  | .queueCredit _ _ _ _ credits => leBytes 2 credits
  | .other _ => []

/-- The 16 header bytes of a packet as a number (R298). -/
def packetHeader (p : Packet) : Nat :=
  p.dest % 2 ^ 14 + ((p.src % 2 ^ 14) <<< 14) + ((p.vc % 4) <<< 28) + ((p.type % 64) <<< 30) + (((p.slots - 1) % 256) <<< 36) +
    ((p.hops % 16) <<< 44) + ((p.job % 2 ^ 16) <<< 48) + (wordOf p.body <<< 64)

/-- Bytes with zeros up to a length. -/
def padTo (n : Nat) (bs : List Byte) : List Byte := bs ++ List.replicate (n - bs.length) 0

/-- A packet as its slots carry it (R298). -/
def packetBytes (p : Packet) : List Byte := padTo (64 * p.slots) (leBytes 16 (packetHeader p) ++ bodyBytes p.body)

/-! ### Flits (R296) -/

/-- Bytes of the slots that a piece of a packet takes. -/
def pieceBytes (q : Piece) : List Byte := ((packetBytes q.pkt).drop (64 * q.first)).take (64 * q.count)

/-- Slots used by a flit. -/
def FlitOut.slots (f : FlitOut) : Nat := (f.pieces.map (·.count)).sum

/-- The flit header, bytes 0 to 7 (R296). -/
def FlitOut.header (f : FlitOut) : Nat :=
  f.kind % 4 + ((f.seq % 4096) <<< 2) + ((f.hdr.ack % 4096) <<< 14) + ((if f.hdr.ackValid then 1 else 0) <<< 26) + ((f.slots % 64) <<< 32) +
    ((f.mask % 16) <<< 38)

/-- Bytes 0 to 2,715 of a flit. -/
def FlitOut.covered (f : FlitOut) : List Byte :=
  leBytes 8 f.header ++ f.hdr.credits.flatMap (leBytes 2) ++ padTo 2688 (f.pieces.flatMap pieceBytes) ++ List.replicate 12 0

/-- The 2,720 bytes of a flit, its CRC-32C last (R296). -/
def FlitOut.bytes (f : FlitOut) : List Byte := f.covered ++ leBytes 4 (crc32c f.covered)

/-- The four codewords that carry a flit (R296). -/
def FlitOut.codewords (f : FlitOut) : List (List Nat) := (List.range 4).map fun i => codeword ((f.bytes.drop (680 * i)).take 680)

/-- The 20-bit sync field of a block (R294): its pattern, the physical lane, the block count modulo 256. -/
def syncField (lane count : Nat) : Nat := 0x2D3 + ((lane % 4) <<< 10) + ((count % 256) <<< 12)

/-- The lanes that the next four codewords of a port go by: dealt to the active lanes in turn, in increasing order (R296). -/
def dealLanes (mask turn : Nat) : List Nat :=
  let a := (List.range 4).filter mask.testBit
  (List.range 4).map fun i => a.getD ((turn + i) % max a.length 1) 0

/-- The sync fields of the blocks that lanes send in turn, and the block counts after them (R294). -/
def syncFields : List Nat → List Nat → List Nat × List Nat
  | [], counts => ([], counts)
  | lane :: rest, counts =>
    let (fields, after) := syncFields rest (counts.modify lane fun n => (n + 1) % 256)
    (syncField lane (counts.getD lane 0) :: fields, after)

/-- The 5,780 bits of a block: the sync field, then its codeword, symbol by symbol, bit 0 of each first (R294, R295). -/
def blockBits (sync : Nat) (word : List Nat) : List Bool :=
  (List.range 20).map sync.testBit ++ word.flatMap fun x => (List.range 10).map x.testBit

/-- The four blocks that carry a flit, in the order of its codewords (R294, R296). -/
def FlitOut.blocks (f : FlitOut) (syncs : List Nat) : List (List Bool) := (syncs.zip f.codewords).map fun x => blockBits x.1 x.2

/-- The turn after four more codewords. -/
def nextTurn (mask turn : Nat) : Nat := (turn + 4) % max ((List.range 4).filter mask.testBit).length 1

end Sys2Proof.Machine
end

