-- ==== Sys2Proof/Machine/LinkOps.lean ====
section
/-! DEFINITION. Sending on the fabric: routes, credits, flits (R296 to R301), and the ranks of a job (R317, R234). -/

namespace Sys2Proof.Machine

/-! ### Members and ranks -/

/-- The job identifier (R317). -/
def State.job (s : State) (c : Nat) : Nat := s.memNat (s.memberList c) 2
/-- This member's rank (R317). -/
def State.rank (s : State) (c : Nat) : Nat := s.memNat (s.memberList c + 4) 2
/-- Grid reference of job rank k (R317). -/
def State.gridOf (s : State) (c k : Nat) : Nat := s.memNat (s.memberList c + 64 + 2 * k) 2 % 2 ^ 14
/-- Parent of rank k in the control tree (R234). -/
def treeParent (k : Nat) : Nat := (k - 1) / 8
/-- Children of rank k in the control tree of N members (R234). -/
def treeChildren (k n : Nat) : List Nat := ((List.range 8).map fun i => 8 * k + 1 + i).filter (· < n)
/-- The ranks at the ends of the tree links of a member (R234). -/
def State.treeLinks (s : State) (c : Nat) : List Nat :=
  let k := s.rank c
  (if k = 0 then [] else [treeParent k]) ++ treeChildren k (s.members c)

/-- The enabled context that holds a job (R317: at most one). -/
def State.ctxOfJob (s : State) (job : Nat) : Option Nat := s.enabledCtxs.find? fun c => s.job c == job

/-! ### Routes (R300) -/

/-- The route entry toward a grid reference (R300, R475). -/
def State.route (s : State) (g : Nat) : Nat :=
  if g / 8 = s.gridRef / 8 then s.blk 4 (0x200 + 8 * (g % 8)) else s.blk 4 (0x200 + 8 * (8 + g / 8))

/-- Whether a port carries traffic: UP or DEGRADED. -/
def Port.usable (p : Port) : Bool := p.st == .up || p.st == .degraded

/-- The primary port of an entry, if valid. -/
def primaryOf (e : Nat) : Option Nat := if e.testBit 3 then some (bits e 0 3) else none
/-- The alternate port of an entry, if valid. -/
def alternateOf (e : Nat) : Option Nat := if e.testBit 7 then some (bits e 4 3) else none

/-- The port that a packet for a grid reference leaves by (R300): data only by the primary. -/
def State.portTo (s : State) (g : Nat) (control : Bool) : Option Nat :=
  let e := s.route g
  let ok (p : Option Nat) := p.filter fun p => (s.port p).usable
  match ok (primaryOf e) with
  | some p => some p
  | none => if control then ok (alternateOf e) else none

/-- Whether a port carries a route of context c's job (R306): the primary toward some member. -/
def State.carriesRoute (s : State) (c p : Nat) : Bool :=
  (List.range (s.members c)).any fun k => k != s.rank c && primaryOf (s.route (s.gridOf c k)) == some p

/-- Discard a packet (R298, R300): counted, and event 0x0508 at most once per port per millisecond, with the count (R316). -/
def State.discard (s : State) (port : Nat) (p : Packet) : State :=
  let s := { s with discards := satAdd 32 s.discards 1 }
  let old := (s.discardIn.find? fun x => x.1 == port)
  match old with
  | some (_, t, n) =>
    if s.datum < t + 1000000 then
      { s with discardIn := s.discardIn.map fun (x : Nat × Nat × Nat) => if x.1 = port then (port, t, n + 1) else x }
    else
      let s := { s with discardIn := s.discardIn.map fun (x : Nat × Nat × Nat) => if x.1 = port then (port, s.datum, 0) else x }
      s.raise 0x0508 (min (n + 1) (2 ^ 32 - 1) + (port <<< 32) + (packetHeader p <<< 64))
  | none =>
    let s := { s with discardIn := (port, s.datum, 0) :: s.discardIn }
    s.raise 0x0508 (1 + (port <<< 32) + (packetHeader p <<< 64))

/-! ### Flits (R296, R297, R301) -/

/-- The packets of a port's queue that credit allows now, in order: on one channel none overtakes another. -/
def sendable : List Packet → List Nat → List Packet
  | [], _ => []
  | p :: rest, credits =>
    let have_ := credits.getD p.vc 0
    if p.slots ≤ have_ then p :: sendable rest (credits.set p.vc (have_ - p.slots)) else sendable rest (credits.set p.vc 0)

/-- The first packets of a run that fit into `n` slots. -/
def takeSlots : Nat → List Packet → List Packet
  | _, [] => []
  | n, p :: rest => if p.slots ≤ n then p :: takeSlots (n - p.slots) rest else []

/-- Channel priority (R297): VC0 first, VC1 and VC2 in turn, VC3 last. -/
def byPriority (ps : List Packet) : List Packet :=
  let v (i : Nat) := ps.filter (·.vc == i)
  let rec turn : List Packet → List Packet → List Packet
    | a :: as, b :: bs => a :: b :: turn as bs
    | as, [] => as
    | [], bs => bs
  v 0 ++ turn (v 1) (v 2) ++ v 3

/-- Cut a run of packets into flits of 42 slots: the pieces of each. `room` is what the flit being filled still takes; a packet of
`left` slots remaining starts at slot `first`. -/
def cutPacket (p : Packet) : Nat → Nat → Nat → Nat → List Piece → List (List Piece) → List Piece × List (List Piece) × Nat
  | 0, _, _, room, cur, done => (cur, done, room)
  | fuel + 1, first, left, room, cur, done =>
    if left = 0 then (cur, done, room)
    else if room = 0 then cutPacket p fuel first left 42 [] (cur.reverse :: done)
    else
      let n := min left room
      cutPacket p fuel (first + n) (left - n) (room - n) (⟨p, first, n⟩ :: cur) done

/-- The flits' pieces of a run of packets. -/
def cutFlits (ps : List Packet) : List (List Piece) :=
  let (cur, done, _) := ps.foldl (fun (cur, done, room) p => cutPacket p 600 0 p.slots room cur done) (([] : List Piece), [], 42)
  (if cur = [] then done else cur.reverse :: done).reverse

/-- The ack that a port's next flit carries: the last data flit received in order (R296). -/
def Port.ack (p : Port) : Nat := (p.rxSeq + 4095) % 4096

/-- The sync fields of the four blocks that a port sends next, and its block counts after them (R294, R296). -/
def Port.nextBlocks (p : Port) : List Nat × List Nat := syncFields (dealLanes p.lanes p.txTurn) p.blocks

/-- Send a flit (R294, R296, R301). The ack goes with every flit; the codewords are dealt to the active lanes in turn. -/
def State.sendFlit (s : State) (port kind seq mask : Nat) (credits : List Nat) (pieces : List Piece) : State :=
  let x := s.port port
  (s.setPort port { x with unacked := 0, txTurn := nextTurn x.lanes x.txTurn, blocks := x.nextBlocks.2 }).emit
    (.flit port x.nextBlocks.1
      { kind := kind, seq := seq, hdr := { credits := credits, ack := x.ack, ackValid := true }, mask := mask, pieces := pieces })

/-- Send a flit without slots, with the credits freed since the last report (R296). -/
def State.sendBare (s : State) (port kind mask : Nat) : State :=
  let x := s.port port
  (s.setPort port { x with freed := [0, 0, 0, 0] }).sendFlit port kind 0 mask x.freed []

/-- The packets that may leave by a port: off UP and DEGRADED only HELLO (R311). -/
def Port.mayGo (p : Port) : List Packet := if p.usable then p.waiting else p.waiting.filter (·.vc == 3)

/-- Whether the next packet of a channel waits for credit. -/
def Port.stalled (p : Port) (v : Nat) : Bool :=
  (p.mayGo.find? fun q => q.vc == v).any fun q => decide (q.slots > p.credits.getD v 0)

/-- Cycles of the flue logic's 1.5 GHz clock in a time in nanoseconds (R402; log entry 87). -/
def flueCycles (ns : Nat) : Nat := 3 * ns / 2

/-- The credit-stall cycles of a channel up to now (R314). -/
def Port.stallsTo (p : Port) (now v : Nat) : Nat :=
  satAdd 32 (p.stalls.getD v 0) (((p.stallSince.getD v none).map fun t => flueCycles (now - t)).getD 0)

/-- Begin and end the counting of credit stalls (R314). -/
def Port.countStalls (p : Port) (now : Nat) : Port :=
  { p with
    stalls := (List.range 4).map fun v => if p.stalled v then p.stalls.getD v 0 else p.stallsTo now v
    stallSince := (List.range 4).map fun v => if p.stalled v then some ((p.stallSince.getD v none).getD now) else none }

/-- The credits left when packets have gone. -/
def spend (credits : List Nat) (go : List Packet) : List Nat := go.foldl (fun c q => modAt c q.vc fun n => n - q.slots) credits

/-- Build and send the data flits that credit and the replay buffer of 2,048 allow (R297, R301); with that buffer full an idle flit goes
instead. -/
def State.pump (s : State) (port : Nat) : State :=
  let p := s.port port
  let ready := byPriority (sendable p.mayGo p.credits)
  let go := takeSlots (42 * (2048 - p.replay.length)) ready
  if go = [] then
    let s := s.setPort port (p.countStalls s.datum)
    if ready = [] then s else s.sendBare port 1 0
  else
    let made : List Flit := (cutFlits go).mapIdx fun i ps =>
      { hdr := { credits := if i = 0 then p.freed else [0, 0, 0, 0], ack := p.ack, ackValid := true }, seq := (p.txSeq + i) % 4096, pieces := ps }
    let p' := { p with waiting := go.foldl List.erase p.waiting, credits := spend p.credits go, replay := p.replay ++ made, freed := [0, 0, 0, 0],
                       txSeq := (p.txSeq + made.length) % 4096, flitsTx := (p.flitsTx + made.length) % 2 ^ 64 }
    let s := s.setPort port (p'.countStalls s.datum)
    let s := go.foldl (fun s q => s.emit (.packet port q)) s
    made.foldl (fun s f => s.sendFlit port 0 f.seq 0 f.hdr.credits f.pieces) s

/-- Hand a packet to a port. -/
def State.toPort (s : State) (port : Nat) (p : Packet) : State :=
  (s.modPort port fun x => { x with waiting := x.waiting ++ [p] }).pump port

/-- Send a packet by the route table (R300). Data without a usable primary port is discarded; a control packet without any usable
port goes nowhere (the member is unreachable). -/
def State.sendPacket (s : State) (p : Packet) : State :=
  match s.portTo p.dest (p.vc == 0) with
  | some port => s.toPort port p
  | none => if p.vc = 0 then s else s.discard ((primaryOf (s.route p.dest)).getD 0) p

/-- A member is unreachable when its entry has neither port UP or DEGRADED (R300). -/
def State.unreachable (s : State) (c k : Nat) : Bool := (s.portTo (s.gridOf c k) true).isNone

/-- The control packet types of R299. -/
inductive Ctl where
  | bent | abort | fire | void | heartbeat | digest | lost
deriving DecidableEq, Repr

/-- Type codes of R299. -/
def Ctl.type : Ctl → Nat
  | .bent => 1
  | .abort => 2
  | .fire => 3
  | .void => 4
  | .heartbeat => 5
  | .digest => 6
  | .lost => 7

/-- Send a control packet of context c's job to a rank (R234, R299). Fields: step, datum, orig_rank, event, state, digest, context. -/
def State.sendCtl (s : State) (c rank : Nat) (k : Ctl) (step datum orig event state digest cx : Nat) : State :=
  s.sendPacket
    { dest := s.gridOf c rank, src := s.gridRef, vc := 0, type := k.type, slots := 1, hops := 0, job := s.job c,
      body := .control step datum orig event (s.rank c) state digest cx }

/-- Send a control packet to every child. -/
def State.ctlDown (s : State) (c : Nat) (k : Ctl) (step datum orig event : Nat) : State :=
  (treeChildren (s.rank c) (s.members c)).foldl (fun s r => s.sendCtl c r k step datum orig event 0 0 0) s

/-- Forward a packet for another grid reference (R300): a data packet of a job without a context here is discarded, and so is any packet that
arrives with hops at 8. HELLO is never forwarded (R309). -/
def State.forward (s : State) (port : Nat) (p : Packet) : State :=
  if p.hops ≥ 8 ∨ p.type = 0x10 ∨ ((p.vc = 1 ∨ p.vc = 2) ∧ (s.ctxOfJob p.job).isNone) then s.discard port p
  else s.sendPacket { p with hops := p.hops + 1 }

/-- Whether this module takes a packet: it is for its grid reference, and did not arrive with hops at 8 (R300). -/
def State.isMine (s : State) (p : Packet) : Bool := p.dest == s.gridRef && s.gridValid && decide (p.hops < 8)

end Sys2Proof.Machine
end

