-- ==== Sys2Proof/Machine/Park.lean ====
section
/-! DEFINITION. Descriptors as dispatch sees them (R84), which operations may be dispatched (R85), when a context parks (R88), which
context a kiln takes (R81), and the kilns' states with their starve cycles (R83, R86). -/

namespace Sys2Proof.Machine

/-! ### Descriptors -/

/-- Opcode of a descriptor (R358). -/
def opcodeOf (d : Desc) : Nat := d.field 2 1
/-- Lane of the control word (R84). -/
def laneOf (d : Desc) : Nat := d.field 16 1
/-- Phase of the control word (R84). -/
def phaseOf (d : Desc) : Nat := bits (d.field 16 8) 8 2
/-- Action of a PAGE_CONTROL (R271). -/
def actionOf (d : Desc) : Nat := d.field 26 1

/-- Opcodes of the catalogue of R89. -/
def inCatalogue (op : Nat) : Bool :=
  decide (1 ≤ op ∧ op ≤ 5) || op == 0x10 || op == 0x11 || decide (0x18 ≤ op ∧ op ≤ 0x1A) || op == 0x20 || op == 0x21 || op == 0x28 ||
    decide (0x30 ≤ op ∧ op ≤ 0x32) || decide (0x40 ≤ op ∧ op ≤ 0x45) || decide (0x48 ≤ op ∧ op ≤ 0x4A) ||
    decide (0x50 ≤ op ∧ op ≤ 0x52) || decide (0x60 ≤ op ∧ op ≤ 0x62)

/-- Operations that use kilns: products, conversions, vector programs, attention, resident copies, optimisers, and the APPEND and
REFILL of PAGE_CONTROL (R271); the other operations use none (log entry 14). -/
def usesKiln (d : Desc) : Bool :=
  let op := opcodeOf d
  op == 4 || op == 5 || op == 0x10 || op == 0x11 || op == 0x18 || op == 0x19 || op == 0x20 || op == 0x21 || op == 0x28 ||
    decide (0x50 ≤ op ∧ op ≤ 0x52) || (op == 0x1A && (actionOf d == 2 || actionOf d == 7))

/-- Whether an opcode is a collective (R89). -/
def isCollective (op : Nat) : Bool := decide (0x40 ≤ op ∧ op ≤ 0x45)

/-- A re-sharding PERMUTE (R321, R336). -/
def isReshard (d : Desc) : Bool := opcodeOf d == 0x44 && (d.field 28 4).testBit 18

/-- kiln_first and kiln_count (R84). -/
def kilnsOf (d : Desc) : Nat × Nat :=
  let w := d.field 16 8
  (bits w 16 6, bits w 22 6 + 1)

/-- Whether two descriptors' kiln ranges meet. -/
def kilnsMeet (a b : Desc) : Bool :=
  let (f, n) := kilnsOf a
  let (g, m) := kilnsOf b
  decide (f < g + m ∧ g < f + n)

/-- The module numbers of the kilns of a descriptor. -/
def State.opKilns (s : State) (c : Nat) (d : Desc) : List Nat :=
  let (f, n) := kilnsOf d
  ((s.kilnSet c).drop f).take n

/-! ### Parking (R88) and readiness (R81) -/

/-- Whether the ring lets operations of its window be dispatched (R87, R368, R374). -/
def ringDispatches (x : Ctx) : Bool :=
  match x.ring with
  | .blocked => false
  | .halted => false
  | .orphaned => !(x.ringBefore == .blocked || x.ringBefore == .halted)
  | _ => true

/-- Whether the context's step lets operations run: RUNNING, LOADING, or newly enabled without a launch (R88, R399). -/
def stepRuns (x : Ctx) : Bool :=
  x.enabled && x.launch.isNone && (x.step == .running || x.loading || (x.step == .stopped && x.fresh) || x.step == .bent || x.step == .armed)

/-- Whether an operation has started (R85): dispatched, and not held by a condition of its own, a credit, an arrived slot, a free page or
the previous firing. -/
def WinOp.started (v : WinOp) : Bool :=
  v.st == .finished || (v.st == .running && v.wait != some .queueCredit && v.wait != some .queueArrival && v.wait != some .page &&
    v.wait != some .firing)

/-- Whether a waiting operation may be dispatched: conditions 1 to 3 of R85, and the collective rules of R328, R335, R336. A finished
operation whose completion is held back (R383, R505) has done its share on its kilns. -/
def eligible (win : List WinOp) (w : WinOp) : Bool :=
  let earlier := win.filter fun v => decide (v.pos < w.pos)
  let lane := laneOf w.desc
  let same := earlier.filter fun v => laneOf v.desc == lane
  let noWait := (w.desc.field 16 8).testBit 11
  let c1 := if noWait then (match same.reverse with
      | v :: _ => v.started
      | [] => true) else same.isEmpty
  let c2 := if lane = 255 then earlier.isEmpty else earlier.all fun v => laneOf v.desc != 255
  let c3 := !usesKiln w.desc || earlier.all fun v => !usesKiln v.desc || v.st == .finished || phaseOf v.desc == phaseOf w.desc || !kilnsMeet v.desc w.desc
  let colls := earlier.filter fun v => isCollective (opcodeOf v.desc)
  let c4 := !isCollective (opcodeOf w.desc) ||
    ((win.filter fun v => isCollective (opcodeOf v.desc) && v.st == .running).length < 16 &&
     (colls.all fun v => !isReshard v.desc) && (!isReshard w.desc || colls.isEmpty))
  w.st == .waiting && c1 && c2 && c3 && c4

/-- R88: the context can dispatch nothing until someone outside acts. A context just enabled is STOPPED but runs from its first dispatch
(R399, R468), so it does not park. -/
def State.parks (s : State) (c : Nat) : Bool :=
  let x := s.ctx c
  !x.enabled || x.loading || x.step == .voiding || (x.step == .stopped && !x.fresh) || !ringDispatches x ||
    (x.ring != .active && !(x.window.any fun w => eligible x.window w))

/-- Whether a dispatched operation can go on when its kilns serve its context: a switch interrupted it, or its wait is over (R82). -/
def WinOp.resumes (w : WinOp) : Bool := w.st == .running && (w.wait.isNone || w.due)

/-- Whether a context is ready on a kiln: it has an operation dispatchable there (R81), or one that a switch interrupted there (R82). -/
def State.readyOn (s : State) (c k : Nat) : Bool :=
  let x := s.ctx c
  stepRuns x && (s.kilnSet c).contains k &&
    x.window.any fun w => (ringDispatches x && eligible x.window w || w.resumes) && usesKiln w.desc && (s.opKilns c w.desc).contains k

/-- The choice of R81 among ready contexts: the highest priority, then the next number after the one that was left, wrapping. -/
def State.pickAfter (s : State) (from_ : Nat) (ready : List Nat) : Option Nat :=
  let best := ready.foldl (fun m c => max m (s.priority c)) 0
  let top := ready.filter fun c => s.priority c == best
  match top.find? fun c => decide (c > from_) with
  | some c => some c
  | none => top.head?

/-- The next context of kiln k that leaves a context (R81). -/
def State.nextFor (s : State) (k from_ : Nat) : Option Nat :=
  s.pickAfter from_ (s.enabledCtxs.filter fun c => c != from_ && s.readyOn c k)

/-- The context that kiln k takes next, by R81: another one when it runs one, any ready one when it is IDLE. -/
def State.successor (s : State) (k : Nat) : Option Nat :=
  match (s.kiln k).ctx with
  | some d => s.nextFor k d
  | none => s.pickAfter ((s.kiln k).left.getD 1023) (s.enabledCtxs.filter fun c => s.readyOn c k)

/-! ### Kiln states (R83, R86) -/

/-- Number of a cause in the order of R86. -/
def Wait.num : Wait → Nat
  | .collective => 0
  | .queueCredit => 1
  | .queueArrival => 2
  | .page => 3
  | .firing => 4
  | .hostInput => 5
  | .demandMiss => 6
  | .sibling => 7
  | .other => 8

/-- Add to a map of counts that saturates at 64 bits. -/
def bump (l : List (Nat × Nat)) (k n : Nat) : List (Nat × Nat) := aset k (satAdd 64 ((alook k l).getD 0) n) l

/-- Wheel cycles of 2.25 GHz that a starving kiln has spent since they were last counted (R86; log entry 14); outside RUN the wheel
clock stands still (R418). -/
def State.starvedCycles (s : State) (k : Nat) : Nat :=
  if s.pwr.life = .ready ∧ s.pwr.current = 0 then (s.datum - (s.kiln k).counted) * 9 / 4 else 0

/-- Count a starving kiln's wheel cycles so far against the cause, for the kiln and for its context (R86). -/
def State.countStarve (s : State) (k : Nat) : State :=
  let x := s.kiln k
  match x.starving, x.ctx with
  | some w, some c =>
    let n := s.starvedCycles k
    (s.setKiln k { x with starve := bump x.starve w.num n, counted := s.datum }).modCtx c fun y => { y with starve := bump y.starve w.num n }
  | _, _ => s

/-- Leave STARVING: the cycles so far are counted (R86). -/
def State.endStarve (s : State) (k : Nat) : State := (s.countStarve k).modKiln k fun x => { x with starving := none }

/-- The cycles that starving kilns of a context have spent on cause `w` since they were last counted: what the context's KLN_STARVE
register shows beside the counted ones (R86). -/
def State.starvingNow (s : State) (c w : Nat) : Nat :=
  ((s.kilns.filter fun k => k.2.ctx == some c && (k.2.starving.map Wait.num) == some w).map fun k => s.starvedCycles k.1).sum

/-- Begin a switch of a kiln (R82, R83). -/
def State.startSwitch (s : State) (k : Nat) (dest : Option Nat) : State :=
  (s.endStarve k).modKiln k fun x => { x with st := .switching, save := x.ctx.isSome, next := dest, since := s.datum }

/-- Whether an operation waits (R86): it is not dispatched, or waits for something, or is a kiln operation whose other kilns have not
finished their shares. -/
def WinOp.waits (w : WinOp) : Bool := w.st == .waiting || (w.st == .running && (w.wait.isSome || usesKiln w.desc))

/-- Cause of the oldest waiting operation of a context (R86). -/
def State.oldestCause (s : State) (c : Nat) : Wait :=
  match (s.ctx c).window.find? WinOp.waits with
  | some w => w.wait.getD (if w.st = .running then .sibling else .other)
  | none => .other

/-- Whether an operation of the context runs on kiln k now: dispatched, with nothing to wait for. -/
def State.busyOn (s : State) (c k : Nat) : Bool :=
  (s.ctx c).window.any fun w => w.st == .running && w.wait.isNone && usesKiln w.desc && (s.opKilns c w.desc).contains k

/-- Whether the context has a fetched operation left for kiln k (R81). -/
def State.workFor (s : State) (c k : Nat) : Bool :=
  (s.ctx c).window.any fun w => w.st != .finished && usesKiln w.desc && (s.opKilns c w.desc).contains k

/-- Whether a kiln may leave its context for context c on the triggers of R81 that a dispatch shows: higher priority, or nothing
left for the kiln. -/
def State.yields (s : State) (k c : Nat) : Bool :=
  let x := s.kiln k
  match x.st, x.ctx with
  | .idle, _ => true
  | .switching, _ => false
  | _, none => true
  | _, some d => decide (s.priority c > s.priority d) || s.parks d || !s.workFor d k

/-- Whether a kiln runs context c (R75). -/
def State.holds (s : State) (k c : Nat) : Bool :=
  let x := s.kiln k
  x.ctx == some c && (x.st == .running || x.st == .starving)

/-- Whether every kiln of an operation serves its context (R75): each does so to one context at a time. -/
def State.served (s : State) (c : Nat) (d : Desc) : Bool := !usesKiln d || (s.opKilns c d).all fun k => s.holds k c

/-- The kilns of a list that do not run context c, and may leave what they run, are switched, to the ready context that R81 chooses
(R83). -/
def State.callKilns (s : State) (c : Nat) (ks : List Nat) : State :=
  ks.foldl (fun s k => if !s.holds k c && s.yields k c then s.startSwitch k (s.successor k) else s) s

/-- Put kiln k of context c where R83 has it now: RUNNING, STARVING against the present cause, or in a switch when the context parks (R88)
or has nothing left for it while another is ready (R81 case 4). With no operation waiting the cause is `other` (R86 names no other: DESIGN
CHOICE, log entry 14). -/
def State.settleKiln (s : State) (c k : Nat) : State :=
  let x := s.kiln k
  if x.ctx ≠ some c ∨ x.st = .switching ∨ x.st = .idle then s
  else if s.busyOn c k then (s.endStarve k).modKiln k fun x => { x with st := .running }
  else if s.parks c then s.startSwitch k (s.nextFor k c)
  else if !s.workFor c k && (s.nextFor k c).isSome then s.startSwitch k (s.nextFor k c)
  else
    let cause := s.oldestCause c
    if x.starving = some cause then s
    else
      (s.countStarve k).modKiln k fun y =>
        { y with st := .starving, starving := some cause, counted := s.datum, since := if x.st = .starving then x.since else s.datum }

/-- Every kiln of a context, after whatever happened to it (R83, R86, R88). -/
def State.settleKilns (s : State) (c : Nat) : State := (s.kilnSet c).foldl (fun s k => s.settleKiln c k) s

end Sys2Proof.Machine
end

