-- ==== Sys2Proof/Machine/Hooks.lean ====
section
/-! DEFINITION. What the firing and the void of a step do in each unit: journal, migrations, page cache, watch records, queues of
entries and the ring states (R207, R155, R268, R114, R366, R369). -/

namespace Sys2Proof.Machine

/-! ### The journal (R207 to R211) -/

/-- Append an item to the journal stream, unless journalling is stopped (R207, R211). -/
def State.journal (s : State) (c type step : Nat) (body : List Byte) : State :=
  if s.tier.stopped then s
  else s.modTier fun t =>
    { t with journal := t.journal ++ [{ ctx := c, type := type, step := step, body := body, offset := t.journalEnd }],
             journalEnd := t.journalEnd + 16 + body.length }

/-- Queued but unprogrammed journal bytes (R211). -/
def Tier.backlog (t : Tier) : Nat :=
  ((t.journal.filter fun i => !i.durable).map fun i => i.bytes - (t.programmed - i.offset)).sum

/-- Settled step of a context (R209): one less than its smallest dirty-since step, or h; never above h. -/
def State.settled (s : State) (c : Nat) : Nat :=
  let h := (s.ctx c).hearth
  let mine := s.tier.dirtySince.filter fun x => x.1 / 2 ^ 33 == c
  match mine with
  | [] => h
  | x :: rest => min h (rest.foldl (fun m y => min m y.2) x.2 - 1)

/-- Live journal bytes: the items of steps σ + 1 to h (R209, R211). -/
def State.liveJournal (s : State) : Nat :=
  ((s.tier.journal.filter fun i => decide (s.settled i.ctx < i.step ∧ i.step ≤ (s.ctx i.ctx).hearth)).map JItem.bytes).sum

/-- Whether the backlog exceeds its limit (R211). -/
def State.backlogOver (s : State) : Bool :=
  decide (s.tier.backlog > s.blk 11 0x30 * 2 ^ 20 ∨ s.liveJournal > 240 * 2 ^ 30)

/-- Cleaning has its floor share while the live journal exceeds TIER_JOURNAL_TARGET (R211). -/
def State.weighJournal (s : State) : State :=
  s.modTier fun t => { t with raised := decide (s.liveJournal > s.blk 11 0x38 * 2 ^ 30) }

/-- The items of the last attempt of step n of a context: a tally record begins one, a void marker makes it dead (R208). -/
def Tier.attempt (t : Tier) (c n : Nat) : List JItem :=
  (t.journal.filter fun i => i.ctx == c && i.step == n).foldl (fun acc i =>
    match i.type with
    | 1 => [i]
    | 2 => acc ++ [i]
    | _ => []) []

/-- Whether step n of a context has its tally record and its fired marker programmed, neither lost (R209). -/
def Tier.stepDurable (t : Tier) (c n : Nat) : Bool :=
  let has (ty : Nat) := (t.attempt c n).any fun i => i.type == ty && i.durable && !i.lost
  has 1 && has 2

/-- The hearth step reached from h by whole durable steps. -/
def Tier.hearthFrom (t : Tier) (c : Nat) : Nat → Nat → Nat
  | 0, h => h
  | k + 1, h => if t.stepDurable c (h + 1) then t.hearthFrom c k (h + 1) else h

/-- Recompute a context's hearth step (R209): from h, or from the step of a seal that lies above it once every copy that was dirty then is
clean (log entry 84). While journalling is stopped it is frozen (R211). -/
def State.raiseHearth (s : State) (c : Nat) : State :=
  if s.tier.stopped then s
  else
    let x := s.ctx c
    let whole (f : Nat) : Bool := s.tier.dirtySince.all fun y => y.1 / 2 ^ 33 != c || decide (f < y.2)
    match x.rebase with
    | some f =>
      if whole f then s.modCtx c fun x => { x with hearth := s.tier.hearthFrom c s.tier.journal.length (max f x.hearth), rebase := none }
      else s
    | none => s.modCtx c fun x => { x with hearth := s.tier.hearthFrom c s.tier.journal.length x.hearth }

/-! ### Ring states (R369) -/

/-- Put the ring into a state for a reason (R364). -/
def State.setRing (s : State) (c : Nat) (r : RingState) (reason : Nat) : State :=
  (s.modCtx c fun x => { x with ring := r, ringReason := reason, statusDirty := true }).settleKilns c

/-- The column "Operation refused or stopped under R87" of R369. -/
def State.ringBlock (s : State) (c code : Nat) : State :=
  match (s.ctx c).ring with
  | .halted => s
  | .orphaned => (s.modCtx c fun x => { x with ringBefore := if x.ringBefore = .halted then .halted else .blocked }).settleKilns c
  | _ => s.setRing c .blocked code

/-- The column "Step voided, or context STOPPED" of R369: HALTED at retire_pos; fetching starts there again. -/
def State.ringHalt (s : State) (c code : Nat) : State :=
  let s := s.modCtx c fun x => { x with fetchPos := x.retirePos, conesFetched := 0, window := [], reread := none, stalledReads := [],
                                        statusDirty := true
                                        writes := x.writes.map fun w => match w.kind with
                                          | .output _ => { w with kind := .left }
                                          | _ => w }
  match (s.ctx c).ring with
  | .orphaned => (s.modCtx c fun x => { x with ringBefore := .halted }).settleKilns c
  | _ => s.setRing c .halted code

/-! ### Completions (R365) -/

/-- Queue a completion entry. It is never dropped (R366). -/
def State.complete (s : State) (c pos : Nat) (d : Desc) (outcome step payload : Nat) : State :=
  s.toContext c false
    { kind := 1, outcome := outcome, code := d.field 2 1, context := c, position := pos, step := step, datum := s.datum,
      tag := d.field 4 4, payload := payload }

/-- Queue the completion of a CONE (R365); its opcode is 0x62. -/
def State.completeCone (s : State) (c pos tag outcome step payload : Nat) : State :=
  s.toContext c false
    { kind := 1, outcome := outcome, code := 0x62, context := c, position := pos, step := step, datum := s.datum, tag := tag,
      payload := payload }

/-! ### Migrations (R155, R156) -/

/-- Give the frames of the dirty masks back to the shadow reserve (R154). -/
def State.releaseMasks (s : State) (c : Nat) : State :=
  (s.giveReserves (s.ctx c).maskFrames).modCtx c fun x => { x with maskFrames := [] }

/-- Release the copies of a context's migrations: rollback or job stop (R156). -/
def State.releaseMigrations (s : State) (c : Nat) : State :=
  let ms := (s.ctx c).migrations
  if ms = [] then s
  else
    let s := s.releaseMasks c
    let s := ms.foldl (fun s m => if m.dest = 2 then s else s.givePool m.frame) s
    let s := s.modCtx c fun x => { x with migrations := [] }
    s.raiseCtx c none 0x0B06 ms.length

/-- At the firing of step n a migrated parcel's entry points to the copy; the old location and any shadow are released (R155). A parcel that
was never written takes no home (R198), and one for which the user capacity has fallen short since stays where it is (R215). -/
def State.fireMigration (s : State) (c n : Nat) (m : Migration) : State :=
  let e := (s.firedEntry c m.parcel).getD { where_ := 0 }
  let sh := alook m.parcel (s.ctx c).shadows
  if m.dest = 2 ∧ ((e.where_ = 0 ∧ sh.isNone) ∨ (!s.homed c m.parcel ∧ (s.tier.homes.length ≥ s.tier.capacity ∨ !s.mapRoom))) then s.checkFull
  else
  let step := if sh.isSome then n else e.step
  let s := match sh with
    | some x => (s.giveReserve x.frame).modCtx c fun y => { y with shadows := adel m.parcel y.shadows }
    | none => s
  let s := if e.where_ = 1 then s.givePool e.frame else s
  let s := s.modCtx c fun x => { x with firedShadows := adel m.parcel x.firedShadows }
  if m.dest = 2 then
    let (loc, s) := s.freshLoc
    let s := s.modTier fun t => { t with lastUse := adel (homeKey c m.parcel) t.lastUse, placed := adel (homeKey c m.parcel) t.placed }
    let s := (s.setHome c m.parcel step (imageBytes m.image) loc).checkFull
    s.setPlatEntry c m.parcel { where_ := 2, step := step % 2 ^ 28 }
  else
    let key := homeKey c m.parcel
    let clean := (alook key s.tier.dirtySince).isNone && !sh.isSome && (alook key s.tier.homes).any fun h => !h.lost
    let s := s.modTier fun t => { t with placed := aset key n t.placed, lastUse := aset key s.datum t.lastUse,
                                         dirtySince := if clean || (alook key t.dirtySince).isSome then t.dirtySince
                                           else aset key n t.dirtySince }
    s.setPlatEntry c m.parcel { where_ := 1, dirty := !clean, frame := m.frame, step := step % 2 ^ 28 }

/-! ### Tally records held in DRAM (R249) -/

/-- Drop the tally records that a test names: their frames return to the free parcel pool. -/
def State.dropTallies (s : State) (c : Nat) (p : Tally → Bool) : State :=
  let gone := (s.ctx c).tallies.filter p
  (gone.foldl (fun s t => t.frames.foldl (fun s f => s.givePool f) s) s).modCtx c fun x => { x with tallies := x.tallies.filter fun t => !p t }

/-- Take `n` frames of the free parcel pool for a record. -/
def State.takeTally (s : State) : Nat → Option (List Nat × State)
  | 0 => some ([], s)
  | n + 1 => match s.takePool s.poolDie with
    | none => none
    | some (f, s) => (s.takeTally n).map fun r => (f :: r.1, r.2)

/-- A held record is released when it is delivered and, unless journalling is stopped, programmed in the journal (R249). -/
def State.releaseTallies (s : State) (c : Nat) : State := s.dropTallies c fun t => t.delivered && (t.journaled || s.tier.stopped)

/-! ### Journal items that have become safe (R208, R209, R249) -/

/-- The tally records of a context that the journal holds, durable (R249). -/
def State.noteJournaled (s : State) (c : Nat) : State :=
  (s.modCtx c fun x => { x with tallies := x.tallies.map fun t =>
    if (s.tier.journal.any fun i => i.ctx == c && i.type == 1 && i.step == t.step && i.durable) then { t with journaled := true } else t }).releaseTallies c

/-- Items whose sectors and parity are programmed turn durable, h rises, and records that waited for it are released (R209, R249). -/
def State.settleJournal (s : State) : State :=
  let now := s.tier.journal.filter fun i => !i.durable && s.tier.safe i
  if now = [] then s
  else
    let s := s.modTier fun t => { t with journal := t.journal.map fun i => { i with durable := i.durable || t.safe i } }
    ((now.map (·.ctx)).eraseDups).foldl (fun s c => (s.raiseHearth c).noteJournaled c) s

/-! ### The page cache (R268) -/

/-- Address of a sequence's record (R265). -/
def State.seqRec (s : State) (id : Nat) : Nat := s.blk 1 0 + id * 128
/-- Address of a sequence's page list (R265). -/
def State.seqList (s : State) (id : Nat) : Nat := s.blk 1 0 + 0xC0000 + id * 4096
/-- Key of a page frame. -/
def frameKey (pool frame : Nat) : Nat := pool * 2 ^ 20 + frame
/-- A page frame. -/
def State.pframe (s : State) (pool frame : Nat) : PFrame := (alook (frameKey pool frame) s.pframes).getD {}
/-- Change a page frame. -/
def State.modPframe (s : State) (pool frame : Nat) (f : PFrame → PFrame) : State :=
  { s with pframes := aset (frameKey pool frame) (f (s.pframe pool frame)) s.pframes }

/-- One decrement: a frame whose count falls to 0 is freed and its generation rises by 1 (R268, R269). -/
def PFrame.dec (f : PFrame) : PFrame :=
  if f.count ≤ 1 then { f with count := 0, generation := (f.generation + 1) % 2 ^ 24, cls := 0 } else { f with count := f.count - 1 }

/-- One decrement of a frame that the entry still holds; a frame dropped since is left alone (R267). -/
def PFrame.decHeld (generation : Nat) (f : PFrame) : PFrame := if f.generation = generation ∧ f.count ≠ 0 then f.dec else f

/-- Clear the touch pins of a context (R267). -/
def State.untouch (s : State) (c : Nat) : State :=
  { s with pframes := s.pframes.map fun x => (x.1, { x.2 with touch := x.2.touch.filter (· != c) }) }

/-- Undo a step's page actions, newest first (R268). -/
def State.voidPages (s : State) (c : Nat) : State :=
  let s := (s.ctx c).pageActs.foldl (fun s a => match a with
    | .inc pool frame g => s.modPframe pool frame (PFrame.decHeld g)
    | .old addr value size => s.engineWrite c addr (leBytes size value)
    | .dec _ _ _ _ => s
    | .unpin _ => s
    | .close _ => s) s
  (s.modCtx c fun x => { x with pageActs := [] }).untouch c

/-- Sequences whose record a step's page actions changed. -/
def State.changedSeqs (s : State) (acts : List PageAct) : List Nat :=
  (acts.filterMap fun a => match a with
    | .old addr _ _ => if s.blk 1 0 ≤ addr ∧ addr < s.blk 1 0 + 6144 * 128 then some ((addr - s.blk 1 0) / 128) else none
    | .unpin q => some q
    | _ => none).eraseDups

/-- Apply what a step's page actions leave to its firing (R268): decrements, unpins, closings; the fired lengths (R265). -/
def State.firePages (s : State) (c : Nat) : State :=
  let acts := (s.ctx c).pageActs
  let s := acts.reverse.foldl (fun s a => match a with
    | .inc _ _ _ => s
    | .old _ _ _ => s
    | .dec pool frame g _ => s.modPframe pool frame (PFrame.decHeld g)
    | .unpin q => s.engineWrite c (s.seqRec q + 1) (leBytes 1 (bits (s.memNat (s.seqRec q + 1) 1) 1 1 * 2))
    | .close q => s.engineWrite c (s.seqRec q) (leBytes 1 0)) s
  let s := (s.changedSeqs acts).foldl (fun s q => s.engineWrite c (s.seqRec q + 48) (Memory.getBytes s.mem (s.seqRec q + 16) 32)) s
  (s.modCtx c fun x => { x with pageActs := [] }).untouch c

/-! ### Batches (R140), watch records (R114) -/

/-- Close every batch of a context: its coalescer entries return to the pool (R140, R142), its order domains close (R150). -/
def State.closeBatches (s : State) (c : Nat) : State :=
  let n := ((s.ctx c).batches.map fun b => b.entries.length).sum
  let s := s.modCtx c fun x => { x with batches := [] }
  let ds := s.setter.domains.filter fun d => !decide (2 ^ 40 + 16 * c ≤ d.id ∧ d.id < 2 ^ 40 + 16 * c + 16)
  { s with entriesFree := s.entriesFree + n, setter := { s.setter with domains := ds } }

/-- Event 0x020B for the watch records that the CONE of the step found quiet (R114). -/
def State.fireWatches (s : State) (c : Nat) : State :=
  ((s.ctx c).quiet.foldl (fun s q => s.raiseCtx c none 0x020B (q.2 + (q.1 <<< 64))) s).modCtx c fun x => { x with watches := [], quiet := [] }

end Sys2Proof.Machine
end

