-- ==== Sys2Proof/Machine/Pools.lean ====
section
/-! DEFINITION. Page pools and their geometry (R263, R264), and the open sequences (R265). -/

namespace Sys2Proof.Machine

/-- Element size of the page's format. -/
def Pool.elem (p : Pool) : Nat := if p.fmt = 3 then 1 else 2

/-- Bytes of the K elements (or of the latent elements) of a layer block (R264). -/
def Pool.elemBytes (p : Pool) : Nat := if p.latent then 64 * p.rank * p.elem else 64 * p.heads * p.dim * p.elem

/-- Bytes of the K scales (or of the latent scales) of a layer block (R264). -/
def Pool.scaleBytes (p : Pool) : Nat :=
  if p.group = 0 then 0 else (if p.latent then 64 * p.rank else 64 * p.heads * p.dim) / p.group

/-- Offsets in a layer block: V elements, K scales, V scales, rope part (R264). -/
def Pool.vAt (p : Pool) : Nat := p.elemBytes
def Pool.kScaleAt (p : Pool) : Nat := if p.latent then p.elemBytes else 2 * p.elemBytes
def Pool.vScaleAt (p : Pool) : Nat := p.kScaleAt + p.scaleBytes
def Pool.ropeAt (p : Pool) : Nat := p.elemBytes + p.scaleBytes

/-- Bytes of the parts of a layer block, before its padding (R264). -/
def Pool.partBytes (p : Pool) : Nat :=
  if p.latent then p.elemBytes + p.scaleBytes + 64 * p.rope * 2 else 2 * (p.elemBytes + p.scaleBytes)

/-- Bytes of a layer block, padded to a multiple of 256 (R264). -/
def Pool.layerBytes (p : Pool) : Nat := (p.partBytes + 255) / 256 * 256

/-- Elements along the axis that the scale groups divide: the head, or the latent rank (R263). -/
def Pool.axis (p : Pool) : Nat := if p.latent then p.rank else p.dim

/-- Bytes of a page (R264). -/
def Pool.pageSize (p : Pool) : Nat := p.layers * p.layerBytes

/-- Whether an enabled pool's fields agree (R263): a format of 1 to 3, scales with F8 only and in whole groups along the axis (R264 gives
the scales d / G bytes a head), and frames that hold a page. -/
def Pool.ok (p : Pool) : Bool :=
  decide (p.frames = 0 ∨ (1 ≤ p.fmt ∧ p.fmt ≤ 3 ∧ (p.group = 0 ∨ (p.fmt = 3 ∧ p.axis % p.group = 0)) ∧ p.pageSize ≤ p.pageBytes))

/-- The open sequences (R265); none without a sequence area. -/
def State.openSeqs (s : State) : List Nat :=
  let area := s.blk 1 0
  s.mem.filterMap fun x =>
    if area ≠ 0 ∧ area ≤ x.1 ∧ x.1 < area + 6144 * 128 ∧ (x.1 - area) % 128 = 0 ∧ x.2 = 1 then some ((x.1 - area) / 128) else none

/-- The pool of a sequence. -/
def State.seqPool (s : State) (id : Nat) : Nat := s.memNat (s.seqRec id + 2) 1
/-- The class of a sequence's record, and its pinned flag (R265). -/
def State.seqClass (s : State) (id : Nat) : Nat := s.memNat (s.seqRec id + 3) 1
def State.seqPinned (s : State) (id : Nat) : Bool := (s.memNat (s.seqRec id + 1) 1).testBit 0
/-- W of a window sequence, else 0 (R265). -/
def State.seqWindow (s : State) (id : Nat) : Nat := if (s.memNat (s.seqRec id + 1) 1).testBit 1 then s.memNat (s.seqRec id + 6) 2 else 0
/-- Tokens written of a layer (R265). -/
def State.seqLength (s : State) (id layer : Nat) : Nat := s.memNat (s.seqRec id + 16 + 4 * layer) 4
/-- Position of token 0 (R265). -/
def State.seqFirst (s : State) (id : Nat) : Nat := s.memNat (s.seqRec id + 8) 4
/-- One more than the highest block of any layer (R274). -/
def State.seqBlocks (s : State) (id : Nat) : Nat := (List.range 8).foldl (fun m l => max m (ceilDiv (s.seqLength id l) 64)) 0

/-- A page entry (R266). -/
structure PageEntry where
  frame : Nat
  valid : Bool
  generation : Nat
  dropped : Bool := false
deriving DecidableEq, Repr

def PageEntry.ofNat (v : Nat) : PageEntry := { frame := bits v 0 20, valid := v.testBit 20, generation := bits v 24 24, dropped := v.testBit 48 }
def PageEntry.toNat (e : PageEntry) : Nat :=
  e.frame % 2 ^ 20 + (if e.valid then 2 ^ 20 else 0) + ((e.generation % 2 ^ 24) <<< 24) + (if e.dropped then 2 ^ 48 else 0)

/-- Entry j of a sequence (R266). -/
def State.pageEntry (s : State) (id j : Nat) : PageEntry := PageEntry.ofNat (s.memNat (s.seqList id + 8 * j) 8)

/-- Whether an entry holds its frame (R267). -/
def State.holdsFrame (s : State) (pool : Nat) (e : PageEntry) : Bool :=
  e.valid && !e.dropped && (s.pframe pool e.frame).generation == e.generation && (s.pframe pool e.frame).count != 0

/-- The entry of block b (R266). -/
def State.entryOf (s : State) (id b : Nat) : Nat := if s.seqWindow id = 0 then b else b % s.seqWindow id

/-- The newest block that entry j holds, below `top` blocks (R266). -/
def blockAt (w j top : Nat) : Nat := if w = 0 then j else if top ≤ j then j else (top - 1 - j) / w * w + j

/-- A free frame of a pool (R267): the lowest number (log entry 27). -/
def State.freeFrame (s : State) (pool : Nat) : Option Nat :=
  (List.range (s.pool pool).frames).find? fun f => (s.pframe pool f).count == 0

/-- Whether every layer of the block of entry j has its 64 tokens. -/
def State.blockFull (s : State) (id j : Nat) : Bool :=
  let b := blockAt (s.seqWindow id) j (s.seqBlocks id)
  (List.range (s.pool (s.seqPool id)).layers).all fun l => decide (s.seqLength id l ≥ 64 * (b + 1))

/-- Whether every layer of the block that a frame holds has its 64 tokens (R275): in a sequence whose entry holds it, or in one that has
given it up in a step that has not fired, so that the frame is LIVE still. -/
def State.frameFull (s : State) (pool f : Nat) : Bool :=
  (s.openSeqs.any fun id => s.seqPool id == pool && (List.range 512).any fun j =>
    let e := s.pageEntry id j
    e.frame == f && s.holdsFrame pool e && s.blockFull id j) ||
  s.ctxs.any fun x => x.2.pageActs.contains (.dec pool f (s.pframe pool f).generation true)

/-- The frames that a drop may take for a sequence of a class (R275). -/
def State.droppable (s : State) (pool cls : Nat) : List Nat :=
  (List.range (s.pool pool).frames).filter fun f =>
    let x := s.pframe pool f
    x.count != 0 && x.touch.isEmpty && decide (x.cls ≤ cls) && s.frameFull pool f

/-- The frame that a drop takes: the lowest class, then the oldest last use (R275). -/
def State.dropVictim (s : State) (pool cls : Nat) : Option Nat :=
  (s.droppable pool cls).foldl (fun best f =>
    match best with
    | none => some f
    | some g =>
      let x := s.pframe pool f
      let y := s.pframe pool g
      if x.cls < y.cls ∨ (x.cls = y.cls ∧ x.lastUse < y.lastUse) then some f else some g) none

/-- Decrements that a context's step has logged on a frame, for entries that still hold it: those of a page dropped since are none
(R267, R268). -/
def loggedDecs (acts : List PageAct) (pool f generation : Nat) : Nat :=
  (acts.filter fun a => match a with
    | .dec p g n _ => p == pool && g == f && n == generation
    | _ => false).length

/-- Whether the firing of another context's step would free a frame of a pool (R277). -/
def State.othersFree (s : State) (c pool : Nat) : Bool :=
  (s.enabledCtxs.filter (· != c)).any fun d => (s.ctx d).pageActs.any fun a => match a with
    | .dec p f n _ =>
      let x := s.pframe pool f
      p == pool && n == x.generation && decide (loggedDecs (s.ctx d).pageActs pool f n ≥ x.count)
    | _ => false

/-- A page-wait of context c is self-blocked (R277). -/
def State.selfBlocked (s : State) (c pool cls : Nat) : Bool :=
  (s.freeFrame pool).isNone && ((s.ctx c).strict || (s.dropVictim pool cls).isNone) && !s.othersFree c pool

/-- Payload of 0x0709 (R502). -/
def blockedPayload (pool id pos : Nat) : Nat := pool + (id <<< 16) + ((pos % 2 ^ 64) <<< 64)

/-- Raise 0x0709 once for each page-wait of a context found self-blocked (R277). -/
def State.recheckCtx (s : State) (c : Nat) : State :=
  ((s.ctx c).window.filter fun w => w.wait == some .page && !w.toldBlocked).foldl (fun s w =>
    let id := w.desc.field 24 2
    let pool := s.seqPool id
    if s.selfBlocked c pool (s.seqClass id) then
      (s.modCtx c fun x => { x with window := x.window.map fun v => if v.pos = w.pos then { v with toldBlocked := true } else v }).raiseCtx c
        (some w.pos) 0x0709 (blockedPayload pool id w.pos)
    else s) s

/-- The check of R277 at a firing or void. -/
def State.recheckWaits (s : State) : State := s.enabledCtxs.foldl State.recheckCtx s

end Sys2Proof.Machine
end

