-- ==== Sys2Proof/Machine/FireOps.lean ====
section
/-! DEFINITION. The firing protocol's operations: the tally record, bending, switching, voiding, stopping and disabling
(R232 to R249, R386, R468). -/

namespace Sys2Proof.Machine

/-! ### Digests and the signature (R250, R386, R387) -/

/-- mix of R250. -/
def mix (z : Nat) : Nat :=
  let m := 2 ^ 64
  let z := ((z ^^^ (z >>> 30)) * 0xBF58476D1CE4E5B9) % m
  let z := ((z ^^^ (z >>> 27)) * 0x94D049BB133111EB) % m
  z ^^^ (z >>> 31)

/-- The 512 words of a parcel. -/
def words64 : List Byte → List Nat
  | a :: b :: c :: d :: e :: f :: g :: h :: rest => ofLeBytes [a, b, c, d, e, f, g, h] :: words64 rest
  | _ => []

/-- parcel_hash of R250. -/
def parcelHash (p : Nat) (w : List Nat) : Nat × Nat :=
  (w.foldl (fun a x => mix (a ^^^ x)) (mix (p % 2 ^ 64)),
   w.reverse.foldl (fun b x => mix ((b + x) % 2 ^ 64)) (mix ((p ^^^ 0xD6E8FEB86659FD93) % 2 ^ 64)))

/-- The fold of R250 over parcels given as number and contents. -/
def checkDigest (ps : List (Nat × List Byte)) : Nat :=
  let (a, b) := ps.foldl (fun (acc : Nat × Nat) p =>
    let h := parcelHash p.1 (words64 p.2)
    ((acc.1 + h.1) % 2 ^ 64, (acc.2 + h.2) % 2 ^ 64)) (0, 0)
  a + b * 2 ^ 64

/-- tree_digest of R387 over the grid references in rank order. -/
def treeDigest (grid : List Nat) : Nat :=
  let n := grid.length
  let (_, a, b) := grid.foldl (fun (acc : List Nat × Nat × Nat) x =>
    let t := x % 2 ^ 14 / 8
    let heads := if acc.1.contains t then acc.1 else acc.1 ++ [t]
    let gi := heads.idxOf t
    (heads, mix (acc.2.1 ^^^ gi), mix ((acc.2.2 + gi) % 2 ^ 64))) ([], mix n, mix (n ^^^ 0xD6E8FEB86659FD93))
  a + b * 2 ^ 64

/-- The grid references of the member list in rank order. -/
def State.grids (s : State) (c : Nat) : List Nat := (List.range (s.members c)).map (s.gridOf c)

/-- The determinism signature of a context's current step (R386), as a number of 32 bytes. -/
def State.signatureNow (s : State) (c : Nat) : Nat :=
  let x := s.ctx c
  let pol := s.pg c 0x300
  1 + (0xB0 <<< 8) + (((if x.strict then 1 else 0) + (if s.heritage c then 2 else 0)) <<< 16) + ((s.kilnSet c).length <<< 24) +
    ((s.members c % 65536) <<< 32) + (bits pol 0 16 <<< 48) + (bits pol 16 32 <<< 64) + (x.treeDigest <<< 128)

/-! ### Fired contents -/

/-- Read 4,096 bytes of a frame through the symbol code; none when a burst is poisoned. -/
def State.readFrame (s : State) (a : Nat) : State × Option (List Byte) :=
  let r := s.readBytes a 4096
  (r.1, r.2.toOption)

/-- The fired contents of a parcel as stored: zeros where it has none, its frame, or its home (R227, R250). -/
def State.firedBytes (s : State) (c p : Nat) : List Byte :=
  match s.firedEntry c p with
  | none => List.replicate 4096 0
  | some e =>
    if e.where_ = 1 then s.frameBytes e.frame
    else if e.where_ = 2 then ((alook (homeKey c p) s.tier.homes).map fun h => imageBytes h.image).getD (List.replicate 4096 0)
    else List.replicate 4096 0

/-! ### Tally records (R244 to R247) -/

/-- The XOR body of R247: the granule mask, then for each changed granule its byte mask and changed bytes. -/
def xorBody (new old : List Byte) : List Byte :=
  let x := List.zipWith (fun a b => a ^^^ b) new old
  let gran (i : Nat) := (x.drop (64 * i)).take 64
  let changed := (List.range 64).filter fun i => (gran i).any (· ≠ 0)
  let mask := changed.foldl (fun m i => m + 2 ^ i) 0
  leBytes 8 mask ++ changed.flatMap fun i =>
    let g := gran i
    let bm := (List.range 64).foldl (fun m j => if g.getD j 0 ≠ 0 then m + 2 ^ j else m) 0
    leBytes 8 bm ++ g.filter (· ≠ 0)

/-- One parcel item (R246, R247): header, body, padding to 8 bytes. -/
def tallyItem (p enc : Nat) (body : List Byte) : List Byte :=
  leBytes 8 (p % 2 ^ 33 + (enc <<< 33) + (body.length <<< 35)) ++ body ++ List.replicate ((8 - body.length % 8) % 8) 0

/-- Whether this member tallies a parcel (R228). -/
def State.tallies (s : State) (c p : Nat) : Bool :=
  if (s.lotEntry c p).testBit 1 then p % s.members c == s.rank c else true

/-- The items of a step's shadows in increasing parcel number (R246); none when a read meets poison. -/
def State.tallyItems (s : State) (c : Nat) : State × Option (List (List Byte)) :=
  (s.ctx c).shadows.foldl (fun (acc : State × Option (List (List Byte))) x =>
    let (p, sh) := x
    match acc.2 with
    | none => acc
    | some items =>
      if !acc.1.tallies c p then acc
      else
        let (s, new) := acc.1.readFrame sh.frame
        match new with
        | none => (s, none)
        | some new =>
          if !sh.filled then (s, some (items ++ [tallyItem p 0 new]))
          else
            let (s, old) := match sh.old with
              | some f => s.readFrame f
              | none => (s, some (List.replicate 4096 0))
            match old with
            | none => (s, none)
            | some old =>
              if new = old then (s, some items)
              else
                let xb := xorBody new old
                (s, some (items ++ [if xb.length < 4096 then tallyItem p 1 xb else tallyItem p 0 new]))) (s, some [])

/-- Replays on the module's ports since power-on. -/
def State.allReplays (s : State) : Nat := (s.ports.map fun p => p.2.replaysEver).sum

/-- Whether a port runs DEGRADED (R245, R305). -/
def State.anyDegraded (s : State) : Bool := s.ports.any fun p => p.2.st == .degraded

/-- A port runs DEGRADED: the present interval of every enabled context shows it (R245, R305). -/
def State.markDegraded (s : State) : State :=
  { s with ctxs := s.ctxs.map fun (c : Nat × Ctx) => (c.1, { c.2 with degraded := c.2.degraded || c.2.enabled }) }

/-- The firing record of R245 for a bend at `d`. -/
def State.firingRecord (s : State) (c d : Nat) : List Byte :=
  let x := s.ctx c
  let th := s.setter.throttles.filter fun t => decide (x.lastBend < t.1 ∧ t.1 ≤ d)
  let deg := x.degraded || s.anyDegraded
  leBytes 4 x.stepMisses.1 ++ leBytes 4 th.length ++ leBytes 8 x.stepMisses.2 ++ leBytes 8 x.lastSwitch ++ leBytes 8 d ++
    leBytes 4 (s.allReplays - x.replaysAt) ++ leBytes 1 ((if deg then 1 else 0) + (if x.late then 2 else 0)) ++
    List.replicate 27 0 ++ th.flatMap fun t => leBytes 8 t.1 ++ leBytes 1 t.2.1 ++ leBytes 1 t.2.2.1 ++ leBytes 1 t.2.2.2 ++
      List.replicate 5 0

/-- The whole tally record of the current step (R244), given its items. -/
def State.tallyRecord (s : State) (c d : Nat) (items : List (List Byte)) : List Byte :=
  let body := s.firingRecord c d ++ items.flatten
  let head (crc : Nat) := leBytes 4 (128 + body.length) ++ leBytes 2 1 ++ leBytes 2 c ++ leBytes 2 (s.job c) ++
    leBytes 2 (s.rank c) ++ leBytes 2 (s.members c) ++ leBytes 2 0 ++ leBytes 8 (s.step c) ++
    leBytes 32 (s.ctx c).signature ++ leBytes 4 items.length ++ leBytes 4 crc ++ List.replicate 64 0
  head (crc32c (head 0 ++ body)) ++ body

/-! ### Stopping and disabling (R239, R468) -/

/-- Cancel an armed launch (R399): `armed` of DET_LAUNCH returns to 0; the RW fields keep what was last written (R7, R398). -/
def State.cancelLaunch (s : State) (c : Nat) : State := s.modCtx c fun x => { x with launch := none }

/-- Adopt the registers that wait for a firing (R427), STRICT (R381) and the policies; recompute the signature (R388). -/
def State.adopt (s : State) (c : Nat) : State :=
  let s := (s.ctx c).pendingRegs.foldl (fun s r => s.setReg r.1 r.2) s
  let s := s.modCtx c fun x => { x with pendingRegs := [], strict := (s.blk 10 0).testBit 0 }
  s.modCtx c fun x => { x with signature := s.signatureNow c }

/-- Enter STOPPED (R239): event 0x0606 with F, the ring HALTED at retire_pos; what waits for a firing is adopted at once (R427). -/
def State.enterStopped (s : State) (c : Nat) : State :=
  let s := (s.modCtx c fun x => { x with step := .stopped, stopAfter := false, fresh := false }).adopt c
  (s.raiseCtx c none 0x0606 ((s.ctx c).fired <<< 64)).ringHalt c 0x0606

/-- Close every sequence of a context and release its frames at once (R270, R468). -/
def State.closeSeqs (s : State) (c : Nat) : State :=
  let ids := s.openSeqs.filter fun id => s.memNat (s.seqRec id + 4) 2 == c
  let s := ids.foldl (fun s id =>
    let pool := s.seqPool id
    let s := (List.range 512).foldl (fun s j =>
      let e := s.pageEntry id j
      if s.holdsFrame pool e then s.modPframe pool e.frame PFrame.dec else s) s
    s.engineWrite c (s.seqRec id) (leBytes 1 0)) s
  (s.modCtx c fun x => { x with pageActs := [] }).untouch c

/-- The frames that a context's plat names. -/
def State.platFrames (s : State) (c : Nat) : List Nat :=
  (s.validLots c).flatMap fun lot => (List.range 512).filterMap fun i =>
    match s.platEntry c (lot * 512 + i) with
    | some e => if e.where_ = 1 then some e.frame else none
    | none => none

/-- Drop every entry of a context from a map keyed as homeKey. -/
def dropCtx {β : Type} (c : Nat) (l : List (Nat × β)) : List (Nat × β) := l.filter fun x => x.1 / 2 ^ 33 != c

/-- Close a queue pair from the module's side: DREQ, then DREP is awaited (R345). -/
def State.closeQp (s : State) (conn : Conn) : State :=
  { (s.emit (.cm 4 conn [])) with host := { s.host with qps := s.host.qps.map fun q =>
      if q.conn = conn then { q with est := false, closing := true } else q } }

/-- Close the queue pairs of a context (R468). -/
def State.closeQps (s : State) (c : Nat) : State :=
  (s.host.qps.filter fun q => !q.closing && q.conn.kind == 2 && q.conn.ctx == c).foldl (fun s q => s.closeQp q.conn) s

/-- Finish the previous commit walk (R236): each shadowed parcel's entry is written, each old frame released to the reserve. -/
def State.walk (s : State) (c : Nat) : State :=
  let fs := (s.ctx c).firedShadows
  let s := fs.foldl (fun s x =>
    let s := s.setPlatEntry c x.1 { where_ := 1, dirty := true, frame := x.2.frame, step := x.2.step % 2 ^ 28 }
    match x.2.old with
    | some f => s.giveReserve f
    | none => s) s
  (s.giveReserves (s.ctx c).firedTable).modCtx c fun x => { x with firedShadows := [], firedTable := [] }

/-- The copies that serve only the step are given back to the free parcel pool (R201). -/
def State.releaseLent (s : State) (c : Nat) : State :=
  ((s.ctx c).lent.foldl (fun s x => s.givePool x.2) s).modCtx c fun x => { x with lent := [] }

/-- Disable a context (R468). -/
def State.disableNow (s : State) (c : Nat) : State :=
  let s := ((s.adopt c).closeQps c).releaseLent c
  let s := ((((s.closeSeqs c).closeBatches c).cancelLaunch c).walk c).releaseMasks c
  let s := s.dropTable c
  let s := (s.platFrames c).foldl (fun s f => s.givePool f) s
  let s := s.dropTallies c fun _ => true
  let s := (s.validLots c).foldl (fun s lot =>
    let d := bits (s.lotEntry c (512 * lot)) 39 1
    let f := s.frames d
    s.setFrames d { f with pool := f.pool + 1 }) s
  let was := s.tier.mapBytes
  let s := s.watchPool.modTier fun t =>
    { t with homes := dropCtx c t.homes, dirtySince := dropCtx c t.dirtySince, lastUse := dropCtx c t.lastUse,
             placed := dropCtx c t.placed, promoq := t.promoq.filter fun k => k / 2 ^ 33 != c,
             journal := t.journal.filter fun i => i.ctx != c }
  let s := s.writeMap was 0
  let old := s.ctx c
  let s := s.setReg (pageAddr c 0) 0
  (s.setCtx c
    { fired := old.fired, epoch := old.epoch, firedEpoch := old.firedEpoch, ring := old.ring, ringBefore := old.ringBefore,
      ringReason := old.ringReason, fetchPos := old.retirePos, retirePos := old.retirePos, cmdProducer := old.cmdProducer,
      eventConsumer := old.eventConsumer, eventPos := old.eventPos, eventAcked := old.eventAcked,
      tallyConsumer := old.tallyConsumer, tallyPos := old.tallyPos, tallyDone := old.tallyDone, treeDigest := old.treeDigest,
      signature := old.signature, strict := old.strict, missCount := old.missCount, missStall := old.missStall,
      rereadCount := old.rereadCount, retryCount := old.retryCount, ignoredCount := old.ignoredCount,
      droppedCount := old.droppedCount, starve := old.starve }).settleKilns c

/-- What follows a switch, a rollback or a resolution: STOPPED and disabled where that was asked (R239, R468). -/
def State.afterStep (s : State) (c : Nat) : State :=
  let s := if (s.ctx c).stopAfter then s.enterStopped c else s
  if (s.ctx c).disableAfter then s.disableNow c else s

/-- The checked lots of a context: replicated, with the check bit (R226). -/
def State.checkedParcels (s : State) (c : Nat) : List Nat :=
  ((s.validLots c).filter fun l => (s.lotEntry c (512 * l)).testBit 1 && (s.lotEntry c (512 * l)).testBit 2).flatMap fun l =>
    (List.range 512).map fun i => 512 * l + i

/-- The automatic digest of the state as fired (R252). -/
def State.checkLine (s : State) (c : Nat) : Nat := checkDigest ((s.checkedParcels c).map fun p => (p, s.firedBytes c p))

/-! ### Voiding (R241) -/

/-- Payload of 0x0306 (R502). -/
def adderPayload (n first : Nat) : Nat := min n (2 ^ 32 - 1) + (first <<< 64)

/-- Event 0x0306 of an operation that ends, with all its adder exceptions (R190, R192). -/
def State.tellExceptions (s : State) (c : Nat) (w : WinOp) : State :=
  if w.adderExc = 0 then s else s.raiseOnce c w.pos 0x0306 (adderPayload w.adderExc w.adderFirst)

/-- Enter VOIDING for the first cause of the step: its operations and collectives stop, with the adder updates they still wait for, and tell
the adder exceptions they have met (R190); every fetched operation is discarded. -/
def State.beginVoid (s : State) (c orig code : Nat) : State :=
  let s := (s.ctx c).window.foldl (fun s w => s.tellExceptions c w) s
  let keep (d : Domain) : Domain := { d with held := d.held.filter fun u => u.ctx != c }
  let s := { s with setter := { s.setter with domains := s.setter.domains.map keep } }
  (s.modCtx c fun x =>
    { x with step := .voiding, cause := some (x.cause.getD (orig, code)), window := [], colls := [], missing := [], missedAt := [],
             stalledReads := [] }).settleKilns c

/-- What a void of step n leaves of the announcements (R205): those that the step made are discarded with their promotions that have not
landed; those for it no longer hold their parcels. -/
def State.dropAnnounced (s : State) (c n : Nat) : State :=
  let x := s.ctx c
  let gone := (x.announces.filter fun a => a.by_ == n).flatMap (·.parcels)
  let kept := (x.announces.filter fun a => a.by_ != n).flatMap (·.parcels)
  let s := s.modCtx c fun x => { x with announces := x.announces.filter fun a => a.by_ != n && a.target != n }
  s.modTier fun t => { t with promoq := t.promoq.filter fun k =>
    k / 2 ^ 33 != c || !gone.contains (k % 2 ^ 33) || kept.contains (k % 2 ^ 33) || x.missing.contains (k % 2 ^ 33) }

/-- Roll back (R241): every effect of step n but scratch and host writes is undone, event 0x0602 is raised, a waiting CONE completes
as voided, and the ring halts at the step's first descriptor. -/
def State.finishVoid (s : State) (c : Nat) : State :=
  let n := s.step c
  let x := s.ctx c
  let (orig, code) := x.cause.getD (s.rank c, 0)
  let s := s.dropTable c
  let s := ((((s.releaseLent c).releaseMigrations c).closeBatches c).voidPages c).journal c 3 n []
  let s := s.dropTallies c fun t => t.step == n && !t.fired
  let s := s.dropAnnounced c n
  let s := s.modCtx c fun x =>
    { x with carried := [], watches := [], quiet := [], memTold := [], queues := [], collSeq := [], lag := none,
             earlyReady := x.earlyReady.filter fun e => e.step != n % 16 || e.attempt == (x.attempt + 1) % 16,
             selfBent := false, bentSent := false, bentFrom := x.bentFrom.filter fun b => b.2 != n,
             fireD := none, cause := none, voidSent := false, epoch := x.firedEpoch, attempt := x.attempt + 1, heldTold := false,
             backTold := false, step := .running }
  let s := s.raiseCtx c none 0x0602 (orig % 65536 + ((code % 65536) <<< 16) + (n <<< 64))
  let s := match x.coneAt with
    | some (pos, _, tag) => s.completeCone c pos tag 4 n (orig % 65536 + ((code % 65536) <<< 16))
    | none => s
  let s := s.modCtx c fun x => { x with coneAt := none }
  ((s.ringHalt c code).recheckWaits).afterStep c

/-- An abort cause of R240 on this member: in RUNNING only, VOIDING and ABORT toward the leader; the leader sends VOID. -/
def State.abortStep (s : State) (c orig code : Nat) : State :=
  if (s.ctx c).step ≠ .running ∨ ¬ (s.ctx c).enabled ∨ (s.ctx c).loading then s
  else
    let n := s.step c
    let s := s.beginVoid c orig code
    if s.rank c = 0 then (s.ctlDown c .void n 0 orig code).modCtx c fun x => { x with voidSent := true }
    else s.sendCtl c (treeParent (s.rank c)) .abort n 0 orig code 0 0 0

/-! ### The switch (R236) -/

/-- Switch at datum count D (R236): step n has fired, and every effect tied to the firing takes place. -/
def State.switchAt (s : State) (c d : Nat) : State :=
  let n := s.step c
  let s := s.walk c
  let s := s.fireWatches c
  let s := ((((s.ctx c).migrations.foldl (fun s m => s.fireMigration c n m) s).settleJournal).releaseMasks c).releaseLent c
  let x := s.ctx c
  let s := s.modTier fun t =>
    { t with dirtySince := x.shadows.foldl (fun l e =>
        if (alook (homeKey c e.1) l).isSome then l else aset (homeKey c e.1) n l) t.dirtySince }
  let s := s.modCtx c fun x =>
    { x with fired := n, step := .running, migrations := [], carried := [], memTold := x.memTold.filter fun t =>
               x.window.any fun w => w.step != n && w.pos == t.1,
             firedShadows := x.shadows.map fun e => (e.1, { frame := e.2.frame, old := e.2.old, step := n }),
             firedTable := x.tableFrames, shadows := [], tableFrames := [], queues := [], collSeq := [],
             earlyReady := x.earlyReady.filter fun e => e.step != n % 16, attempt := 0,
             firedEpoch := x.epoch, announces := x.announces.filter fun a => a.target != n,
             tallies := x.tallies.map fun t => if t.step = n then { t with fired := true } else t,
             selfBent := false, bentSent := false, bentFrom := x.bentFrom.filter fun b => b.2 != n, fireD := none, cause := none,
             lastSwitch := d, lastBend := x.bendDatum, replaysAt := s.allReplays, degraded := s.anyDegraded, late := false,
             heldTold := false, backTold := false,
             window := x.window.filter fun w => w.step != n, fresh := false,
             conesFetched := x.conesFetched - 1, statusDirty := true }
  let s := ((s.firePages c).closeBatches c).recheckWaits
  let s := s.journal c 2 n []
  let misses := (s.ctx c).stepMisses
  let s := if misses.1 > 0 then s.raiseCtx c none 0x0401 (misses.1 + (misses.2 <<< 64) + (n <<< 128)) else s
  let s := match (s.ctx c).lag with
    | some (r, l) =>
      if l > (s.blk 4 0x40 * 1000 : Nat) then
        s.raiseCtx c none 0x0544 (r % 65536 + ((l % 2 ^ 64).toNat <<< 64) + (n <<< 128))
      else s
    | none => s
  let s := s.modCtx c fun x => { x with stepMisses := (0, 0), lag := none }
  let s := match x.coneAt with
    | some (pos, _, tag) =>
      (s.completeCone c pos tag 3 n (d % 2 ^ 64)).modCtx c fun x => { x with coneAt := none, retirePos := pos + 1 }
    | none => s
  let iv := s.blk 0 0x30
  let s := if iv ≠ 0 ∧ n % iv = 0 then s.modCtx c fun x => { x with checkDue := x.checkDue ++ [(n, s.checkLine c)] } else s
  (({ s with refilling := true }.weighJournal).adopt c).afterStep c

/-- FIRE held in a state that lets the member switch: at D, or at once when D has passed, then late (R237). -/
def State.fireLate (s : State) (c d : Nat) : State :=
  let n := s.step c
  let s := s.switchAt c d
  (s.raiseCtx c none 0x0604 ((n <<< 64) + (s.datum <<< 128))).modCtx c fun x => { x with late := true }

/-! ### Bending (R233, R234) -/

/-- Whether BENT has come from every child for the current step. -/
def State.childrenBent (s : State) (c : Nat) : Bool :=
  (treeChildren (s.rank c) (s.members c)).all fun r => (s.ctx c).bentFrom.contains (r, s.step c)

/-- Send BENT toward the leader, or, on the leader that holds BENT from all members, choose D and send FIRE (R234, R235). A member in doubt
still passes BENT on; a leader in doubt fires and, as its own FIRE resolves it, switches at once and stops (R239). -/
def State.passBent (s : State) (c : Nat) : State :=
  let x := s.ctx c
  if !x.selfBent || x.bentSent || !s.childrenBent c || (x.step != .bent && x.step != .inDoubt) then s
  else if s.rank c = 0 then
    let d := (s.datum + s.blk 0 0x20 * 1000) % 2 ^ 64
    let s := (s.ctlDown c .fire (s.step c) d 0 0).modCtx c fun x => { x with bentSent := true }
    if x.step = .inDoubt then (s.modCtx c fun x => { x with stopAfter := true }).switchAt c d
    else s.modCtx c fun x => { x with fireD := some d, step := .armed }
  else
    (s.sendCtl c (treeParent (s.rank c)) .bent (s.step c) 0 0 0 0 0 0).modCtx c fun x => { x with bentSent := true }

/-! ### Losing a member (R234, R239) -/

/-- Apply the "member lost" column of R239. -/
def State.loseMember (s : State) (c r : Nat) : State :=
  match (s.ctx c).step with
  | .running => (s.beginVoid c r 0x0605).modCtx c fun x => { x with stopAfter := true }
  | .bent =>
    (s.modCtx c fun x => { x with step := .inDoubt }).raiseCtx c none 0x0603 (s.step c <<< 64)
  | .armed => s.modCtx c fun x => { x with stopAfter := true }
  | .voiding => s.modCtx c fun x => { x with stopAfter := true }
  | .inDoubt => s
  | .stopped => s

/-- Spread a loss on every tree link but one (R234). -/
def State.spreadLoss (s : State) (c r : Nat) (except : Option Nat) : State :=
  ((s.treeLinks c).filter fun k => some k != except && k != r).foldl
    (fun s k => s.sendCtl c k .lost (s.step c) 0 r 0 0 0 0) s

/-- A port that carried a route goes DOWN or back to TRAVERSE (R306): jobs over it stop. -/
def State.routeLost (s : State) (p : Nat) : State :=
  (s.enabledCtxs.filter fun c => s.carriesRoute c p).foldl (fun s c =>
    match (s.ctx c).step with
    | .running => if (s.ctx c).loading then s else
        (s.abortStep c (s.rank c) 0x0502).modCtx c fun x => { x with stopAfter := true }
    | .stopped => s
    | _ => s.modCtx c fun x => { x with stopAfter := true }) s

end Sys2Proof.Machine
end

