-- ==== Sys2Proof/Machine/Num.lean ====
section
/-! DEFINITION. Exact values and the one rounding of each result: IEEE 754-2019 F32 and F16 arithmetic (R23, R24), the vendor
rounding (R40 to R42), and the accumulators A20 and A24 (R39, R128). -/

namespace Sys2Proof.Flt

/-- A decoded value: a NaN (signalling or quiet), an infinity, or exactly (-1)^neg * m * 2^e; m = 0 is a signed zero. -/
inductive Val where
  | nan (signalling : Bool)
  | inf (neg : Bool)
  | fin (neg : Bool) (m : Nat) (e : Int)
deriving DecidableEq, Repr

/-- The five IEEE exception flags (R23). -/
structure Flags where
  nv : Bool := false
  dz : Bool := false
  ovf : Bool := false
  unf : Bool := false
  nx : Bool := false
deriving DecidableEq, Repr

/-- The OR of two sets of flags (R48). -/
def Flags.or (a b : Flags) : Flags :=
  ⟨a.nv || b.nv, a.dz || b.dz, a.ovf || b.ovf, a.unf || b.unf, a.nx || b.nx⟩

/-- Five flags as bits 0 to 4, in the order of the structure, and back. -/
def Flags.toNat (f : Flags) : Nat :=
  (if f.nv then 1 else 0) + (if f.dz then 2 else 0) + (if f.ovf then 4 else 0) + (if f.unf then 8 else 0) + (if f.nx then 16 else 0)
def Flags.ofNat (n : Nat) : Flags := ⟨n.testBit 0, n.testBit 1, n.testBit 2, n.testBit 3, n.testBit 4⟩

/-- Rounding directions: the four of R94's rnd field and nearest with ties away (R40). -/
inductive Rm where
  | even | up | down | zero | away
deriving DecidableEq, Repr

/-- Whether the magnitude `q` with remainder `r` out of `2^sh` goes up by one unit. -/
def roundsUp (rm : Rm) (neg : Bool) (q r sh : Nat) : Bool :=
  match rm with
  | .even => decide (2 * r > 2 ^ sh) || (decide (2 * r = 2 ^ sh) && q % 2 == 1)
  | .away => decide (2 * r ≥ 2 ^ sh)
  | .up => !neg && decide (r ≠ 0)
  | .down => neg && decide (r ≠ 0)
  | .zero => false

/-- `m * 2^e` in units of `2^g`, rounded; true when a remainder was lost. -/
def roundUnits (rm : Rm) (neg : Bool) (m : Nat) (e g : Int) : Nat × Bool :=
  let sh := g - e
  if sh ≤ 0 then (m <<< (-sh).toNat, false)
  else
    let n := sh.toNat
    let q := m >>> n
    let r := m % 2 ^ n
    (if roundsUp rm neg q r n then q + 1 else q, r ≠ 0)

/-- The floor of the binary logarithm of `m * 2^e`, for m not zero. -/
def ilog (m : Nat) (e : Int) : Int := (Nat.log2 m : Int) + e

/-- `m * 2^e` rounded to `fb` fraction bits with least exponent `emin`: the units, their exponent, and whether a remainder was
lost. The units are below `2^(fb+1)`. -/
def roundPrec (fb : Nat) (emin : Int) (rm : Rm) (neg : Bool) (m : Nat) (e : Int) : Nat × Int × Bool :=
  let g := max (ilog m e) emin - fb
  let (k, lost) := roundUnits rm neg m e g
  if k = 2 ^ (fb + 1) then (2 ^ fb, g + 1, lost) else (k, g, lost)

/-- A binary format with sign, `eb` exponent bits, `fb` fraction bits and a bias (R22). -/
structure Fmt where
  eb : Nat
  fb : Nat
  bias : Nat
deriving DecidableEq, Repr

def fmtF32 : Fmt := ⟨8, 23, 127⟩
def fmtF16 : Fmt := ⟨5, 10, 15⟩
def fmtB16 : Fmt := ⟨8, 7, 127⟩

/-- Least exponent of a normal value. -/
def Fmt.emin (f : Fmt) : Int := 1 - (f.bias : Int)

/-- Total width in bits. -/
def Fmt.width (f : Fmt) : Nat := 1 + f.eb + f.fb

/-- The value that IEEE-like bits stand for (R23 to R25): exponent all ones is an infinity or a NaN, quiet when the most
significant fraction bit is set. -/
def decode (f : Fmt) (x : Nat) : Val :=
  let neg := x.testBit (f.eb + f.fb)
  let ex := (x >>> f.fb) % 2 ^ f.eb
  let fr := x % 2 ^ f.fb
  if ex = 2 ^ f.eb - 1 then
    if fr = 0 then .inf neg else .nan (!fr.testBit (f.fb - 1))
  else if ex = 0 then .fin neg fr (f.emin - f.fb)
  else .fin neg (fr + 2 ^ f.fb) ((ex : Int) - f.bias - f.fb)

/-- The magnitude bits of `k` units of `2^g` (k below `2^(fb+1)`; below `2^fb` only at the least exponent). -/
def encodeMag (f : Fmt) (k : Nat) (g : Int) : Nat :=
  if k < 2 ^ f.fb then k
  else ((g + f.fb + f.bias).toNat <<< f.fb) + (k - 2 ^ f.fb)

/-- The sign bit of a format in place. -/
def signBit (f : Fmt) (neg : Bool) : Nat := if neg then 2 ^ (f.eb + f.fb) else 0

/-- Bits of an infinity. -/
def infBits (f : Fmt) (neg : Bool) : Nat := signBit f neg + ((2 ^ f.eb - 1) <<< f.fb)

/-- The canonical quiet NaN of a format (R24): F32 0x7FC00000, F16 0x7E00, B16 0x7FC0. -/
def nanBits (f : Fmt) : Nat := ((2 ^ f.eb - 1) <<< f.fb) + 2 ^ (f.fb - 1)

/-- Whether an overflow delivers an infinity in a direction. -/
def overflowsToInf (rm : Rm) (neg : Bool) : Bool :=
  match rm with
  | .even => true
  | .away => true
  | .up => !neg
  | .down => neg
  | .zero => false

/-- Whether `m * 2^e` is tiny: rounded with an unbounded exponent it is below the least normal (R23: after rounding). -/
def isTiny (f : Fmt) (rm : Rm) (neg : Bool) (m : Nat) (e : Int) : Bool :=
  let g := ilog m e - f.fb
  let (k, _) := roundUnits rm neg m e g
  decide (ilog k g < f.emin)

/-- One IEEE rounding of a finite exact value into a format (R23). -/
def roundFin (f : Fmt) (rm : Rm) (neg : Bool) (m : Nat) (e : Int) : Nat × Flags :=
  if m = 0 then (signBit f neg, {})
  else
    let (k, g, lost) := roundPrec f.fb f.emin rm neg m e
    let mag := encodeMag f k g
    if mag ≥ (2 ^ f.eb - 1) <<< f.fb then
      (signBit f neg + (if overflowsToInf rm neg then (2 ^ f.eb - 1) <<< f.fb else ((2 ^ f.eb - 1) <<< f.fb) - 1),
        { ovf := true, nx := true })
    else (signBit f neg + mag, { nx := lost, unf := lost && isTiny f rm neg m e })

/-- A conversion of any value into an IEEE format (R23, R24). -/
def toIeee (f : Fmt) (rm : Rm) : Val → Nat × Flags
  | .nan sig => (nanBits f, { nv := sig })
  | .inf neg => (infBits f neg, {})
  | .fin neg m e => roundFin f rm neg m e

/-- The sum of two exact values; `rm` decides the sign of an exact zero sum of opposite signs. -/
def addVal (rm : Rm) : Val → Val → Val × Flags
  | .nan a, .nan b => (.nan false, { nv := a || b })
  | .nan a, _ => (.nan false, { nv := a })
  | _, .nan b => (.nan false, { nv := b })
  | .inf a, .inf b => if a = b then (.inf a, {}) else (.nan false, { nv := true })
  | .inf a, _ => (.inf a, {})
  | _, .inf b => (.inf b, {})
  | .fin na ma ea, .fin nb mb eb =>
    let e := min ea eb
    let x : Int := (ma <<< (ea - e).toNat : Nat)
    let y : Int := (mb <<< (eb - e).toNat : Nat)
    let s := (if na then -x else x) + (if nb then -y else y)
    if s = 0 then
      if ma = 0 ∧ mb = 0 ∧ na = nb then (.fin na 0 e, {})
      else (.fin (rm == .down) 0 e, {})
    else (.fin (decide (s < 0)) s.natAbs e, {})

/-- The exact product of two values. -/
def mulVal : Val → Val → Val × Flags
  | .nan a, .nan b => (.nan false, { nv := a || b })
  | .nan a, _ => (.nan false, { nv := a })
  | _, .nan b => (.nan false, { nv := b })
  | .inf a, .inf b => (.inf (a != b), {})
  | .inf a, .fin b m _ => if m = 0 then (.nan false, { nv := true }) else (.inf (a != b), {})
  | .fin a m _, .inf b => if m = 0 then (.nan false, { nv := true }) else (.inf (a != b), {})
  | .fin a ma ea, .fin b mb eb => (.fin (a != b) (ma * mb) (ea + eb), {})

/-- A value with its sign turned. A NaN stays as it is. -/
def negVal : Val → Val
  | .nan s => .nan s
  | .inf n => .inf (!n)
  | .fin n m e => .fin (!n) m e

/-- The quotient of two values, with a sticky bit below the precision of every format. -/
def divVal : Val → Val → Val × Flags
  | .nan a, .nan b => (.nan false, { nv := a || b })
  | .nan a, _ => (.nan false, { nv := a })
  | _, .nan b => (.nan false, { nv := b })
  | .inf _, .inf _ => (.nan false, { nv := true })
  | .inf a, .fin b _ _ => (.inf (a != b), {})
  | .fin a _ e, .inf b => (.fin (a != b) 0 e, {})
  | .fin a ma ea, .fin b mb eb =>
    if mb = 0 then
      if ma = 0 then (.nan false, { nv := true }) else (.inf (a != b), { dz := true })
    else
      let k := 64 + Nat.log2 mb
      let q := (ma <<< k) / mb
      let r := (ma <<< k) % mb
      (.fin (a != b) (2 * q + (if r = 0 then 0 else 1)) (ea - eb - k - 1), {})

/-- Integer square root by bits, from bit `n` down. -/
def isqrtAux (x : Nat) : Nat → Nat → Nat
  | 0, r => r
  | n + 1, r =>
    let r' := r + 2 ^ n
    isqrtAux x n (if r' * r' ≤ x then r' else r)

/-- Integer square root. -/
def isqrt (x : Nat) : Nat := isqrtAux x (Nat.log2 x / 2 + 1) 0

/-- The square root of a value, with a sticky bit. -/
def sqrtVal : Val → Val × Flags
  | .nan a => (.nan false, { nv := a })
  | .inf neg => if neg then (.nan false, { nv := true }) else (.inf false, {})
  | .fin neg m e =>
    if m = 0 then (.fin neg 0 e, {})
    else if neg then (.nan false, { nv := true })
    else
      let m1 := if e % 2 = 0 then m else 2 * m
      let e1 := if e % 2 = 0 then e else e - 1
      let x := m1 <<< 128
      let s := isqrt x
      (.fin false (2 * s + (if s * s = x then 0 else 1)) (e1 / 2 - 64 - 1), {})

/-- Round an exact or sticky result and join the flags. -/
def finish (f : Fmt) (rm : Rm) (p : Val × Flags) : Nat × Flags :=
  let (x, fl) := toIeee f rm p.1
  (x, p.2.or fl)

def add (f : Fmt) (rm : Rm) (a b : Nat) : Nat × Flags := finish f rm (addVal rm (decode f a) (decode f b))
def sub (f : Fmt) (rm : Rm) (a b : Nat) : Nat × Flags := finish f rm (addVal rm (decode f a) (negVal (decode f b)))
def mul (f : Fmt) (rm : Rm) (a b : Nat) : Nat × Flags := finish f rm (mulVal (decode f a) (decode f b))
def div (f : Fmt) (rm : Rm) (a b : Nat) : Nat × Flags := finish f rm (divVal (decode f a) (decode f b))
def sqrt (f : Fmt) (rm : Rm) (a : Nat) : Nat × Flags := finish f rm (sqrtVal (decode f a))

/-- Fused a * b + c with one rounding. -/
def fmaVal (rm : Rm) (a b c : Val) : Val × Flags :=
  let (p, f1) := mulVal a b
  match p, c with
  | .nan _, .nan sig =>
    match a, b with
    | .nan _, _ => (.nan false, f1.or { nv := sig })
    | _, .nan _ => (.nan false, f1.or { nv := sig })
    | _, _ => (.nan false, { nv := sig || Config.fmaZeroInfNan })
  | _, _ =>
    let (s, f2) := addVal rm p c
    (s, f1.or f2)

def fma (f : Fmt) (rm : Rm) (a b c : Nat) : Nat × Flags :=
  finish f rm (fmaVal rm (decode f a) (decode f b) (decode f c))

/-- Whether the finite or infinite value `a` is below `b`; false when either is a NaN. Zeros of either sign are equal. -/
def ltVal : Val → Val → Bool
  | .nan _, _ => false
  | _, .nan _ => false
  | .inf a, .inf b => a && !b
  | .inf a, .fin _ _ _ => a
  | .fin _ _ _, .inf b => !b
  | .fin na ma ea, .fin nb mb eb =>
    let e := min ea eb
    let x : Int := (ma <<< (ea - e).toNat : Nat)
    let y : Int := (mb <<< (eb - e).toNat : Nat)
    decide ((if na then -x else x) < (if nb then -y else y))

/-- Whether two values are equal as numbers. -/
def eqVal (a b : Val) : Bool :=
  match a, b with
  | .nan _, _ => false
  | _, .nan _ => false
  | _, _ => !ltVal a b && !ltVal b a

def Val.isNan : Val → Bool
  | .nan _ => true
  | _ => false

def Val.isSnan : Val → Bool
  | .nan s => s
  | _ => false

def Val.isFin : Val → Bool
  | .fin _ _ _ => true
  | _ => false

def Val.neg : Val → Bool
  | .nan _ => false
  | .inf n => n
  | .fin n _ _ => n

def Val.isZero : Val → Bool
  | .fin _ m _ => m == 0
  | _ => false

/-- IEEE 754-2019 minimum and maximum: a NaN propagates, and -0 is below +0 (R94). -/
def minmax (f : Fmt) (wantMax : Bool) (a b : Nat) : Nat × Flags :=
  let x := decode f a
  let y := decode f b
  if x.isNan || y.isNan then (nanBits f, { nv := x.isSnan || y.isSnan })
  else if eqVal x y then
    (if wantMax then (if x.neg then b else a) else (if x.neg then a else b), {})
  else if ltVal x y then (if wantMax then b else a, {})
  else (if wantMax then a else b, {})

/-- Round to an integral value in a direction; inexact when it changes (R94 VROUND). -/
def roundIntegral (f : Fmt) (rm : Rm) (a : Nat) : Nat × Flags :=
  match decode f a with
  | .nan s => (nanBits f, { nv := s })
  | .inf n => (infBits f n, {})
  | .fin neg m e =>
    let (k, lost) := roundUnits rm neg m e 0
    if e ≥ 0 then (a, {}) else ((roundFin f .even neg k 0).1, { nx := lost })

/-- The vendor formats that conversions write under R40: fraction bits, bias, largest code, sign place, and how a NaN and an
infinity are written (R26 to R28, R41). -/
structure VFmt where
  fb : Nat
  bias : Nat
  maxCode : Nat
  signAt : Nat
  keepsNegZero : Bool
deriving DecidableEq, Repr

def vB16 : VFmt := ⟨7, 127, 0x7F7F, 15, true⟩
def vF8 : VFmt := ⟨3, 7, 0x7F, 7, false⟩
def vG8 : VFmt := ⟨2, 15, 0x7F, 7, false⟩
def vE3M2 : VFmt := ⟨2, 3, 0x1F, 5, true⟩
def vE2M3 : VFmt := ⟨3, 1, 0x1F, 5, true⟩
def vF4 : VFmt := ⟨1, 1, 0x7, 3, true⟩

/-- Least exponent of a normal value (R28 e_min). -/
def VFmt.emin (v : VFmt) : Int := 1 - (v.bias : Int)

/-- The one rounding of R40 of a finite value: the code, and whether it saturated. -/
def vendorFin (v : VFmt) (neg : Bool) (m : Nat) (e : Int) : Nat × Bool :=
  let sg := if neg then 2 ^ v.signAt else 0
  if m = 0 then (if v.keepsNegZero then sg else 0, false)
  else
    let (k, g, _) := roundPrec v.fb v.emin .away neg m e
    let mag := if k < 2 ^ v.fb then k else ((g + v.fb + v.bias).toNat <<< v.fb) + (k - 2 ^ v.fb)
    if mag > v.maxCode then (sg + v.maxCode, true)
    else if mag = 0 then (if v.keepsNegZero then sg else 0, false)
    else (sg + mag, false)

/-- The value of a vendor code other than B16: no infinity; 0x80 is the quiet NaN of F8 and G8 (R26, R27). -/
def vendorDecode (v : VFmt) (x : Nat) : Val :=
  let neg := x.testBit v.signAt
  let mag := x % 2 ^ v.signAt
  let ex := mag >>> v.fb
  let fr := mag % 2 ^ v.fb
  if neg ∧ mag = 0 ∧ ¬ v.keepsNegZero then .nan false
  else if ex = 0 then .fin neg fr (v.emin - v.fb)
  else .fin neg (fr + 2 ^ v.fb) ((ex : Int) - v.bias - v.fb)

/-- The exact value times a power of two (R30: an SC8 scale multiplies exactly). -/
def scaleVal (k : Int) : Val → Val
  | .fin n m e => .fin n m (e + k)
  | v => v

/-- One rounding into an accumulator of `fb` fraction bits and 8 exponent bits that overflows to an infinity and keeps
subnormals (A20 of R39 with ties away, A24 of R128 with ties to even). A sum that rounds to zero keeps the sign of the exact sum (R39 and
R55 give none: DESIGN CHOICE, log entry 82). -/
def roundAcc (fb : Nat) (rm : Rm) : Val → Val
  | .fin neg m e =>
    if m = 0 then .fin neg 0 0
    else
      let (k, g, _) := roundPrec fb (-126) rm neg m e
      if k = 0 then .fin neg 0 0
      else if ilog k g > 127 then .inf neg else .fin neg k g
  | v => v

def roundA20 (v : Val) : Val := roundAcc 11 .away v
def roundA24 (v : Val) : Val := roundAcc 15 .even v

/-- F32 sum under roundTiesToEven. -/
def f32Add (a b : Nat) : Nat × Flags := add fmtF32 .even a b

/-- One level of the pairwise tree of R68. -/
def treeLevel : List Nat → Flags → List Nat × Flags
  | x :: y :: rest, fl =>
    let (s, f1) := f32Add x y
    let (ys, f2) := treeLevel rest (fl.or f1)
    (s :: ys, f2)
  | [x], fl => ([x], fl)
  | [], fl => ([], fl)

/-- The pairwise tree of R68 over F32 values, with at most `n` levels. -/
def treeSumAux : Nat → List Nat → Flags → Nat × Flags
  | _, [], fl => (0, fl)
  | _, [x], fl => (x, fl)
  | 0, x :: _, fl => (x, fl)
  | n + 1, xs, fl =>
    let (ys, f1) := treeLevel xs fl
    treeSumAux n ys f1

/-- partial_sum of R68. -/
def treeSum (xs : List Nat) : Nat × Flags := treeSumAux xs.length xs {}

end Sys2Proof.Flt
end

