-- ==== Sys2Proof/Machine/Operands.lean ====
section
/-! DEFINITION. Operand forms and accesses of operations: descriptor addresses (R223 to R231, R77, R350, R351), what stops an
operation (R87, R240), and what it reports (R48, R365). -/

namespace Sys2Proof.Machine

/-- Why an operation does not run to its end. -/
inductive Stop where
  /-- refused before it runs: event and payload (R87). -/
  | refuse (code payload : Nat)
  /-- stopped under way: event and payload (R87). -/
  | stop (code payload : Nat)
  /-- a cause of R240: event and payload; the step is voided. -/
  | abort (code payload : Nat)
  /-- waits (R86); its effects so far are undone and it runs again. -/
  | wait (w : Wait)
  /-- waits for an RDMA READ of that many bytes at a host address (R371); its effects so far are undone and it runs again. -/
  | read (addr len : Nat)
  /-- waits for the promotion of a parcel that resides only on flash (R206). -/
  | miss (parcel : Nat)
  /-- waits, and what it has done so far stays (R276). -/
  | hold (w : Wait)
deriving DecidableEq, Repr

/-- What an operation carries while it runs. -/
structure Run where
  s : State
  c : Nat
  pos : Nat
  d : Desc
  /-- host bytes delivered so far. -/
  hin : List Host.Cell := []
  /-- order of slice availability. -/
  order : List Nat := []
  /-- module number of the kiln that performs the present share. -/
  kiln : Nat := 0
  /-- IEEE flags (R48). -/
  flags : Flt.Flags := {}
  /-- saturated and invalid-input groups (R48). -/
  sat : Nat := 0
  inv : Nat := 0
  /-- the operation's own counts (R365). -/
  own : List Nat := []
  /-- numerics events to raise at its end: code and payload. -/
  events : List (Nat × Nat) := []
  /-- ranges of state that the operation writes whole, from its descriptor (R229). -/
  whole : List (Nat × Nat) := []
  /-- ranges of state read so far (R229). -/
  reads : List (Nat × Nat) := []
  /-- outbound writes made. -/
  writes : Nat := 0
  /-- slots that earlier runs of a page-waiting operation wrote (R276). -/
  progress : Nat := 0
  /-- the address fields checked so far: address and byte offset of the field (R77, R502). -/
  addrs : List (Nat × Nat) := []
deriving DecidableEq, Repr

/-- An operation's body: it may stop, and what it did to the state before stays with the stop. -/
abbrev Op (α : Type) := ExceptT Stop (StateM Run) α

/-- The state so far. -/
def getS : Op State := do return (← get).s
/-- Put the state. -/
def putS (s : State) : Op Unit := modify fun r => { r with s := s }
/-- Change the state. -/
def onS (f : State → State) : Op Unit := modify fun r => { r with s := f r.s }
/-- A field of the descriptor. -/
def fld (o n : Nat) : Op Nat := do return (← get).d.field o n
/-- The position of the operation. -/
def opPos : Op Nat := do return (← get).pos
/-- The context of the operation. -/
def opCtx : Op Nat := do return (← get).c

/-- Payload of 0x06C0 (R502): byte offset and first bit of the field, position. -/
def refusal (off bit pos : Nat) : Nat := off + (bit <<< 16) + ((pos % 2 ^ 64) <<< 64)

/-- Refuse with event 0x06C0 when a requirement on the field at byte `off`, bit `bit` fails (R503). -/
def need (ok : Bool) (off : Nat) (bit : Nat := 0) : Op Unit := do
  if ok then return () else throw (.refuse 0x06C0 (refusal off bit (← opPos)))

/-- Refuse with another event that gives the position in payload bytes 8 to 15. -/
def needEv (ok : Bool) (code : Nat) : Op Unit := do
  if ok then return () else throw (.refuse code (((← opPos) % 2 ^ 64) <<< 64))

/-- Require the `n` bytes of the body from `off` to be zero (R8, R503). -/
def needZero (off n : Nat) : Op Unit := do need ((← fld off n) = 0) off

/-- Join IEEE flags (R48). -/
def addFlags (f : Flt.Flags) : Op Unit := modify fun r => { r with flags := r.flags.or f }

/-- The forms of a descriptor address (R223). -/
inductive Form where
  | state (a : Nat)
  | scratch (m : Nat)
  | resident (off : Nat)
  | host (window off : Nat)
  | bad
deriving DecidableEq, Repr

/-- R223, R77 and R350: the form of an address. A resident address names its offset in bits [22:0] alone (R77). -/
def formOf (a : Nat) : Form :=
  let top := bits a 48 16
  if top = 0 then (if bits a 45 3 = 0 then .state (bits a 0 45) else .bad)
  else if top = 1 then (if bits a 40 8 = 0 then .scratch (bits a 0 40) else .bad)
  else if top = 0xFFFE then .resident (bits a 0 23)
  else if 0x8000 ≤ top ∧ top ≤ 0x800F then .host (top - 0x8000) (bits a 0 48)
  else .bad

/-- Which forms a descriptor field accepts. -/
structure Accept where
  state : Bool := true
  scratch : Bool := true
  resident : Bool := true
  host : Bool := false
deriving DecidableEq, Repr

/-- The address field that an access at address `a` follows: of those checked so far, the one with the highest address not above it; its
address and its byte offset. -/
def Run.fieldOf (r : Run) (a : Nat) : Nat × Nat :=
  r.addrs.foldl (fun best x => if x.1 ≤ a ∧ best.1 < x.1 then x else best) (0, 0)

/-- Refuse an access at an address with event 0x06C0, at the field that gave it (R223, R502). -/
def refuseAt (a : Nat) : Op Unit := do
  let r ← get
  throw (.refuse 0x06C0 (refusal (r.fieldOf a).2 0 r.pos))

/-- Check an address field (R223, R224, R351, R503): its form, and a resident offset below the resident size. -/
def checkAddr (a off : Nat) (acc : Accept := {}) : Op Unit := do
  modify fun r => { r with addrs := r.addrs ++ [(a, off)] }
  match formOf a with
  | .state _ => need acc.state off
  | .scratch _ => need acc.scratch off
  | .resident o => do
    need acc.resident off
    need (decide (o < (← getS).residentSize (← opCtx))) off
  | .host _ _ => need acc.host off
  | .bad => need false off

/-- A field that an operation does not use must be zero; one that it uses is checked. -/
def useAddr (used : Bool) (off : Nat) (acc : Accept := {}) : Op Nat := do
  let a ← fld off 8
  if used then
    checkAddr a off acc
    return a
  else
    need (a = 0) off
    return 0

/-! ### Module memory on behalf of the step -/

/-- `n` bytes of module memory, read on behalf of the step (R174). -/
def rdMod (m n : Nat) : Op (List Byte) := do
  if n = 0 then return []
  let r ← get
  if !inMemory m n then throw (.abort 0x0305 (reservedPayload false m r.pos))
  if r.s.upsets.any fun u => decide (u.1 + 64 > m ∧ u.1 < m + n) then
    let parts ← (burstsOf m n).mapM fun b => do
      let s ← getS
      let (s, x) := s.readBurst b [] .read
      putS s
      match x with
      | .data bs => pure bs
      | .poisoned _ => throw (.abort 0x0303 (poisonPayload b r.pos))
    return (parts.flatten.drop (m % 64)).take n
  else return Memory.getBytes r.s.mem m n

/-- Write bytes of module memory on behalf of the step (R162, R175): a partial burst is read and merged first. -/
def wrMod (m : Nat) (bs : List Byte) : Op Unit := do
  let n := bs.length
  if n = 0 then return ()
  let r ← get
  if !inMemory m n then throw (.abort 0x0305 (reservedPayload true m r.pos))
  (burstsOf m n).forM fun b => do
    let s ← getS
    if (m ≤ b ∧ b + 64 ≤ m + n) ∨ s.upset b = [] then pure ()
    else
      let (s, x) := s.readBurst b [] .writeBack
      putS s
      match x with
      | .data good => onS (·.poke b good)
      | .poisoned _ => throw (.abort 0x0303 (poisonPayload b r.pos))
  onS (·.poke m bs)

/-! ### State addresses -/

/-- Payload of 0x060B (R502). -/
def stateAddrPayload (form a pos : Nat) : Nat := form + (a <<< 64) + ((pos % 2 ^ 64) <<< 128)

/-- Read a structure of the module's own on behalf of the step: its range and its code are checked as for any read (R165, R174). -/
def touchMod (m n : Nat) : Op Unit := do
  let _ ← rdMod m n
  return ()

/-- Read the lot entry of a parcel and its entry in the leaf block (R225 to R227). -/
def touchEntry (p : Nat) : Op Unit := do
  let r ← get
  if p / 512 < r.s.pg r.c 0x020 then
    touchMod (r.s.pg r.c 0x018 + 8 * (p / 512)) 8
    match r.s.entryAddr r.c p with
    | some a => touchMod a 8
    | none => return ()
  else return ()

/-- The parcel's fired entry; outside the directory or a valid lot, or damaged, the operation stops (R225, R227). -/
def firedEntryOp (p : Nat) : Op PEntry := do
  touchEntry p
  let r ← get
  match r.s.firedEntry r.c p with
  | none => throw (.stop 0x060B (stateAddrPayload 0 (p * 4096) r.pos))
  | some e =>
    if e.where_ = 3 then throw (.stop 0x060B (stateAddrPayload 0 (p * 4096) r.pos))
    else return e

/-- A lost parcel read on behalf of a step (R214): event 0x0404 case 2, and the step does not fire. -/
def lostCheck (e : PEntry) (p : Nat) : Op Unit := do
  if e.lost then throw (.abort 0x0404 (2 + ((← opCtx) <<< 16) + (p <<< 64))) else return ()

/-- A copy of a parcel is used: what the tier engine demotes last (R202). -/
def useParcel (p : Nat) : Op Unit := do
  let c ← opCtx
  onS fun s => s.modTier fun t => { t with lastUse := aset (homeKey c p) s.datum t.lastUse }

/-- Bytes of one parcel as of the last fired step (R19, R230); a flash-only parcel serves a read from the copy that its step holds (R201, R206). -/
def rdFired (p off n : Nat) : Op (List Byte) := do
  useParcel p
  let e ← firedEntryOp p
  if e.where_ = 0 then
    lostCheck e p
    return List.replicate n 0
  else if e.where_ = 1 then rdMod (e.frame + off) n
  else
    lostCheck e p
    match alook p ((← getS).ctx (← opCtx)).lent with
    | some f => rdMod (f + off) n
    | none => throw (.miss p)

/-- Bytes of one parcel as the step sees it: its shadow when it has one (R230). -/
def rdParcel (p off n : Nat) : Op (List Byte) := do
  let r ← get
  useParcel p
  match alook p (r.s.ctx r.c).shadows with
  | some sh => rdMod (sh.frame + off) n
  | none => rdFired p off n

/-- The pieces of `n` bytes from address `a`, cut at parcel boundaries: parcel, offset, length. -/
def pieces (a n : Nat) : List (Nat × Nat × Nat) :=
  if n = 0 then []
  else (List.range ((a + n - 1) / 4096 + 1 - a / 4096)).map fun i =>
    let p := a / 4096 + i
    let lo := max a (p * 4096)
    let hi := min (a + n) (p * 4096 + 4096)
    (p, lo - p * 4096, hi - lo)

/-- How far the ranges reach without a gap from an address on: `k` ranges are joined at most. -/
def reach (ws : List (Nat × Nat)) : Nat → Nat → Nat
  | 0, a => a
  | k + 1, a => reach ws k (ws.foldl (fun m w => if w.1 ≤ m then max m (w.1 + w.2) else m) a)

/-- Whether the operation writes the whole parcel, in one write or several, by its descriptor, and has read none of it before (R229). -/
def Run.writesWhole (r : Run) (p : Nat) : Bool :=
  let ws := r.whole.filter fun w => decide (w.1 < p * 4096 + 4096 ∧ p * 4096 < w.1 + w.2)
  decide (p * 4096 + 4096 ≤ reach ws ws.length (p * 4096)) &&
    !(r.reads.any fun w => decide (w.1 < p * 4096 + 4096 ∧ p * 4096 < w.1 + w.2))

/-- Payload of 0x0601 (R502). -/
def shadowPayload (cause a pos : Nat) : Nat := cause + ((pos % 2 ^ 64) <<< 64) + (a <<< 128)

/-- The frame that a write of the step to a parcel goes to (R229, R231), or, in LOADING, the parcel's own frame (R255). A write that finds the
reserve short while a refill is in progress waits for it, and one in LOADING that finds the pool empty waits for a demotion. -/
def writableFrame (p : Nat) : Op Nat := do
  let r ← get
  let x := r.s.ctx r.c
  if x.loading then
    let e ← firedEntryOp p
    let entry (f : Nat) : PEntry := { where_ := 1, dirty := true, frame := f, step := x.fired % 2 ^ 28 }
    let mark (s : State) : State := s.modTier fun t =>
      { t with dirtySince := if (alook (homeKey r.c p) t.dirtySince).isSome then t.dirtySince else aset (homeKey r.c p) x.fired t.dirtySince }
    if e.where_ = 1 then
      onS fun s => mark (s.setPlatEntry r.c p (entry e.frame))
      return e.frame
    if e.where_ = 2 ∧ ¬ r.writesWhole p then
      lostCheck e p
      throw (.miss p)
    match r.s.takePool r.s.poolDie with
    | none => throw (.wait .other)
    | some (f, s) =>
      let s := if r.writesWhole p then s else s.poke f (List.replicate 4096 0)
      putS (mark (s.setPlatEntry r.c p (entry f)))
      return f
  else
    match alook p x.shadows with
    | some sh => return sh.frame
    | none =>
      if x.shadows.length ≥ 8800000 then throw (.stop 0x0601 (shadowPayload 1 (p * 4096) r.pos))
      let e ← firedEntryOp p
      let whole := r.writesWhole p
      let fill ← if whole then pure none else some <$> rdFired p 0 4096
      let s ← getS
      match (s.takeReserve (if e.where_ = 1 then bits e.frame 39 1 else s.reserveDie)).bind fun t => (t.2.takeTable r.c).map (t.1, ·) with
      | none => if s.refilling then throw (.wait .other) else throw (.stop 0x0601 (shadowPayload 2 (p * 4096) r.pos))
      | some (f, s) =>
        let s := match fill with
          | some bs => s.poke f bs
          | none => s
        let sh : Shadow := { frame := f, filled := fill.isSome, old := if e.where_ = 1 then some e.frame else none }
        putS (s.modCtx r.c fun x => { x with shadows := aset p sh x.shadows })
        return f

/-- The 64-byte records of a parcel that a write touches, as a mask (R155). -/
def recordMask (off n : Nat) : Nat :=
  if n = 0 then 0 else (List.range ((off + n - 1) / 64 + 1 - off / 64)).foldl (fun m i => m ||| 2 ^ (off / 64 + i)) 0

/-- Write bytes of one parcel in the step. -/
def wrParcel (p off : Nat) (bs : List Byte) : Op Unit := do
  let f ← writableFrame p
  useParcel p
  wrMod (f + off) bs
  let r ← get
  if (r.s.ctx r.c).migrations.any fun m => m.parcel == p then
    onS fun s => s.modCtx r.c fun x => { x with migrations := x.migrations.map fun m =>
      if m.parcel = p then { m with dirty := m.dirty ||| recordMask off bs.length } else m }
  else return ()

/-! ### Scratch, resident and host addresses -/

/-- A scratch range lies inside the context's scratch range, or event 0x060B (R224). -/
def scratchCheck (m n : Nat) : Op Unit := do
  let r ← get
  let base := r.s.pg r.c 0x028
  let len := r.s.pg r.c 0x030
  if base ≤ m ∧ m + n ≤ base + len then return () else throw (.stop 0x060B (stateAddrPayload 1 m r.pos))

/-- Resident offset of an access at address `a`: the offset of its field, and how far it stands past it (R77). -/
def Run.residentOff (r : Run) (a : Nat) : Nat :=
  match formOf (r.fieldOf a).1 with
  | .resident o => o + (a - (r.fieldOf a).1)
  | _ => bits a 0 23

/-- Module address of a resident access of the kiln at work (R75, R77); one past the resident size is refused at its field. -/
def residentAddr (a n : Nat) : Op Nat := do
  let r ← get
  let off := r.residentOff a
  if off + n ≤ r.s.residentSize r.c then return 0x7800000000 + r.kiln * 0x800000 + off
  else
    refuseAt a
    return 0

/-- Whether a host port carries traffic: its link is up and PFC does not pause it (R345). -/
def State.portOpen (s : State) (p : Nat) : Bool :=
  if p = 0 then s.host.up0 && !s.host.paused0 else s.host.up1 && !s.host.paused1

/-- The ports of the live queue pairs of a context that an outbound window allows and that carry traffic (R350). -/
def windowPorts (s : State) (c w : Nat) : List Nat :=
  let ctl := s.pg c (0x100 + 0x20 * w + 0x10)
  (s.host.qps.filter fun q => q.est && q.conn.kind == 2 && q.conn.ctx == c && ctl.testBit (34 + q.conn.port) && s.portOpen q.conn.port).map (·.conn.port)

/-- The RDMA READs of a context outstanding on a port, its keep-alive read among them (R346, R372). -/
def State.outstanding (s : State) (c p : Nat) : Nat :=
  ((s.ctx c).window.map fun w => (w.reads.filter fun r => r.port == some p && !r.done).length).sum +
    (if (s.ctx c).keepRead = some p then 1 else 0)

/-- Whether one more READ may be outstanding on the queue pair of a context at a port (R346). -/
def State.qpRoom (s : State) (c p : Nat) : Bool :=
  s.host.qps.any fun q => q.est && q.conn.kind == 2 && q.conn.ctx == c && q.conn.port == p && decide (s.outstanding c p < q.reads)

/-- The port that a READ through a window can go out on now (R346, R350). -/
def State.readPort (s : State) (c w : Nat) : Option Nat := (windowPorts s c w).find? (s.qpRoom c)

/-- Whether a READ covers a range. -/
def HostRead.covers (r : HostRead) (q : Nat × Nat) : Bool := decide (r.addr ≤ q.1 ∧ q.1 + q.2 ≤ r.addr + r.len)

/-- What a READ of an operation still has to fetch (R371). -/
def WinOp.remainder (w : WinOp) (r : HostRead) : Nat × Nat :=
  match w.asked with
  | some q => if r.covers q then q else (r.addr, r.len)
  | none => (r.addr, r.len)

/-- Change a READ of an operation. -/
def WinOp.setRead (w : WinOp) (r : HostRead) (f : HostRead → HostRead) : WinOp :=
  { w with reads := w.reads.map fun x => if x.addr = r.addr ∧ x.len = r.len then f x else x }

/-- Send a READ of an operation that is held, when an allowed queue pair has room for it (R346, R350). -/
def State.sendRead (s : State) (c : Nat) (w : WinOp) (r : HostRead) : State :=
  let (a, n) := w.remainder r
  let (win, off) := hostParts a
  if r.port.isSome || r.done || !windowHolds s c win off n false then s
  else match s.readPort c win with
    | some p => (s.emit (.readReq c a n)).modWin c w.pos fun v => v.setRead r fun x => { x with port := some p }
    | none => s

/-- Send the READs of a context that are held, in the order of their operations; those of an ORPHANED context stay held (R374). -/
def State.sendReads (s : State) (c : Nat) : State :=
  if (s.ctx c).ring = .orphaned then s
  else (s.ctx c).window.foldl (fun s w => w.reads.foldl (fun s r => s.sendRead c w r) s) s

/-- An RDMA WRITE leaves the module from its first unacknowledged byte on (R378, R505). -/
def State.emitWrite (s : State) (c : Nat) (w : HostWrite) : State :=
  let s := s.emit (.write c (w.addr + w.acked) (w.bytes.drop w.acked))
  { s with host := { s.host with modWritten := modAt s.host.modWritten w.port fun k => (k + (w.bytes.length - w.acked)) % 2 ^ 64 } }

/-- The port that a held WRITE can go out on now, through the windows in force (R350, R505). -/
def State.writePort (s : State) (c : Nat) (w : HostWrite) : Option Nat :=
  let (win, off) := hostParts w.addr
  if windowHolds s c win off w.bytes.length true then (windowPorts s c win).head? else none

/-- Send the WRITEs of a context that are held, in order (R350, R505); those of an ORPHANED context stay held. -/
def State.sendWrites (s : State) (c : Nat) : State :=
  if (s.ctx c).ring = .orphaned then s
  else
    let go := (s.ctx c).writes.map fun w =>
      if w.sent then (w, false)
      else match s.writePort c w with
        | some p => ({ w with sent := true, port := p }, true)
        | none => (w, false)
    let s := s.modCtx c fun x => { x with writes := go.map (·.1) }
    (go.filter (·.2)).foldl (fun s w => s.emitWrite c w.1) s

/-- Queue an RDMA WRITE of a context and send it when it can go (R505). -/
def State.sendWrite (s : State) (c addr : Nat) (bs : List Byte) (kind : WriteKind) : State :=
  (s.modCtx c fun x => { x with writes := x.writes ++ [{ addr := addr, bytes := bs, kind := kind, port := 0, sent := false }] }).sendWrites c

/-- The transfers of a context that are held go out (R350, R374). -/
def State.resumeHost (s : State) (c : Nat) : State := (s.sendWrites c).sendReads c

/-- Payload of 0x0105 (R502). -/
def windowPayload (n w off pos : Nat) (write : Bool) : Nat :=
  n % 2 ^ 32 + (w <<< 32) + ((if write then 2 else 1) <<< 40) + (off <<< 64) + ((pos % 2 ^ 64) <<< 128)

/-- Check an outbound access (R351). -/
def hostCheck (w off n : Nat) (write : Bool) : Op Unit := do
  let r ← get
  if windowHolds r.s r.c w off n write then return () else throw (.refuse 0x0105 (windowPayload n w off r.pos write))

/-- Whether a READ of the operation for a range has gone out: it finishes under the settings that it found (R354). -/
def Run.granted (r : Run) (q : Nat × Nat) : Bool :=
  ((r.s.winOp r.c r.pos).map fun w => w.reads.any fun x => x.port.isSome && x.covers q).getD false

/-- Bytes from a host window: those that the RDMA READ has delivered; the operation waits for the unread remainder (R371), and while no
allowed port has a live queue pair (R350). A READ that has not gone out before goes out and is answered within the command. -/
def rdHost (addr w off n : Nat) : Op (List Byte) := do
  let r ← get
  let issued := r.granted (addr, n)
  if !issued then
    hostCheck w off n false
    match windowPorts r.s r.c w with
    | p :: _ => onS fun s => { s with host := { s.host with modRead := modAt s.host.modRead p fun k => (k + n) % 2 ^ 64 } }
    | [] => throw (.read addr n)
  match (List.range n).find? fun i => (alook (addr + i) r.hin).isNone with
  | none => return (List.range n).map fun i => (alook (addr + i) r.hin).getD 0
  | some i => throw (.read (addr + i) (n - i))

/-- Write bytes to a host window: an RDMA WRITE that the operation waits for (R361, R505); held while no allowed port has a live queue
pair (R350). -/
def wrHost (addr w off : Nat) (bs : List Byte) : Op Unit := do
  hostCheck w off bs.length true
  let r ← get
  onS fun s => s.sendWrite r.c addr bs (.output r.pos)
  modify fun r => { r with writes := r.writes + 1 }

/-! ### Any address -/

/-- Read `n` bytes from a descriptor address (R223, R230). -/
def rd (a n : Nat) : Op (List Byte) := do
  match formOf a with
  | .state x => do
    modify fun r => { r with reads := (x, n) :: r.reads }
    return (← (pieces x n).mapM fun q => rdParcel q.1 q.2.1 q.2.2).flatten
  | .scratch m => do
    scratchCheck m n
    rdMod m n
  | .resident _ => do rdMod (← residentAddr a n) n
  | .host w off => rdHost a w off n
  | .bad => do
    refuseAt a
    return []

/-- Read `n` bytes as of the last fired step (PERMUTE, CHECK_LINE, carried scales). -/
def rdAsFired (a n : Nat) : Op (List Byte) := do
  match formOf a with
  | .state x => do
    modify fun r => { r with reads := (x, n) :: r.reads }
    return (← (pieces x n).mapM fun q => rdFired q.1 q.2.1 q.2.2).flatten
  | _ => rd a n

/-- Write bytes to a descriptor address (R223, R224, R229). -/
def wr (a : Nat) (bs : List Byte) : Op Unit := do
  match formOf a with
  | .state x =>
    (pieces x bs.length).forM fun q => wrParcel q.1 q.2.1 ((bs.drop (q.1 * 4096 + q.2.1 - x)).take q.2.2)
  | .scratch m => do
    scratchCheck m bs.length
    wrMod m bs
  | .resident _ => do
    let m ← residentAddr a bs.length
    wrMod m bs
    let r ← get
    onS fun s => s.modKiln r.kiln fun k =>
      { k with dirty := ((burstsOf m bs.length).map fun b => (b - 0x7800000000 - r.kiln * 0x800000) / 65536).foldl
                 (fun l b => if l.contains b then l else l ++ [b]) k.dirty }
  | .host w off => wrHost a w off bs
  | .bad => refuseAt a

/-- Read `n` bytes that stand `d` bytes past a descriptor address: an offset in a host window never carries into another window (R351). -/
def rdPast (a d n : Nat) : Op (List Byte) :=
  match formOf a with
  | .host w off => rdHost (a + d) w (off + d) n
  | _ => rd (a + d) n

/-- Write bytes `d` bytes past a descriptor address. -/
def wrPast (a d : Nat) (bs : List Byte) : Op Unit :=
  match formOf a with
  | .host w off => wrHost (a + d) w (off + d) bs
  | _ => wr (a + d) bs

/-- A little-endian number at a descriptor address. -/
def rdNat (a n : Nat) : Op Nat := do return ofLeBytes (← rd a n)
/-- Write a number little-endian. -/
def wrNat (a n v : Nat) : Op Unit := wr a (leBytes n v)

/-- State that the operation writes `n` bytes from `a` whole (R229). -/
def declareWhole (a n : Nat) : Op Unit :=
  match formOf a with
  | .state x => modify fun r => { r with whole := (x, n) :: r.whole }
  | _ => pure ()

/-! ### Kilns of an operation (R84, R78, R94) -/

/-- kiln_first and kiln_count of the control word (R84). -/
def kilnRange : Op (Nat × Nat) := do
  let w ← fld 16 8
  return (bits w 16 6, bits w 22 6 + 1)

/-- Module number of context kiln k; 0 beyond the set. -/
def ctxKiln (k : Nat) : Op Nat := do return ((← getS).kilnSet (← opCtx)).getD k 0

/-- Run the share of the i-th kiln of the operation's range. -/
def onKiln (i : Nat) : Op Unit := do
  let (first, _) ← kilnRange
  let k ← ctxKiln (first + i)
  modify fun r => { r with kiln := k }

/-- recompute of the control word (R96). -/
def isRecompute : Op Bool := do return (← fld 16 8).testBit 10

end Sys2Proof.Machine
end

