-- ==== Sys2Proof/Machine/Window.lean ====
section
/-! DEFINITION. The dispatch window (R84 to R88), the kilns' states (R80 to R83), and how an operation runs, completes, is refused,
stops, aborts its step or waits. -/

namespace Sys2Proof.Machine

/-! ### Descriptors before they run -/

/-- Which opcodes of LOADING run (R255). -/
def runsInLoading (op : Nat) : Bool := op == 2 || op == 3 || op == 0x44 || op == 0x45

/-- The checks of every descriptor before its operation runs (R84, R89, R96, R232, R271, R359, R503): byte and bit of the first
field that is wrong. -/
def State.headerFault (s : State) (c : Nat) (d : Desc) : Option (Nat × Nat) :=
  let w := d.field 16 8
  let op := opcodeOf d
  let (f, n) := kilnsOf d
  if ¬ inCatalogue op then some (2, 0)
  else if d.field 3 1 ≥ 2 then some (3, 1)
  else if d.field 8 6 ≠ 0 then some (8, 0)
  else if bits w 0 8 ≥ 64 ∧ bits w 0 8 ≠ 255 then some (16, 0)
  else if bits w 12 4 ≠ 0 then some (16, 12)
  else if bits w 28 36 ≠ 0 then some (16, 28)
  else if w.testBit 10 ∧ bits w 8 2 ≠ 1 then some (16, 10)
  else if op = 0x1A ∧ (actionOf d = 0 ∨ actionOf d > 7) then some (26, 0)
  else if op = 0x62 ∧ bits w 0 8 ≠ 255 then some (16, 0)
  else if (s.ctx c).loading ∧ ¬ runsInLoading op then some (2, 0)
  else if ¬ usesKiln d then (if bits w 16 6 ≠ 0 then some (16, 16) else if bits w 22 6 ≠ 0 then some (16, 22) else none)
  else if op = 0x1A ∧ bits w 22 6 ≠ 0 then some (16, 22)
  else if f + n > (s.kilnSet c).length then some (16, 16)
  else none

/-! ### Kiln switches (R80, R82) -/

/-- The save-area slot of a kiln for a context (R80). -/
def State.saveSlot (s : State) (c k : Nat) : Nat :=
  s.pg c 0x058 + (s.kilnSet c).idxOf k * (0x40000 + s.residentSize c)

/-- A list of numbered values as `n` little-endian fields of `w` bytes; unlisted entries take a default. -/
def packList (l : List (Nat × Nat)) (n w dflt : Nat) : List Byte := (List.range n).flatMap fun i => leBytes w ((alook i l).getD dflt)

/-- The inverse: entries that differ from the default. -/
def unpackList (bs : List Byte) (n w dflt : Nat) : List (Nat × Nat) :=
  (List.range n).filterMap fun i =>
    let v := ofLeBytes ((bs.drop (w * i)).take w)
    if v = dflt then none else some (i, v)

/-- All ones over 512 lanes. -/
def allLanes : Nat := 2 ^ 512 - 1

/-- Sequencer state of a slot: scalars, predicates, flag, program position, loop stack, counts, the operation served, and the block
buffers staged for it (R80; the order inside is the model's, log entry 15). -/
def packSeq (u : Vu) : List Byte :=
  packList u.s 16 8 0 ++ packList u.p 8 64 allLanes ++ leBytes 1 (if u.flag then 1 else 0) ++ leBytes 8 u.pc ++ leBytes 8 u.count ++
    leBytes 1 u.loops.length ++
    ((u.loops ++ List.replicate (4 - u.loops.length) (0, 0, 0)).take 4).flatMap (fun (t : Nat × Nat × Nat) => leBytes 8 t.1 ++ leBytes 8 t.2.1 ++ leBytes 8 t.2.2) ++
    leBytes 1 u.flags ++ leBytes 8 u.groups.1 ++ leBytes 8 u.groups.2 ++ leBytes 8 u.seed ++ leBytes 8 u.owner.1 ++ leBytes 8 u.owner.2 ++
    leBytes 1 (if u.halted then 1 else 0) ++ leBytes 1 u.bufs.length ++
    ((u.bufs ++ List.replicate (6 - u.bufs.length) (0, 0)).take 6).flatMap fun (t : Nat × Nat) => leBytes 8 t.1 ++ leBytes 8 t.2

/-- Read a number out of bytes. -/
def numAt (bs : List Byte) (o n : Nat) : Nat := ofLeBytes ((bs.drop o).take n)

/-- The inverse of `packSeq`, with the vector registers given. -/
def unpackSeq (bs : List Byte) (v : List (Nat × Nat)) : Vu :=
  { v := v, s := unpackList bs 16 8 0, p := unpackList (bs.drop 128) 8 64 allLanes, flag := numAt bs 640 1 == 1, pc := numAt bs 641 8,
    count := numAt bs 649 8,
    loops := (List.range (numAt bs 657 1)).map fun i =>
      (numAt bs (658 + 24 * i) 8, numAt bs (666 + 24 * i) 8, numAt bs (674 + 24 * i) 8),
    flags := numAt bs 754 1, groups := (numAt bs 755 8, numAt bs 763 8), seed := numAt bs 771 8,
    owner := (numAt bs 779 8, numAt bs 787 8), halted := numAt bs 795 1 == 1,
    bufs := (List.range (numAt bs 796 1)).map fun i => (numAt bs (797 + 16 * i) 8, numAt bs (805 + 16 * i) 8) }

/-- What an engine does for a context's step outside any operation: a cause of R240 aborts the step. -/
def State.engineOp (s : State) (c : Nat) (f : Op Unit) : State :=
  match f.run { s := s, c := c, pos := 0, d := 0 } with
  | (.ok (), r) => r.s
  | (.error (.abort code payload), r) => (r.s.raiseCtx c none code payload).abortStep c (r.s.rank c) code
  | (.error _, r) => r.s

/-- Save the outgoing context's state in its slot (R80, R82): saggars, vector registers, sequencer state, the resident blocks
written since the last restore. A slot that meets a reserved range makes the context's step not fire (R165). -/
def State.saveKiln (s : State) (k c : Nat) : State :=
  let x := s.kiln k
  let slot := s.saveSlot c k
  let shelf := 0x7800000000 + k * 0x800000
  let seq := packSeq x.vu
  s.engineOp c do
    wrMod slot (packList x.saggar0 16384 4 0)
    wrMod (slot + 0x10000) (packList x.saggar1 16384 4 0)
    wrMod (slot + 0x20000) (packList x.vu.v 32 2048 0)
    wrMod (slot + 0x30000) (seq ++ List.replicate (4096 - seq.length) 0)
    x.dirty.forM fun b => do wrMod (slot + 0x40000 + b * 65536) (← rdMod (shelf + b * 65536) 65536)

/-- Read a part of a save-area slot for context c: poison there is a read on behalf of its step (R174; log entry 15), and a reserved range
reads zero (R165). -/
def State.readSlot (s : State) (c a n : Nat) : State × List Byte :=
  if n = 0 then (s, [])
  else if !inMemory a n then
    ((s.raiseCtx c none 0x0305 (reservedPayload false a 0)).abortStep c (s.rank c) 0x0305, List.replicate n 0)
  else match s.readBytes a n with
    | (s, .ok bs) => (s, bs)
    | (s, .error b) => ((s.raiseCtx c none 0x0303 (poisonPayload b 0)).abortStep c (s.rank c) 0x0303, List.replicate n 0)

/-- Restore the incoming context's state from its slot (R80, R82), its full resident area with it. -/
def State.restoreKiln (s : State) (k c : Nat) : State :=
  let slot := s.saveSlot c k
  let shelf := 0x7800000000 + k * 0x800000
  let (s, s0) := s.readSlot c slot 65536
  let (s, s1) := s.readSlot c (slot + 0x10000) 65536
  let (s, v) := s.readSlot c (slot + 0x20000) 65536
  let (s, seq) := s.readSlot c (slot + 0x30000) 4096
  let (s, res) := s.readSlot c (slot + 0x40000) (s.residentSize c)
  let s := s.modKiln k fun x =>
    { x with saggar0 := unpackList s0 16384 4 0, saggar1 := unpackList s1 16384 4 0,
             vu := unpackSeq seq (unpackList v 32 2048 0), dirty := [] }
  s.poke shelf res

/-! ### Running an operation -/

/-- Remove an operation from the window. -/
def State.dropWin (s : State) (c pos : Nat) : State :=
  s.modCtx c fun x => { x with window := x.window.filter fun w => w.pos != pos }

/-- The IEEE flags as five Booleans of a byte (log entry 8). -/
def flagsByte (f : Flt.Flags) : Nat := (Config.flagByte f.nv f.dz f.ovf f.unf f.nx).toNat

/-- The 24 payload bytes of a completion (R365): flags and counts of R48 in bytes 0 to 7, the operation's own counts from byte 8. -/
def numericsPayload (f : Flt.Flags) (sat inv : Nat) (own : List Nat) : Nat :=
  flagsByte f + (min sat (2 ^ 24 - 1) <<< 8) + (min inv (2 ^ 24 - 1) <<< 32) +
    (own.take 4).foldr (fun n acc => min n (2 ^ 32 - 1) + (acc <<< 32)) 0 * 2 ^ 64

/-- The completion payload of a run that ends. -/
def completionPayload (r : Run) : Nat := numericsPayload r.flags r.sat r.inv r.own

/-- The completion payload of a finished operation that was held, with the flags that setter adders reported since. -/
def WinOp.endPayload (w : WinOp) : Nat := numericsPayload (Flt.Flags.ofNat (w.flags ||| w.adderFlags)) w.sat w.inv w.own

/-- Keep in the window what a run has to report. -/
def WinOp.keep (w : WinOp) (r : Run) : WinOp :=
  { w with flags := r.flags.toNat, sat := r.sat, inv := r.inv, own := r.own, events := r.events }

/-- An operation waits: what was told of an earlier wait does not count for a new one (R102, R276, R338). -/
def WinOp.waitFor (w : WinOp) (x : Wait) (sameWait : Bool) : WinOp :=
  { w with wait := some x, told := w.told && sameWait, due := false }

/-- Event 0x0306 of an operation of the window that ends (R190, R192). -/
def State.tellAdder (s : State) (c pos : Nat) : State :=
  match s.winOp c pos with
  | some w => s.tellExceptions c w
  | none => s

/-- An operation completes (R365): it leaves the window, and its entry is written when notify is set. -/
def State.completeOp (s : State) (c : Nat) (w : WinOp) (payload : Nat) : State :=
  let s := (s.tellAdder c w.pos).dropWin c w.pos
  if w.desc.field 3 1 % 2 = 1 then s.complete c w.pos w.desc 0 w.step payload else s

/-- Whether setter adders still hold updates of an operation (R185, R186). -/
def State.heldUpdates (s : State) (c pos : Nat) : Bool := s.setter.domains.any fun d => d.held.any fun u => u.ctx == c && u.pos == pos

/-- The batch handle of a GATHER_POOL or a SCATTER_GRAD (R139, R147). -/
def handleOf (d : Desc) : Nat := bits (d.field (if opcodeOf d = 0x30 then 32 else 28) 4) 0 4

/-- Whether two operations of one handle belong to one batch (R140): one step, and no GATHER_POOL between them opens the handle anew. -/
def sameBatch (win : List WinOp) (v w : WinOp) : Bool :=
  v.step == w.step && handleOf v.desc == handleOf w.desc &&
    !win.any fun g => opcodeOf g.desc == 0x30 && handleOf g.desc == handleOf w.desc && (g.desc.field 32 4).testBit 4 &&
      decide (min v.pos w.pos < g.pos ∧ g.pos < max v.pos w.pos)

/-- Whether a SCATTER_GRAD of a lower ordinal of its batch is still to complete, in a context with STRICT set (R383). -/
def State.behindOrdinal (s : State) (c : Nat) (w : WinOp) : Bool :=
  let ord (v : WinOp) : Nat := bits (v.desc.field 28 4) 4 8
  let x := s.ctx c
  x.strict && opcodeOf w.desc == 0x31 &&
    ((x.window.any fun v => opcodeOf v.desc == 0x31 && sameBatch x.window v w && decide (ord v < ord w)) ||
     (x.batches.any fun b => b.handle == handleOf w.desc && ((b.ords[ord w]?).map (·.scattered)).getD false &&
        (b.ords.take (ord w)).any fun o => !(o.scattered || o.closed)))

/-- Whether the completion of an operation whose work is done is held back: adder updates are still to be applied (R185), or a lower
ordinal is still to complete (R383). -/
def State.heldBack (s : State) (c : Nat) (w : WinOp) : Bool := s.heldUpdates c w.pos || s.behindOrdinal c w

/-- A finished operation completes when its output is acknowledged (R505) and nothing holds it back. -/
def State.endOp (s : State) (c pos : Nat) : State :=
  match s.winOp c pos with
  | some w => if w.st = .finished ∧ w.writes = 0 ∧ !s.heldBack c w then s.completeOp c w w.endPayload else s
  | none => s

/-- Complete the finished SCATTER_GRADs of a context that nothing holds back any more, in increasing ordinal (R185, R383). -/
def State.endScatters (s : State) (c : Nat) : State :=
  let done := (s.ctx c).window.filter fun w => opcodeOf w.desc == 0x31 && w.st == .finished
  (sortBy (fun a b => decide (bits (a.desc.field 28 4) 4 8 ≤ bits (b.desc.field 28 4) 4 8)) done).foldl (fun s w => s.endOp c w.pos) s

/-- An operation is refused or stopped (R87): event, completion entry with what it has counted so far (R365), and the ring stops at it. -/
def State.failOp (s : State) (c : Nat) (w : WinOp) (outcome code payload : Nat) (counts : Nat := 0) : State :=
  let s := (s.tellAdder c w.pos).raiseCtx c (some w.pos) code payload
  let s := s.dropWin c w.pos
  (s.complete c w.pos w.desc outcome w.step counts).ringBlock c code

/-- The operation waits for host bytes: the unread remainder of one of its READs, or a new one (R371). -/
def WinOp.ask (w : WinOp) (q : Nat × Nat) : WinOp :=
  { w.waitFor .hostInput (w.wait == some .hostInput) with
    asked := some q
    reads := if w.reads.any (·.covers q) then w.reads.map fun r => if r.covers q ∧ r.done then { r with done := false, port := none } else r
             else w.reads ++ [{ addr := q.1, len := q.2 }] }

/-- The bytes that have come for an operation's READs are counted (R378), and a READ that has them all is complete (R371). -/
def State.takeInput (s : State) (c : Nat) (w : WinOp) (hin : List Host.Cell) : State :=
  let came (r : HostRead) : Nat := (hin.filter fun x => decide (r.addr ≤ x.1 ∧ x.1 < r.addr + r.len)).length
  let s := w.reads.foldl (fun s r => match r.port with
    | some p => { s with host := { s.host with modRead := modAt s.host.modRead p fun k => (k + (came r - r.got)) % 2 ^ 64 } }
    | none => s) s
  s.modWin c w.pos fun v => { v with reads := v.reads.map fun r =>
    if r.port.isSome then { r with got := max r.got (came r), done := decide (r.len ≤ came r) } else r }

/-- The result of an operation's body, put into the state. A READ goes out when it is new and an allowed queue pair has room for it (R346,
R350); what is left of it is asked for by INPUT_READ_RETRY (R371). In LOADING there is no step to void: a cause of R240 stops the operation
(log entry 26). -/
def State.settleOp (s0 : State) (c : Nat) (w : WinOp) : Except Stop Unit × Run → State
  | (.ok (), r) =>
    let s := r.events.foldl (fun s e => s.raiseCtx c (some w.pos) e.1 e.2) r.s
    if r.writes = 0 ∧ !s.heldBack c w then s.completeOp c w (completionPayload r)
    else s.modWin c w.pos fun v => { v.keep r with st := .finished, writes := r.writes, wait := none }
  | (.error (.refuse code payload), r) => s0.failOp c w 1 code payload (completionPayload r)
  | (.error (.stop code payload), r) => r.s.failOp c w 2 code payload (completionPayload r)
  | (.error (.abort code payload), r) =>
    if (r.s.ctx c).loading then r.s.failOp c w 2 code payload (completionPayload r)
    else (if code / 256 = 3 then r.s.raiseOnce c w.pos code payload else r.s.raiseCtx c (some w.pos) code payload).abortStep c (r.s.rank c) code
  | (.error (.wait x), _) => s0.modWin c w.pos fun v => v.waitFor x (w.wait == some x)
  | (.error (.read a n), _) => (s0.modWin c w.pos fun v => v.ask (a, n)).sendReads c
  | (.error (.hold x), r) => r.s.modWin c w.pos fun v => (v.keep r).waitFor x (w.wait == some x && v.progress == w.progress)
  | (.error (.miss p), _) =>
    (s0.modWin c w.pos fun v => v.waitFor .demandMiss (w.wait == some .demandMiss)).modCtx c fun x =>
      if x.missing.contains p then x else { x with missing := x.missing ++ [p], missedAt := aset p s0.datum x.missedAt }

/-- Run a dispatched operation whose opcode is `ok`: any other position, opcode or state of the context leaves the state as it is
(log entry 16). One of whose kilns serves another context, or switches, does not run: it is interrupted, and its kilns are called for
(R75, R82). -/
def State.runOp (s : State) (a : OpArg) (ok : Desc → Bool) (body : Op Unit) : State :=
  match s.winOp a.ctx a.pos with
  | none => s
  | some w =>
    if w.st ≠ .running ∨ ¬ ok w.desc ∨ s.pwr.life ≠ .ready then s
    else if !s.served a.ctx w.desc then
      (s.modWin a.ctx a.pos fun v => { v with due := true }).callKilns a.ctx (s.opKilns a.ctx w.desc)
    else
      let s := s.takeInput a.ctx w a.hin
      let r : Run := { s := s.modWin a.ctx a.pos fun v => { v with wait := none, due := false }, c := a.ctx, pos := a.pos, d := w.desc, hin := a.hin,
                       order := a.order, progress := w.progress, flags := Flt.Flags.ofNat (w.flags ||| w.adderFlags), sat := w.sat,
                       inv := w.inv, own := w.own, events := w.events, kiln := (s.opKilns a.ctx w.desc).headD 0 }
      ((s.settleOp a.ctx w (body.run r)).endScatters a.ctx).settleKilns a.ctx

/-- An operation command: its meaning over the body of its opcode. -/
def opCmd (a : OpArg) (s : State) (opc : Nat) (body : Op Unit) : Result :=
  .next (s.runOp a (fun d => opcodeOf d == opc) body)

end Sys2Proof.Machine
end

