-- ==== Sys2Proof/Machine/Formats.lean ====
section
/-! DEFINITION. Elements in memory (R22 to R33, R90), decoding with scales (R30), the conversion paths (R43), and the delivery of a
tensor into a format with its scales, flags and carried codes (R40 to R48, R107). -/

namespace Sys2Proof.Machine

open Sys2Proof.Flt

/-! ### Elements and rows (R29, R90) -/

/-- Width in bits of an element of a format code. -/
def fmtBits (f : Nat) : Nat :=
  match f with
  | 0 => 32
  | 1 => 16
  | 2 => 16
  | 3 => 8
  | 4 => 8
  | 5 => 6
  | 6 => 6
  | 7 => 4
  | 8 => 4
  | _ => 8

/-- Bytes of a row of `n` elements: F6 padded to four elements, F4 and I4 to two (R29). -/
def rowBytes (f n : Nat) : Nat :=
  match fmtBits f with
  | 6 => ceilDiv n 4 * 3
  | 4 => ceilDiv n 2
  | b => n * (b / 8)

/-- Element codes of a row's bytes. -/
def unpackRow (f n : Nat) (bs : List Byte) : List Nat :=
  let x := ofLeBytes bs
  (List.range n).map fun i => bits x (fmtBits f * i) (fmtBits f)

/-- Bytes of a row of element codes; padding elements are zero. -/
def packRow (f : Nat) (codes : List Nat) : List Byte :=
  leBytes (rowBytes f codes.length) (codes.foldr (fun c acc => c + (acc <<< fmtBits f)) 0)

/-- Whether a format is one of the short formats that carry SC8 scales (R500). -/
def isShort (f : Nat) : Bool := decide (3 ≤ f ∧ f ≤ 7)
/-- Whether a format must carry scales (R33). -/
def needsScale (f : Nat) : Bool := decide (5 ≤ f ∧ f ≤ 7)
/-- Whether a conversion into the format forms the flags of R32. -/
def isVendor (f : Nat) : Bool := decide (2 ≤ f ∧ f ≤ 7)

/-- The vendor format of a code. -/
def vfmt (f : Nat) : VFmt :=
  match f with
  | 2 => vB16
  | 3 => vF8
  | 4 => vG8
  | 5 => vE3M2
  | 6 => vE2M3
  | _ => vF4

/-- The value of an element code (R23 to R27). -/
def decodeElem (f code : Nat) : Val :=
  match f with
  | 0 => decode fmtF32 code
  | 1 => decode fmtF16 code
  | 2 => decode fmtB16 code
  | _ => vendorDecode (vfmt f) code

/-- The value under a scale code; a block with code 0xFF decodes as quiet NaNs (R30). -/
def scaled (sc : Nat) (v : Val) : Val := if sc = 0xFF then .nan false else scaleVal ((sc : Int) - 127) v

/-- Elements of a scale group of a group code (R91). -/
def groupLen (g : Nat) : Nat := 16 <<< g

/-! ### The conversion paths (R43) -/

/-- Whether a path is performed by way of F32: those that R43 does not list. A scaled G8 source goes that way, whose rows do not say
"unscaled" as those of F8, F6 and F4 do (DESIGN CHOICE, log entry 104). -/
def viaF32 (src : Nat) (isScaled : Bool) (dst : Nat) : Bool :=
  (isShort src && isScaled && (dst == 1 || dst == 2)) || (isShort src && src == dst)

/-- The exact value that the last leg of a conversion rounds, with the flags of a first leg into F32. A signalling NaN raises invalid
operation (R24). -/
def legValue (src : Nat) (isScaled : Bool) (dst : Nat) (v : Val) : Val × Flags :=
  if viaF32 src isScaled dst then
    let (x, f) := toIeee fmtF32 .even v
    (decode fmtF32 x, f)
  else (v, { nv := v.isSnan })

/-! ### Delivery into a tensor -/

/-- A result tensor: format, scale group in elements (0 unscaled), axis (false along the columns), scale mode (0 unscaled, 1 present,
2 carried), extents, and the addresses of its four arrays. -/
structure Target where
  fmt : Nat
  group : Nat := 0
  outer : Bool := false
  mode : Nat := 0
  rows : Nat
  cols : Nat
  addr : Nat
  scale : Nat := 0
  flag : Nat := 0
  carried : Nat := 0

/-- Number of scale or flag groups: unscaled flag groups are runs of 32 in each row (R31, R32). -/
def Target.groups (t : Target) : Nat :=
  let g := if t.group = 0 then 32 else t.group
  if t.outer then t.cols * ceilDiv t.rows g else t.rows * ceilDiv t.cols g

/-- Row-major indices of the elements of a group. -/
def Target.members (t : Target) (n : Nat) : List Nat :=
  let g := if t.group = 0 then 32 else t.group
  if t.outer then
    let per := ceilDiv t.rows g
    let c := n / per
    let r := n % per * g
    (List.range (min g (t.rows - r))).map fun i => (r + i) * t.cols + c
  else
    let per := ceilDiv t.cols g
    let r := n / per
    let c := n % per * g
    (List.range (min g (t.cols - c))).map fun i => r * t.cols + c + i

/-- The row in which a group begins. -/
def Target.rowOf (t : Target) (n : Nat) : Nat := (t.members n).headD 0 / max t.cols 1

/-- The largest finite magnitude of a group as an exact value, if any is not zero. -/
def amaxFin (vs : List Val) : Option (Nat × Int) :=
  vs.foldl (fun best v => match v with
    | .fin _ m e =>
      if m = 0 then best
      else match best with
        | none => some (m, e)
        | some (bm, be) => if ltVal (.fin false bm be) (.fin false m e) then some (m, e) else best
    | _ => best) none

/-- Largest finite value of a vendor format (R28). -/
def maxFin (f : Nat) : Val := decodeElem f (vfmt f).maxCode

/-- k := ceil(log2(amax / max_finite)) (R45). -/
def scaleExp (f m : Nat) (e : Int) : Int :=
  match maxFin f with
  | .fin _ mm em =>
    let k0 := ilog m e - ilog mm em
    if ltVal (scaleVal k0 (.fin false mm em)) (.fin false m e) then k0 + 1 else k0
  | _ => 0

/-- The scale code that present-scale mode chooses for a group (R45). -/
def presentScale (f : Nat) (vs : List Val) : Nat :=
  if needsScale f && vs.any (fun v => !v.isFin) then 0xFF
  else match amaxFin vs with
    | none => 0x7F
    | some (m, e) => (min (max (scaleExp f m e + 127) 0) 254).toNat

/-- A NaN or infinite element's code in a vendor format (R41); F6 and F4 write zeros in a block made invalid. -/
def specialCode (f : Nat) (v : Val) : Nat :=
  match f, v with
  | 2, .inf neg => if neg then 0xFF80 else 0x7F80
  | 2, _ => 0x7FC0
  | 3, _ => 0x80
  | 4, _ => 0x80
  | _, _ => 0

/-- What the conversion of one group gives. -/
structure GroupOut where
  codes : List Nat
  scale : Nat
  sat : Bool
  inv : Bool
  flags : Flags

/-- Convert the elements of one group under a scale code (R40 to R42, R44). -/
def convertGroup (f sc : Nat) (isScaled : Bool) (vs : List (Val × Flags)) : GroupOut :=
  let fl := vs.foldl (fun a v => a.or v.2) {}
  if f ≤ 1 then
    let fm := if f = 0 then fmtF32 else fmtF16
    let out := vs.map fun v => toIeee fm .even v.1
    { codes := out.map (·.1), scale := sc, sat := false, inv := false, flags := out.foldl (fun a x => a.or x.2) fl }
  else
    let out := vs.map fun v => match v.1 with
      | .fin neg m e => vendorFin (vfmt f) neg m (if isScaled then e + 127 - (sc : Int) else e)
      | x => (specialCode f x, false)
    let inv := vs.any fun v => !v.1.isFin
    let sat := out.any (·.2)
    if inv && needsScale f then { codes := out.map fun _ => 0, scale := 0xFF, sat := sat, inv := true, flags := fl }
    else { codes := out.map (·.1), scale := sc, sat := sat, inv := inv, flags := fl }

/-- Counts of a delivery: saturated groups with the first, invalid groups with the first, groups at the carried limit, carried codes
unset. -/
structure Counts where
  sat : List Nat := []
  inv : List Nat := []
  limit : List Nat := []
  unset : List Nat := []

/-- Payload of an event that gives a count and a first index (R502). -/
def countPayload (n first : Nat) : Nat := min n (2 ^ 32 - 1) + ((first % 2 ^ 64) <<< 64)

/-- Raise an event at the operation's end. -/
def report (code payload : Nat) : Op Unit := modify fun r => { r with events := r.events ++ [(code, payload)] }

/-- Note what a conversion did to one carried code; the CONE resolves the notes of a step (R107). -/
def noteCarried (addr kind code : Nat) : Op Unit := do
  let pos ← opPos
  let c ← opCtx
  onS fun s => s.modCtx c fun x => { x with carried := x.carried ++ [{ addr := addr, kind := kind, pos := pos, code := code }] }

/-- Write runs of codes of one row: each maximal run of unmasked columns is written, nothing else (R71). -/
def writeRow (f addr : Nat) (row : List (Option Nat)) : Op Unit := do
  let n := row.length
  let starts := (List.range n).filter fun i => (row.getD i none).isSome && (i == 0 || (row.getD (i - 1) none).isNone)
  starts.forM fun i => do
    let run := (row.drop i).takeWhile (·.isSome)
    wr (addr + i * fmtBits f / 8) (packRow f (run.filterMap id))

/-- Write flag pairs of groups; the other pairs of the bytes stay (R32). -/
def writeFlags (addr n : Nat) (pairs : List (Nat × Nat)) : Op Unit := do
  (List.range (ceilDiv n 4)).forM fun b => do
    let here := pairs.filter fun p => p.1 / 4 == b
    if here = [] then return ()
    let old ← if here.length = 4 then pure 0 else rdNat (addr + b) 1
    let new := here.foldl (fun acc p =>
      let sh := 2 * (p.1 % 4)
      acc - (bits acc sh 2 <<< sh) + (p.2 <<< sh)) old
    wrNat (addr + b) 1 new

/-- Deliver values into an F32 or F16 tensor: one IEEE rounding each (R23), masked elements unwritten. -/
def deliverIeee (t : Target) (src : Nat) (srcScaled : Bool) (vals : Array (Option Val)) (place : Nat → Op Unit) : Op Unit := do
  let fm := if t.fmt = 0 then fmtF32 else fmtF16
  let out := vals.map fun v => v.map fun v =>
    let (x, f1) := legValue src srcScaled t.fmt v
    let (y, f2) := toIeee fm .even x
    (y, f1.or f2)
  addFlags (out.foldl (fun a v => match v with
    | some v => a.or v.2
    | none => a) {})
  (List.range t.rows).forM fun r => do
    place r
    writeRow t.fmt (t.addr + r * rowBytes t.fmt t.cols) ((List.range t.cols).map fun c => ((out.getD (r * t.cols + c) none).map (·.1)))

/-- One group of a vendor delivery: its number, the indices of its elements, its conversion, the code used and the carried code. -/
structure GroupDone where
  num : Nat
  mem : List Nat
  out : GroupOut
  used : Nat
  was : Nat

/-- Convert one group of a delivery; nothing when it is masked (R44 to R47, R71). -/
def deliverGroup (t : Target) (src : Nat) (srcScaled : Bool) (vals : Array (Option Val)) (place : Nat → Op Unit) (g : Nat) :
    Op (Option GroupDone) := do
  let mem := t.members g
  if mem.any fun i => (vals.getD i none).isNone then return none
  let vs := mem.map fun i => legValue src srcScaled t.fmt ((vals.getD i none).getD (.nan false))
  place (t.rowOf g)
  let c0 ← if t.mode = 2 then (do return ofLeBytes (← rdAsFired (t.carried + g) 1)) else pure 0x7F
  let sc := if t.mode = 1 then presentScale t.fmt (vs.map (·.1)) else if c0 = 0xFF then 0x7F else c0
  return some { num := g, mem := mem, out := convertGroup t.fmt sc (t.group != 0) vs, used := sc, was := c0 }

/-- Deliver values into a vendor format, with scales, flags and carried codes. Elements and scales go to the place of their row; a flag array in
the resident area stands whole on the kiln of row 0 (DESIGN CHOICE, log entry 105). -/
def deliverVendor (t : Target) (src : Nat) (srcScaled : Bool) (vals : Array (Option Val)) (place : Nat → Op Unit) : Op Counts := do
  let again ← isRecompute
  let done := (← (List.range t.groups).mapM (deliverGroup t src srcScaled vals place)).filterMap id
  let codes := done.foldl (fun (a : Array (Option Nat)) p =>
    (p.mem.zip p.out.codes).foldl (fun a x => a.setIfInBounds x.1 (some x.2)) a) (Array.replicate vals.size none)
  (List.range t.rows).forM fun r => do
    place r
    writeRow t.fmt (t.addr + r * rowBytes t.fmt t.cols) ((List.range t.cols).map fun c => codes.getD (r * t.cols + c) none)
  addFlags (done.foldl (fun a p => a.or p.out.flags) {})
  if t.group ≠ 0 then
    done.forM fun p => do
      place (t.rowOf p.num)
      wrNat (t.scale + p.num) 1 p.out.scale
  if t.flag ≠ 0 then
    place 0
    writeFlags t.flag t.groups (done.map fun p => (p.num, (if p.out.sat then 1 else 0) + (if p.out.inv then 2 else 0)))
  if again then return {}
  if t.mode = 2 then
    done.forM fun p => noteCarried (t.carried + p.num) (if p.out.sat then 1 else 0) 0
  if t.mode = 1 ∧ t.carried ≠ 0 then
    done.forM fun p => if p.out.scale = 0xFF then return () else noteCarried (t.carried + p.num) 2 p.out.scale
  let ix (q : GroupDone → Bool) : List Nat := (done.filter q).map (·.num)
  let c : Counts :=
    { sat := ix fun p => p.out.sat, inv := ix fun p => p.out.inv,
      limit := ix fun p => t.mode == 2 && p.out.sat && p.was == 0xFE,
      unset := ix fun p => t.mode == 2 && p.was == 0xFF }
  modify fun r => { r with sat := r.sat + c.sat.length, inv := r.inv + c.inv.length }
  return c

/-- Deliver values, row by row, into a tensor: `none` is a masked element. `place` selects the kiln that writes a row. A recomputation
reports no counts and leaves carried codes alone (R96). -/
def deliver (t : Target) (src : Nat) (srcScaled : Bool) (vals : Array (Option Val)) (place : Nat → Op Unit) : Op Counts := do
  if vals.all (·.isSome) then
    declareWhole t.addr (t.rows * rowBytes t.fmt t.cols)
    if t.group ≠ 0 then declareWhole t.scale t.groups
    if t.flag ≠ 0 then declareWhole t.flag (t.groups / 4)
  if isVendor t.fmt then deliverVendor t src srcScaled vals place
  else
    deliverIeee t src srcScaled vals place
    return {}

/-- The numerics events of a delivery (R49, R50, R502); `widen` lists the widening groups that saturated (R37). -/
def reportCounts (c : Counts) (widen : List Nat) : Op Unit := do
  if c.sat ≠ [] ∨ widen ≠ [] then
    report 0x0201 (min c.sat.length (2 ^ 32 - 1) + (min widen.length (2 ^ 32 - 1) <<< 32) + ((c.sat.headD 0 % 2 ^ 64) <<< 64) + ((widen.headD 0 % 2 ^ 64) <<< 128))
  if c.inv ≠ [] then report 0x0202 (countPayload c.inv.length (c.inv.headD 0))
  if c.limit ≠ [] then report 0x0206 (countPayload c.limit.length (c.limit.headD 0))
  if c.unset ≠ [] then report 0x0207 (countPayload c.unset.length (c.unset.headD 0))

/-! ### Reading tensors -/

/-- Codes of `rows` rows of `cols` elements, dense from an address (R91). -/
def rdTensor (f addr rows cols : Nat) : Op (Array Nat) := do
  let rb := rowBytes f cols
  let bs ← rd addr (rows * rb)
  return ((List.range rows).flatMap fun r => unpackRow f cols ((bs.drop (r * rb)).take rb)).toArray

/-- Scale codes of a tensor. -/
def rdScales (addr n : Nat) : Op (Array Nat) := do return ((← rd addr n).map BitVec.toNat).toArray

end Sys2Proof.Machine
end

