-- ==== Sys2Proof/Machine/Products.lean ====
section
/-! DEFINITION. Wheel products (R53 to R74, R91, R92, R128, R129) and the partial sum (R68, R71). -/

namespace Sys2Proof.Machine

open Sys2Proof.Flt

/-! ### The recipe of one element (R54 to R60, R128) -/

/-- An element under way: its F32 total, the flags, whether an accumulator run of finite dots has overflowed (R58). -/
structure Acc where
  total : Nat
  flags : Flags := {}
  excess : Bool := false

/-- An exact sum of zero is +0 (R54). -/
def plusZero (v : Val) : Val := if v.isZero then .fin false 0 0 else v

/-- An exact sum of two terms with the flags so far. -/
def joinTerms (x y : Val × Flags) : Val × Flags :=
  let (v, f) := addVal .even x.1 y.1
  (v, (x.2.or y.2).or f)

/-- The exact dot of a cycle (R54): the p products of positions `k` on, +0 from `len` on, and their pairwise-tree sum. -/
def dot (a b : Nat → Val) (len k p : Nat) : Val × Flags :=
  let term (u : Nat) : Val × Flags := if k + u < len then mulVal (a (k + u)) (b (k + u)) else (.fin false 0 0, {})
  let s := match p with
    | 1 => term 0
    | 2 => joinTerms (term 0) (term 1)
    | _ => joinTerms (joinTerms (term 0) (term 1)) (joinTerms (term 2) (term 3))
  (plusZero s.1, s.2)

/-- One run of `m` dots from position `k` in an accumulator rounded by `rnd` (R55): the value, the flags, the overflow of finite
dots, which counts for 0x0208 (R58) also where a later dot of the run is infinite or a NaN (DESIGN CHOICE, log entry 106). -/
def runAcc (rnd : Val → Val) (a b : Nat → Val) (len k p m : Nat) : Val × Flags × Bool :=
  (List.range m).foldl (fun (acc : Val × Flags × Bool) t =>
    let (d, f1) := dot a b len (k + p * t) p
    let (x, f2) := addVal .even acc.1 d
    let y := rnd x
    (y, (acc.2.1.or f1).or f2, acc.2.2 || (acc.1.isFin && d.isFin && !y.isFin))) (.fin false 0 0, {}, false)

/-- Promote a run into an F32 total (R56). -/
def promote (x : Acc) (run : Val × Flags × Bool) (sa sb : Nat) : Acc :=
  let v := scaled sa (scaled sb run.1)
  let (t, f) := finish fmtF32 .even (addVal .even (decode fmtF32 x.total) v)
  { total := t, flags := (x.flags.or run.2.1).or f, excess := x.excess || run.2.2 }

/-- Products per cycle of a pair of formats (R35, R51). -/
def perCycle (fa fb : Nat) : Nat :=
  if fa = 1 ∨ fa = 2 ∨ fb = 1 ∨ fb = 2 then 1 else if fa = 7 ∧ fb = 7 then 4 else 2

/-- The sum of two F32 totals and their flags (R60, the final A + B). -/
def joinAcc (x y : Acc) : Acc :=
  let (t, f) := f32Add x.total y.total
  { total := t, flags := (x.flags.or y.flags).or f, excess := x.excess || y.excess }

/-- element_S, element_T_or_W (R60) and element_heritage (R128): operand values by reduction position, scale codes by product group. -/
def element (heritage : Bool) (shape len p c : Nat) (a b : Nat → Val) (sa sb : Nat → Nat) : Acc :=
  if heritage then
    let parts := (List.range (ceilDiv len 16)).foldl (fun (ps : List Acc) g =>
      ps.modify (g % 4) fun x => promote x (runAcc roundA24 a b len (16 * g) p (16 / p)) (sa (g / 2)) (sb (g / 2)))
      [{ total := c }, { total := 0 }, { total := 0 }, { total := 0 }]
    let at_ (i : Nat) := parts.getD i { total := 0 }
    joinAcc (joinAcc (at_ 0) (at_ 1)) (joinAcc (at_ 2) (at_ 3))
  else
    let one (x : Acc) (g : Nat) : Acc := promote x (runAcc roundA20 a b len (32 * g) p (32 / p)) (sa g) (sb g)
    let gs := List.range (ceilDiv len 32)
    if shape = 0 then gs.foldl one { total := c }
    else
      joinAcc ((gs.filter fun g => g % 2 == 0).foldl one { total := c }) ((gs.filter fun g => g % 2 == 1).foldl one { total := 0 })

/-- The exact F32 of a B16 or F16 element; a signalling NaN stays signalling (R25). -/
def widenF32 (v : Val) : Nat :=
  match v with
  | .nan true => 0x7F800001
  | v => (toIeee fmtF32 .even v).1

/-! ### The descriptor (R91) -/

/-- The parameters of a PRODUCT. -/
structure Prod where
  m : Nat
  n : Nat
  k : Nat
  w : Nat
  a : Nat
  aScale : Nat
  b : Nat
  bAux : Nat
  c : Nat
  y : Nat
  yScale : Nat
  yFlag : Nat
  carried : Nat
  mask : Nat

/-- A field of the format word. -/
def Prod.f (p : Prod) (lo n : Nat) : Nat := bits p.w lo n

/-- Read the body of R91. -/
def prodOf (d : Desc) : Prod :=
  { m := d.field 24 4, n := d.field 28 4, k := d.field 32 4, w := d.field 40 8, a := d.field 48 8, aScale := d.field 56 8,
    b := d.field 64 8, bAux := d.field 72 8, c := d.field 80 8, y := d.field 88 8, yScale := d.field 96 8, yFlag := d.field 104 8,
    carried := d.field 112 8, mask := d.field 120 8 }

/-- Whether an operand of short format lacks its scale array (R33). -/
def lacksScale (f g addr : Nat) : Bool := needsScale f && (g == 0 || addr == 0)

/-- Steps 1 to 6 of R92. Of an F6 or F4 result that lacks its group or its scale mode step 1 does not judge y_scale_addr: R91 gives that
combination event 0x0205. -/
def checkProduct (p : Prod) : Op Unit := do
  let fa := p.f 0 4
  let fb := p.f 4 4
  let fy := p.f 8 4
  let ga := p.f 12 2
  let gb := p.f 14 2
  let gy := p.f 16 2
  let mode := p.f 23 2
  let widen := p.f 32 2
  let yAxis := p.f 22 1
  needZero 36 4
  need (bits p.w 34 30 = 0) 40 34
  need (1 ≤ p.m ∧ p.m ≤ 2 ^ 31) 24
  need (1 ≤ p.n ∧ p.n ≤ 2 ^ 31) 28
  need (1 ≤ fa ∧ fa ≤ 7) 40
  need ((1 ≤ fb ∧ fb ≤ 7 ∧ widen = 0) ∨ (fb = 8 ∧ widen ≠ 0) ∨ (fb = 9 ∧ widen = 3)) 40 4
  need (fy ≤ 7) 40 8
  need (isShort fa ∨ ga = 0) 40 12
  need (isShort fb ∨ (widen ≠ 0 ∧ gb ≠ 0) ∨ (widen = 0 ∧ gb = 0)) 40 14
  need (mode ≠ 3) 40 23
  if fy ≤ 2 then
    need (gy = 0) 40 16
    need (mode = 0) 40 23
    need (yAxis = 0) 40 22
  else if fy ≤ 4 then
    need ((gy = 0 ∧ mode = 0 ∧ yAxis = 0) ∨ (gy ≠ 0 ∧ mode ≠ 0)) 40 16
  else pure ()
  if mode = 2 then need (p.carried ≠ 0) 112
  if mode = 0 then need (p.carried = 0) 112
  if p.carried ≠ 0 then checkAddr p.carried 112 { scratch := false, resident := false }
  checkAddr p.a 48
  if ga ≠ 0 ∧ ¬ needsScale fa then need (p.aScale ≠ 0) 56
  let _ ← useAddr (decide (ga ≠ 0)) 56
  checkAddr p.b 64
  if gb ≠ 0 ∧ ¬ needsScale fb then need (p.bAux ≠ 0) 72
  let _ ← useAddr (decide (gb ≠ 0)) 72
  let _ ← useAddr (decide (p.f 27 2 ≠ 0)) 80
  checkAddr p.y 88
  let lacks := needsScale fy && (gy == 0 || mode == 0)
  if !lacks then
    if gy ≠ 0 then need (p.yScale ≠ 0) 96
    let _ ← useAddr (decide (gy ≠ 0)) 96
  if p.yFlag ≠ 0 then
    need (isVendor fy) 104
    checkAddr p.yFlag 104
  let _ ← useAddr (decide (p.f 30 2 ≠ 0)) 120
  needEv (p.f 25 2 ≠ 3 ∧ p.f 30 2 ≠ 3 ∧ (p.f 30 2 = 0 ∨ p.f 29 1 = 1)) 0x020A
  let heritage := (← getS).heritage (← opCtx)
  needEv (!heritage || (!needsScale fa && !(needsScale fb) && p.f 25 2 == 0)) 0x020D
  needEv (1 ≤ p.k ∧ p.k ≤ 131072) 0x0209
  needEv (!(lacksScale fa ga p.aScale) && !(lacksScale fb gb p.bAux) && !lacks) 0x0205
  needEv ((ga = 0 ∨ p.f 20 1 = p.f 18 1) ∧ (gb = 0 ∨ p.f 21 1 ≠ p.f 19 1)) 0x0204

/-- The result tensor of a product. -/
def Prod.target (p : Prod) : Target :=
  { fmt := p.f 8 4, group := if p.f 16 2 = 0 then 0 else groupLen (p.f 16 2), outer := p.f 22 1 = 1, mode := p.f 23 2, rows := p.m,
    cols := p.n, addr := p.y, scale := p.yScale, flag := p.yFlag, carried := p.carried }

/-- Whether a mask of R70 computes element (r, c); `kind` 0 none, 1 row mask, 2 block mask. -/
def maskBit (kind n : Nat) (mask : Array Byte) (r c : Nat) : Bool :=
  let at_ (i : Nat) : Bool := (mask.getD (i / 8) 0).getLsbD (i % 8)
  if kind = 1 then at_ r else if kind = 2 then at_ (r / 32 * ceilDiv n 32 + c / 32) else true

/-- Read a mask (R70). -/
def rdMask (kind m n addr : Nat) : Op (Array Byte) := do
  if kind = 1 then return (← rd addr (ceilDiv m 8)).toArray
  else if kind = 2 then return (← rd addr (ceilDiv (ceilDiv m 32 * ceilDiv n 32) 8)).toArray
  else return #[]

/-- Whether a mask splits a scale or flag group (R71). -/
def Target.splits (t : Target) (mask : Nat → Nat → Bool) : Bool :=
  let split (t : Target) := (List.range t.groups).any fun g =>
    let ms := (t.members g).map fun i => mask (i / t.cols) (i % t.cols)
    ms.any id && !ms.all id
  isVendor t.fmt && split t

/-- A matrix element's position in its tensor: `rows` by `cols` logical, stored transposed or not. -/
def posIn (transposed : Bool) (rows cols i j : Nat) : Nat := if transposed then j * rows + i else i * cols + j

/-- A widened operand: values by position, the widening groups that saturated (R37), the groups with an invalid entry or scale. -/
structure Widened where
  vals : Array Val
  sat : List Nat := []
  bad : List Nat := []

/-- Widen B (R36, R37): value of element (k, j) from its code and the group's table or record. -/
def widenB (fb widen group k n : Nat) (code : Nat → Nat → Nat) (aux : Array Byte) (live : Nat → Bool) : Widened :=
  let per := ceilDiv k group
  let byte (i : Nat) : Nat := (aux.getD i 0).toNat
  let one (j kk : Nat) : Val × Bool × Bool :=
    let g := j * per + kk / group
    let q := code kk j
    if widen = 1 then
      let v := decodeElem 3 (byte (16 * g + q))
      (v, false, v.isNan)
    else if widen = 2 then
      let o := 32 * g + 2 * q
      let v := decodeElem 2 (byte o + 256 * byte (o + 1))
      (v, false, v.isNan)
    else
      let sv := decodeElem 2 (byte (4 * g) + 256 * byte (4 * g + 1))
      let z := (BitVec.ofNat 8 (byte (4 * g + 2))).toInt
      let qi : Int := if fb = 8 then (BitVec.ofNat 4 q).toInt else (BitVec.ofNat 8 q).toInt
      let x := qi - z
      match sv with
      | .fin neg m e =>
        let (c, sat) := vendorFin vB16 (neg != decide (x < 0)) (m * x.natAbs) e
        (decodeElem 2 c, sat, false)
      | _ => (.nan false, false, true)
  let cols := (List.range n).map fun j => (List.range k).map fun kk => (j, kk, one j kk)
  let liveCols := (cols.flatten.filter fun x => live x.1)
  let gs (f : Val × Bool × Bool → Bool) : List Nat :=
    ((liveCols.filter fun x => f x.2.2).map fun x => x.1 * per + x.2.1 / group).eraseDups
  let entries := if widen = 3 then gs (fun v => v.2.2) else
    (((liveCols.filter fun x => x.2.2.2.2).map fun x => ((x.1 * per + x.2.1 / group), code x.2.1 x.1)).eraseDups).map (·.1)
  { vals := (cols.flatten.map fun x => x.2.2.1).toArray, sat := gs (fun v => v.2.1), bad := entries }

/-- A kiln's share of a product: the elements of its tiles, the invalid groups it read (R49), saturated widening groups. -/
structure Share where
  rows : List (Nat × Nat × Acc) := []
  badBlocks : List Nat := []
  badAux : List Nat := []
  sat : List Nat := []

/-- Shares one after the other. -/
def Share.append (x y : Share) : Share :=
  { rows := x.rows ++ y.rows, badBlocks := x.badBlocks ++ y.badBlocks, badAux := x.badAux ++ y.badAux, sat := x.sat ++ y.sat }

/-- Height and width of a tile (R53). -/
def Prod.tile (p : Prod) : Nat × Nat := if p.f 25 2 = 1 then (256, 64) else if p.f 25 2 = 2 then (64, 256) else (128, 128)

/-- The rows of each tile row (R78): under a row mask the operand loader packs the unmasked rows densely (R72). -/
def Prod.tileRows (p : Prod) (mask : Nat → Nat → Bool) : List (List Nat) :=
  let rows := if p.f 30 2 = 1 then (List.range p.m).filter fun r => mask r 0 else List.range p.m
  let h := p.tile.1
  (List.range (ceilDiv rows.length h)).map fun t => (rows.drop (t * h)).take h

/-- The tile row that holds a row; 0 for a row in none. -/
def tileRowOf (ts : List (List Nat)) (r : Nat) : Nat := (ts.findIdx? fun t => t.contains r).getD 0

/-- A read made `n` times, once at least; the last one counts. -/
def readAgain {α : Type} (rd_ : Op α) : Nat → Op α
  | 0 => rd_
  | n + 1 => do
    let _ ← rd_
    readAgain rd_ n

/-- How often a panel of `bytes` is read (R78): once when it fits in half of the staging area, else once for each of `n`. -/
def panelReads (s : State) (c bytes n : Nat) : Nat := if 2 * bytes ≤ 0x780000 - s.residentSize c then 0 else n - 1

/-- The A panel of some rows: their codes and scale codes, by the row's place in the list. -/
def rdPanelA (p : Prod) (rs : List Nat) : Op (Array Nat × Array Nat) := do
  let fa := p.f 0 4
  let per := ceilDiv p.k (groupLen (p.f 12 2))
  let codes ← if p.f 18 1 = 1 then (do
      let lo := rs.headD 0
      let n := (rs.getLastD 0) + 1
      let rb := rowBytes fa p.m
      let first := fmtBits fa * lo / 24 * 3
      let cols ← (List.range p.k).mapM fun kk => do
        let bs ← rd (p.a + kk * rb + first) (rowBytes fa n - first)
        return (unpackRow fa n (List.replicate first 0 ++ bs)).toArray
      let cols := cols.toArray
      return (rs.flatMap fun r => (List.range p.k).map fun kk => (cols.getD kk #[]).getD r 0).toArray)
    else (do
      let rb := rowBytes fa p.k
      return (← rs.mapM fun r => do return unpackRow fa p.k (← rd (p.a + r * rb) rb)).flatten.toArray)
  let sc ← if p.f 12 2 = 0 then pure [] else rs.mapM fun r => do return (← rd (p.aScale + r * per) per).map BitVec.toNat
  return (codes, sc.flatten.toArray)

/-- The B operand: its codes, and its scales, tables or records. -/
def rdPanelB (p : Prod) : Op (Array Nat × Array Byte) := do
  let fb := p.f 4 4
  let codes ← if p.f 19 1 = 1 then rdTensor fb p.b p.n p.k else rdTensor fb p.b p.k p.n
  let widen := p.f 32 2
  let n := p.n * ceilDiv p.k (groupLen (p.f 14 2)) * (if widen = 0 then 1 else if widen = 1 then 16 else if widen = 2 then 32 else 4)
  let aux ← if p.f 14 2 = 0 then pure [] else rd p.bAux n
  return (codes, aux.toArray)

/-- Whether a tile row reaches a column tile: under a block mask a tile whose blocks are all masked is skipped (R72). -/
def tileLive (p : Prod) (mask : Nat → Nat → Bool) (rs : List Nat) (ct : Nat) : Bool :=
  let w := p.tile.2
  (List.range w).any fun x => decide (ct * w + x < p.n) && rs.any fun r => mask r (ct * w + x)

/-- One tile row on the kiln at work (R54 to R60, R78): panels read, initial tiles read, every unmasked element formed. `b` gives the B
panel, or none when it must be read for this tile row. -/
def tileRow (p : Prod) (mask : Nat → Nat → Bool) (rs : List Nat) (b : Option (Array Nat × Array Byte)) : Op Share := do
  let cts := ceilDiv p.n p.tile.2
  let lives := (List.range cts).filter (tileLive p mask rs)
  if lives = [] then return {}
  let s ← getS
  let c ← opCtx
  let fa := p.f 0 4
  let fb := p.f 4 4
  let gla := groupLen (p.f 12 2)
  let glb := groupLen (p.f 14 2)
  let pa := ceilDiv p.k gla
  let pb := ceilDiv p.k glb
  let panelBytes := rs.length * (rowBytes fa p.k + if p.f 12 2 = 0 then 0 else pa)
  let (ac, asc) ← readAgain (rdPanelA p rs) (panelReads s c panelBytes lives.length)
  let (bc, aux) ← match b with
    | some x => pure x
    | none => rdPanelB p
  let init := p.f 27 2
  let ci := if init = 1 then 0 else if init = 2 then 2 else 1
  let w := p.tile.2
  let es := fmtBits ci / 8
  let cs ← if init = 0 then pure [] else rs.mapM fun r => do
    return (← lives.mapM fun ct => do
      let n := min w (p.n - ct * w)
      return (unpackRow ci n (← rd (p.c + (r * p.n + ct * w) * es) (n * es))).mapIdx fun i x => (ct * w + i, x)).flatten
  let cs := cs.toArray
  let widen := p.f 32 2
  let bCode (k c : Nat) : Nat := bc.getD (posIn (p.f 19 1 == 1) p.k p.n k c) 0
  let live (c : Nat) : Bool := rs.any fun r => mask r c
  let wb : Widened := if widen = 0 then { vals := #[] } else widenB fb widen glb p.k p.n bCode aux live
  let auxA := aux.map BitVec.toNat
  let aSc (i g : Nat) : Nat := if p.f 12 2 = 0 then 0x7F else asc.getD (i * pa + 32 * g / gla) 0x7F
  let bSc (c g : Nat) : Nat := if widen ≠ 0 ∨ p.f 14 2 = 0 then 0x7F else auxA.getD (c * pb + 32 * g / glb) 0x7F
  let aVal (i k : Nat) : Val := if aSc i (k / 32) = 0xFF then .nan false else decodeElem fa (ac.getD (i * p.k + k) 0)
  let bVal (c k : Nat) : Val :=
    if widen ≠ 0 then wb.vals.getD (c * p.k + k) (.nan false)
    else if bSc c (k / 32) = 0xFF then .nan false else decodeElem fb (bCode k c)
  let heritage := s.heritage c
  let pc := perCycle fa (if widen = 0 then fb else if widen = 1 then 3 else 2)
  let c0 (i c : Nat) : Nat :=
    let x := (alook c (cs.getD i [])).getD 0
    if init = 0 then 0 else if init = 1 then x else widenF32 (decodeElem ci x)
  let cells := (rs.zipIdx).flatMap fun (r, i) => (List.range p.n).filterMap fun c =>
    if mask r c then
      some (r, c, element heritage (p.f 25 2) p.k pc (c0 i c) (aVal i) (bVal c) (aSc i) (bSc c))
    else none
  let badA := if p.f 12 2 = 0 then [] else ((rs.zipIdx).filter fun (r, _) => (List.range p.n).any fun c => mask r c).flatMap fun (r, i) =>
    (List.range pa).filterMap fun g => if asc.getD (i * pa + g) 0 = 0xFF then some (r * pa + g) else none
  let badB := if widen ≠ 0 ∨ p.f 14 2 = 0 then [] else ((List.range p.n).filter live).flatMap fun c =>
    (List.range pb).filterMap fun g => if auxA.getD (c * pb + g) 0 = 0xFF then some (2 ^ 63 + c * pb + g) else none
  let k := (← get).kiln
  onS fun s => s.useSaggars k
  return { rows := cells, badBlocks := badA ++ badB, badAux := wb.bad, sat := wb.sat }

/-- The share of the i-th kiln of the range: tile row r goes to kiln r mod count, and each kiln reads B once when it fits in half of its
staging area, else once per tile row (R78). What a PRODUCT leaves in the staging bytes shows nowhere: only a VECTOR's blocks read them as open
(R52; DESIGN CHOICE, log entry 83). -/
def shareOf (p : Prod) (mask : Nat → Nat → Bool) (ts : List (List Nat)) (i count : Nat) : Op Share := do
  onKiln i
  let mine := (ts.zipIdx.filter fun t => t.2 % count == i && (List.range (ceilDiv p.n p.tile.2)).any (tileLive p mask t.1)).map (·.1)
  if mine = [] then return {}
  let s ← getS
  let c ← opCtx
  let widen := p.f 32 2
  let auxBytes := if p.f 14 2 = 0 then 0 else
    p.n * ceilDiv p.k (groupLen (p.f 14 2)) * (if widen = 0 then 1 else if widen = 1 then 16 else if widen = 2 then 32 else 4)
  let bBytes := (if p.f 19 1 = 1 then p.n * rowBytes (p.f 4 4) p.k else p.k * rowBytes (p.f 4 4) p.n) + auxBytes
  let b ← if panelReads s c bBytes 2 = 0 then some <$> rdPanelB p else pure none
  return (← mine.mapM fun rs => tileRow p mask rs b).foldl Share.append {}

/-- The body of a PRODUCT (R53 to R74, R78, R91, R92). The count of 0x0203 is of distinct blocks, tables and records; its first index is
the lowest, of A's blocks where there is one, else of B's (R49 does not say of which operand: DESIGN CHOICE, log entry 61). A resident mask
is that of the first kiln of the range (R70; DESIGN CHOICE, log entry 105). -/
def productBody : Op Unit := do
  let p := prodOf (← get).d
  checkProduct p
  let (_, count) ← kilnRange
  let kind := p.f 30 2
  onKiln 0
  let bytes ← rdMask kind p.m p.n p.mask
  let mask := maskBit kind p.n bytes
  needEv (!(decide (kind ≠ 0) && p.target.splits mask)) 0x020A
  let ts := p.tileRows mask
  let all := (← (List.range count).mapM fun i => shareOf p mask ts i count).foldl Share.append {}
  let vals := all.rows.foldl (fun (a : Array (Option Val)) x => a.setIfInBounds (x.1 * p.n + x.2.1) (some (decode fmtF32 x.2.2.total)))
    (Array.replicate (p.m * p.n) none)
  addFlags (all.rows.foldl (fun f x => f.or x.2.2.flags) {})
  let counts ← deliver p.target 0 false vals (fun r => onKiln (tileRowOf ts r % count))
  let again ← isRecompute
  let sat := if again then [] else sortBy (fun a b => decide (a ≤ b)) all.sat.eraseDups
  modify fun r => { r with own := [sat.length] }
  let blocks := sortBy (fun a b => decide (a ≤ b)) all.badBlocks.eraseDups
  let aux := sortBy (fun a b => decide (a ≤ b)) all.badAux.eraseDups
  if blocks ≠ [] ∨ aux ≠ [] then
    let kinds := (if blocks ≠ [] then 1 else 0) + (if aux = [] then 0 else if p.f 32 2 = 3 then 4 else 2)
    let first := (blocks ++ aux).headD 0 % 2 ^ 63
    report 0x0203 (min (blocks.length + aux.length) (2 ^ 32 - 1) + (kinds <<< 32) + ((first % 2 ^ 64) <<< 64))
  let past := all.rows.filterMap fun x => if x.2.2.excess then some (x.1 * p.n + x.2.1) else none
  if past ≠ [] then report 0x0208 (countPayload past.length (past.foldl min (past.headD 0)))
  reportCounts counts sat

/-- PRODUCT (R53 to R74, R91, R92). -/
def execProduct (a : OpArg) (s : State) : Result := opCmd a s 0x10 productBody

/-- The body of a PARTIAL_SUM (R68, R71): count inputs of one shape, one after the other `stride` bytes apart, over the fixed pairwise
tree; masked elements are not written. The body's layout is the model's (log entry 20); the first kiln of the range adds, and resident
inputs, mask and result are its own (DESIGN CHOICE, log entry 105). -/
def partialSumBody : Op Unit := do
  let count ← fld 24 4
  let kind ← fld 28 4
  let m ← fld 32 4
  let n ← fld 36 4
  let src ← fld 40 8
  let stride ← fld 48 8
  let dst ← fld 56 8
  need (2 ≤ count ∧ count ≤ 1024) 24
  need (kind ≤ 2) 28
  need (1 ≤ m ∧ m ≤ 2 ^ 31) 32
  need (1 ≤ n ∧ n ≤ 2 ^ 31) 36
  checkAddr src 40
  checkAddr dst 56
  let maskAddr ← useAddr (decide (kind ≠ 0)) 64
  needZero 72 56
  onKiln 0
  let bytes ← rdMask kind m n maskAddr
  let ins ← (List.range count).mapM fun q => rdTensor 0 (src + q * stride) m n
  let out := (List.range (m * n)).map fun i =>
    if maskBit kind n bytes (i / n) (i % n) then some (treeSum (ins.map fun t => t.getD i 0)) else none
  addFlags (out.foldl (fun f x => match x with
    | some v => f.or v.2
    | none => f) {})
  if kind = 0 then declareWhole dst (m * n * 4)
  (List.range m).forM fun r => writeRow 0 (dst + r * n * 4) (((out.drop (r * n)).take n).map fun x => x.map (·.1))

/-- PARTIAL_SUM (R68). -/
def execPartialSum (a : OpArg) (s : State) : Result := opCmd a s 0x11 partialSumBody

end Sys2Proof.Machine
end

