-- ==== Sys2Proof/Machine/Moves.lean ====
section
/-! DEFINITION. COPY, FILL, RESIDENT_LOAD, RESIDENT_STORE (R89), CONVERT (R43 to R47) and AMAX (R108 to R114). The spec lays out no
body for the first five: the layouts are the model's (log entry 20). -/

namespace Sys2Proof.Machine

open Sys2Proof.Flt

/-- Write bytes that the operation writes whole. -/
def wrWhole (a : Nat) (bs : List Byte) : Op Unit := do
  declareWhole a bs.length
  wr a bs

/-- Body of COPY: bytes at 24, source at 32, destination at 40; host addresses are accepted at both (R351). -/
def copyBody : Op Unit := do
  let n ← fld 24 8
  let src ← fld 32 8
  let dst ← fld 40 8
  need (n ≤ 2 ^ 45) 24
  checkAddr src 32 { resident := false, host := true }
  checkAddr dst 40 { resident := false, host := true }
  needZero 48 80
  declareWhole dst n
  wr dst (← rd src n)

/-- COPY (R89). -/
def execCopy (a : OpArg) (s : State) : Result := opCmd a s 0x02 copyBody

/-- `n` bytes of a repeated 64-bit pattern. -/
def repeated (pattern n : Nat) : List Byte := (List.range n).map fun i => BitVec.ofNat 8 (pattern >>> (8 * (i % 8)))

/-- Body of FILL: bytes at 24, pattern at 32, destination at 40. -/
def fillBody : Op Unit := do
  let n ← fld 24 8
  let pattern ← fld 32 8
  let dst ← fld 40 8
  need (n ≤ 2 ^ 45) 24
  checkAddr dst 40 { resident := false }
  needZero 48 80
  wrWhole dst (repeated pattern n)

/-- FILL (R89). -/
def execFill (a : OpArg) (s : State) : Result := opCmd a s 0x03 fillBody

/-- Body of RESIDENT_LOAD: bytes at 24, source at 32, resident address at 40; every kiln of the range takes a copy (R76, R77). -/
def residentLoadBody : Op Unit := do
  let n ← fld 24 8
  let src ← fld 32 8
  let dst ← fld 40 8
  need (n ≤ (← getS).residentSize (← opCtx)) 24
  checkAddr src 32 { resident := false }
  checkAddr dst 40 { state := false, scratch := false }
  need (bits dst 0 23 + n ≤ (← getS).residentSize (← opCtx)) 40
  needZero 48 80
  let (_, count) ← kilnRange
  let bs ← rd src n
  (List.range count).forM fun i => do
    onKiln i
    wr dst bs

/-- RESIDENT_LOAD (R76, R89). -/
def execResidentLoad (a : OpArg) (s : State) : Result := opCmd a s 0x04 residentLoadBody

/-- Body of RESIDENT_STORE: bytes at 24, resident address at 32, destination at 40; one kiln (R89). -/
def residentStoreBody : Op Unit := do
  let n ← fld 24 8
  let src ← fld 32 8
  let dst ← fld 40 8
  let (_, count) ← kilnRange
  need (count = 1) 16 22
  need (n ≤ (← getS).residentSize (← opCtx)) 24
  checkAddr src 32 { state := false, scratch := false }
  need (bits src 0 23 + n ≤ (← getS).residentSize (← opCtx)) 32
  checkAddr dst 40 { resident := false }
  needZero 48 80
  wrWhole dst (← rd src n)

/-- RESIDENT_STORE (R76, R89). -/
def execResidentStore (a : OpArg) (s : State) : Result := opCmd a s 0x05 residentStoreBody

/-- A source tensor as values: format, group in elements (0 unscaled), axis, extents as stored. -/
def rdValues (f group : Nat) (outer : Bool) (rows cols addr scaleAddr : Nat) : Op (Array Val) := do
  let codes ← rdTensor f addr rows cols
  let t : Target := { fmt := f, group := group, outer := outer, rows := rows, cols := cols, addr := addr }
  if group = 0 then return codes.map (decodeElem f)
  else
    let sc ← rdScales scaleAddr t.groups
    let val (i : Nat) (c : Nat) : Val :=
      let r := i / cols
      let k := i % cols
      let g := if outer then k * ceilDiv rows group + r / group else r * ceilDiv cols group + k / group
      scaled (sc.getD g 0x7F) (decodeElem f c)
    return codes.mapIdx val

/-- Body of CONVERT: m_len at 24, k_len at 28 (extents as stored), format word at 32 ([3:0] source, [7:4] destination format, [9:8]
source, [11:10] destination group, [12] source, [13] destination axis, [15:14] scale mode), source 40, its scales 48, destination 56,
scales 64, flags 72, carried codes 80. The flag runs of an unscaled destination lie along the innermost dimension (R32). A present-scale
conversion reads its source twice, for the amax and to convert (R105). -/
def convertBody : Op Unit := do
  let m ← fld 24 4
  let k ← fld 28 4
  let w ← fld 32 8
  let fs := bits w 0 4
  let fd := bits w 4 4
  let gs := bits w 8 2
  let gd := bits w 10 2
  let mode := bits w 14 2
  need (1 ≤ m ∧ m ≤ 2 ^ 31) 24
  need (1 ≤ k ∧ k ≤ 2 ^ 31) 28
  need (fs ≤ 7) 32
  need (fd ≤ 7) 32 4
  need (isShort fs ∨ gs = 0) 32 8
  need (isShort fd ∨ gd = 0) 32 10
  need (mode ≠ 3 ∧ (needsScale fd ∨ ((gd = 0 ∧ mode = 0) ∨ (gd ≠ 0 ∧ mode ≠ 0)))) 32 14
  need (bits w 16 48 = 0) 32 16
  checkAddr (← fld 40 8) 40
  let ss ← useAddr (decide (gs ≠ 0)) 48
  if gs ≠ 0 ∧ ¬ needsScale fs then need (ss ≠ 0) 48
  checkAddr (← fld 56 8) 56
  let ds ← useAddr (decide (gd ≠ 0)) 64
  if gd ≠ 0 then need (ds ≠ 0) 64
  let flag ← fld 72 8
  if flag ≠ 0 then
    need (isVendor fd) 72
    checkAddr flag 72
  let carried ← fld 80 8
  if mode = 2 then need (carried ≠ 0) 80
  if mode = 0 then need (carried = 0) 80
  if carried ≠ 0 then checkAddr carried 80 { scratch := false, resident := false }
  needZero 88 40
  needEv (!(lacksScale fs gs ss) && !(needsScale fd && (gd == 0 || mode == 0))) 0x0205
  onKiln 0
  let source : Op (Array Val) := do rdValues fs (if gs = 0 then 0 else groupLen gs) (w.testBit 12) m k (← fld 40 8) ss
  if mode = 1 then let _ ← source
  let vals ← source
  let t : Target := { fmt := fd, group := if gd = 0 then 0 else groupLen gd, outer := w.testBit 13 && gd != 0, mode := mode, rows := m, cols := k,
                      addr := ← fld 56 8, scale := ds, flag := flag, carried := carried }
  let counts ← deliver t fs (gs != 0) (vals.map some) (fun _ => onKiln 0)
  reportCounts counts []

/-- CONVERT (R43 to R47, R89). -/
def execConvert (a : OpArg) (s : State) : Result := opCmd a s 0x20 convertBody

/-- The amax of R109 as F32 bits; a signalling element raises invalid operation (R24). -/
def amaxBits (vs : List Val) : Nat × Flags :=
  if vs.any Val.isNan then (nanBits fmtF32, { nv := vs.any Val.isSnan })
  else if vs.any (fun v => !v.isFin) then (infBits fmtF32 false, {})
  else match amaxFin vs with
    | none => (0, {})
    | some (m, e) => roundFin fmtF32 .even false m e

/-- Update a watch record (R113). -/
def updateWatch (addr : Nat) (zero : Bool) : Op Unit := do
  if ← isRecompute then return ()
  let rec_ ← rd addr 16
  let threshold := numAt rec_ 0 2
  if threshold = 0 then return ()
  let step := (← getS).step (← opCtx)
  let run := numAt rec_ 4 4
  if numAt rec_ 8 8 ≠ step then
    wr (addr + 2) ([if zero then 1 else 0, rec_.getD 3 0] ++ leBytes 4 (if zero then min (run + 1) (2 ^ 32 - 1) else 0) ++ leBytes 8 step)
  else if numAt rec_ 2 1 ≠ 0 ∧ ¬ zero then
    wr (addr + 2) ([0, rec_.getD 3 0] ++ leBytes 4 0)
  let c ← opCtx
  onS fun s => s.modCtx c fun x => { x with watches := if x.watches.contains addr then x.watches else x.watches ++ [addr] }

/-- The body of an AMAX (R108 to R114, R131). -/
def amaxBody : Op Unit := do
  let m ← fld 24 4
  let k ← fld 28 4
  let w ← fld 32 8
  let f := bits w 0 4
  let gs := bits w 4 2
  let go := bits w 6 2
  let outer := w.testBit 8
  need (1 ≤ m ∧ m ≤ 2 ^ 31) 24
  need (1 ≤ k ∧ k ≤ 2 ^ 31) 28
  need (f ≤ 7) 32
  need (isShort f ∨ gs = 0) 32 4
  need (bits w 9 55 = 0) 32 9
  let src ← fld 40 8
  checkAddr src 40
  let ss ← useAddr (decide (gs ≠ 0)) 48
  if gs ≠ 0 ∧ ¬ needsScale f then need (ss ≠ 0) 48
  let out ← fld 56 8
  if go = 0 then need (out = 0) 56
  if out ≠ 0 then checkAddr out 56
  let total ← fld 64 8
  if total ≠ 0 then checkAddr total 64
  needZero 80 48
  needEv (!(lacksScale f gs ss)) 0x0205
  let watch ← fld 72 8
  if watch ≠ 0 then
    let s ← getS
    let c ← opCtx
    needEv (match formOf watch with
      | .state a => decide (a % 16 = 0) && (s.entryAddr c (a / 4096)).isSome
      | _ => false) 0x020E
  onKiln 0
  let vals ← rdValues f (if gs = 0 then 0 else groupLen gs) outer (if outer then k else m) (if outer then m else k) src ss
  if out ≠ 0 then
    let t : Target := { fmt := 0, group := groupLen go, outer := outer, rows := if outer then k else m, cols := if outer then m else k,
                        addr := out }
    let res := (List.range t.groups).map fun g => amaxBits ((t.members g).map fun i => vals.getD i (.nan false))
    addFlags (res.foldl (fun a x => a.or x.2) {})
    wrWhole out (res.flatMap fun x => leBytes 4 x.1)
  let (x, fl) := amaxBits vals.toList
  addFlags fl
  if total ≠ 0 then wrWhole total (leBytes 4 x)
  if watch ≠ 0 then updateWatch watch (x == 0)

/-- AMAX (R108 to R114). -/
def execAmax (a : OpArg) (s : State) : Result := opCmd a s 0x21 amaxBody

end Sys2Proof.Machine
end

