-- ==== Sys2Proof/Machine/CollOps.lean ====
section
/-! DEFINITION. What the collective commands share (R317 to R341): the descriptor and its checks, teams and trees, the leaf and the
hop of a reduction, rendezvous, lag, and the pass that carries a collective on as far as its packets allow. -/

namespace Sys2Proof.Machine

open Sys2Proof.Flt

/-! ### The descriptor (R321) -/

/-- The body of a collective (R321). -/
structure CollBody where
  op : Nat
  count : Nat
  flags : Nat
  epoch : Nat
  root : Nat
  tag : Nat
  first : Nat
  stride : Nat
  size : Nat
  src : Nat
  srcScale : Nat
  dst : Nat
  dstScale : Nat
  dstFlag : Nat
  residual : Nat
  carried : Nat
  list : Nat
  rowLen : Nat
  srcStride : Nat
  dstStride : Nat

/-- Read the body. -/
def collBody (d : Desc) : CollBody :=
  { op := opcodeOf d, count := d.field 24 4, flags := d.field 28 4, epoch := d.field 32 4, root := d.field 36 2, tag := d.field 38 1,
    first := d.field 40 2, stride := d.field 42 2, size := d.field 44 2, src := d.field 48 8, srcScale := d.field 56 8,
    dst := d.field 64 8, dstScale := d.field 72 8, dstFlag := d.field 80 8, residual := d.field 88 8, carried := d.field 96 8,
    list := d.field 104 8, rowLen := d.field 112 4, srcStride := d.field 116 4, dstStride := d.field 120 4 }

def CollBody.srcFmt (b : CollBody) : Nat := bits b.flags 0 4
def CollBody.wire (b : CollBody) : Nat := bits b.flags 4 4
def CollBody.dstFmt (b : CollBody) : Nat := bits b.flags 8 4
def CollBody.group (b : CollBody) : Nat := bits b.flags 12 2
def CollBody.mode (b : CollBody) : Nat := bits b.flags 14 2
/-- Elements of a scale group; 1 when unscaled, where no scale is read. -/
def CollBody.glen (b : CollBody) : Nat := if b.group = 0 then 1 else groupLen b.group
def CollBody.srcByRows (b : CollBody) : Nat := bits b.flags 16 1
def CollBody.dstByRows (b : CollBody) : Nat := bits b.flags 17 1
/-- Opcodes 0x40 and 0x41. -/
def CollBody.reduces (b : CollBody) : Bool := b.op == 0x40 || b.op == 0x41
/-- Opcodes 0x42 and 0x45. -/
def CollBody.gathers (b : CollBody) : Bool := b.op == 0x42 || b.op == 0x45
/-- F8 to B16 on arrival (R325). -/
def CollBody.widens (b : CollBody) : Bool := b.gathers && b.srcFmt == 3 && b.dstFmt == 2
/-- Scale bytes of one row of `count` elements. -/
def CollBody.scales (b : CollBody) : Nat := if b.group = 0 then 0 else ceilDiv b.count b.glen
/-- Stream bytes of one contribution: elements in the wire format, then their scales (log entry 20). -/
def CollBody.streamBytes (b : CollBody) : Nat := rowBytes b.wire b.count + b.scales

/-- Refuse with event 0x0545 when a requirement of R318, R321, R323, R324 or R327 on the field at byte `off` fails. -/
def need45 (ok : Bool) (off : Nat) : Op Unit := do
  if ok then return () else throw (.refuse 0x0545 (off + (((← opPos) % 2 ^ 64) <<< 64)))

/-- An address field: used and of an accepted form, or zero. -/
def collAddr (used optional : Bool) (a off : Nat) (acc : Accept := { resident := false }) : Op Unit := do
  if used then
    if optional && a == 0 then return ()
    checkAddr a off acc
  else need45 (a == 0) off

/-- The job ranks of the team in team-rank order, and this member's team rank (R318). -/
def collTeam (b : CollBody) : Op (List Nat × Nat) := do
  let s ← getS
  let c ← opCtx
  let n := s.members c
  let team := if b.size = 0 then List.range n else (List.range b.size).map fun i => b.first + i * b.stride
  need45 (!(decide (b.size > 1) && b.stride == 0)) 42
  need45 (team.all (· < n)) 40
  need45 (team.contains (s.rank c)) 40
  return (team, team.idxOf (s.rank c))

/-- The combinations of formats, group and scale mode (R323, R324, R325, R500): an EXCHANGE or PERMUTE moves bytes unchanged, so its three
formats are one, it has no leaf conversion, and a group needs a format that it applies to. -/
def collFormats (b : CollBody) : Op Unit := do
  let (f, w, t, g, m) := (b.srcFmt, b.wire, b.dstFmt, b.group, b.mode)
  need (f ≤ 9) 28 0
  need (w ≤ 9) 28 4
  need (t ≤ 9) 28 8
  need45 (m != 3) 28
  if b.reduces then
    if w = 0 then need45 (f == 0 && t == 0 && g == 0 && m == 0) 28
    else need45 (f == 0 && w == 4 && (t == 4 || t == 0) && g != 0 && m != 0) 28
  else if b.gathers then
    need45 (m == 0 && w == f && f ≤ 4 && (t == f || (f == 3 && t == 2)) && (g == 0 || f == 3 || f == 4)) 28
  else need45 (m == 0 && w == f && t == f && (g == 0 || f == 3 || f == 4)) 28

/-- Every check of a collective's descriptor but the epoch (R318, R321 to R324); its team and its team rank. -/
def collCheck (b : CollBody) : Op (List Nat × Nat) := do
  need45 ((← fld 39 1) == 0) 39
  need45 ((← fld 46 2) == 0) 46
  need45 ((← fld 124 4) == 0) 124
  need45 (b.flags < 2 ^ 19) 28
  collFormats b
  let (team, me) ← collTeam b
  let root := b.op == 0x45
  let isRoot := root && me == b.root
  need45 (!(root || b.op == 0x40) || decide (b.root < team.length)) 36
  let g8 := b.reduces && b.wire == 4
  let st : Accept := { scratch := false, resident := false }
  if b.op = 0x44 then
    need45 (decide (1 ≤ b.count ∧ b.count ≤ 65536)) 24
    collAddr true false b.list 104
    collAddr false false b.src 48
    collAddr false false b.dst 64
  else
    collAddr false false b.list 104
    collAddr (!root || isRoot || b.src != 0) false b.src 48
    collAddr (!isRoot || b.dst != 0) false b.dst 64
  collAddr (b.gathers && b.group != 0) (root && !isRoot) b.srcScale 56
  need45 (!(b.gathers && b.group != 0 && (!root || isRoot)) || b.srcScale != 0) 56
  let outScale := (g8 && b.dstFmt == 4) || (b.gathers && b.group != 0 && !b.widens)
  let silent := isRoot && b.dst == 0
  collAddr (outScale && !silent) false b.dstScale 72
  need45 (!outScale || silent || b.dstScale != 0) 72
  collAddr (b.widens || (g8 && b.dstFmt == 4)) true b.dstFlag 80
  collAddr g8 false b.residual 88 st
  need45 (!g8 || b.residual != 0) 88
  collAddr (g8 && b.mode == 2) false b.carried 96 st
  need45 (!(g8 && b.mode == 2) || b.carried != 0) 96
  return (team, me)

/-! ### Trees (R319) -/

/-- The groups of a tree: members that share a rack and a tray, in order of first appearance. -/
def treeGroups (grid : Nat → Nat) (order : List Nat) : List (List Nat) :=
  ((order.map fun x => grid x / 8).eraseDups).map fun t => order.filter fun x => grid x / 8 == t

/-- The order of a tree: the team with its first member and its root exchanged. -/
def treeOrder (team : List Nat) (rho : Nat) : List Nat :=
  (team.set 0 (team.getD rho 0)).set rho (team.getD 0 0)

/-- Parent of each member of a tree, in group order; none at the root. -/
def treeParents (grid : Nat → Nat) (team : List Nat) (rho : Nat) : List (Nat × Option Nat) :=
  let gs := treeGroups grid (treeOrder team rho)
  (gs.mapIdx fun gamma g => g.mapIdx fun i x =>
    (x, if i > 0 then g[i - 2 ^ Nat.log2 i]? else if gamma > 0 then (gs.getD (gamma - 2 ^ Nat.log2 gamma) []).head? else none)).flatten

/-- Parent and children of a member of a tree; children in increasing position in the order. -/
def treeOf (grid : Nat → Nat) (team : List Nat) (rho x : Nat) : Option Nat × List Nat :=
  let ps := treeParents grid team rho
  ((alook x ps).join, (treeOrder team rho).filter fun y => (alook y ps).join == some x)

/-! ### Streams and sums (R320, R324) -/

/-- F32 codes of a contribution's stream with the flags of the conversion: F32 elements as they are, G8 elements decoded under their scales
(R30, R43, R324). -/
def CollBody.decode (b : CollBody) (bs : List Byte) : Array Nat × Flags :=
  if b.wire = 0 then ((unpackRow 0 b.count bs).toArray, {})
  else
    let a := (bs.map BitVec.toNat).toArray
    let vs := (List.range b.count).map fun i => toIeee fmtF32 .even (scaled (a.getD (b.count + i / b.glen) 0x7F) (decodeElem 4 (a.getD i 0)))
    ((vs.map (·.1)).toArray, vs.foldl (fun f v => f.or v.2) {})

/-- Elements of a segment (R320). -/
def segment : Nat := 16384

/-- Stream bytes after which a segment has wholly arrived. -/
def CollBody.segmentEnd (b : CollBody) (i : Nat) : Nat :=
  let last := min ((i + 1) * segment) b.count
  if b.group = 0 then rowBytes b.wire last else b.count + ceilDiv last b.glen

/-- The order of arrival of a peer's segment. -/
def Peer.arrival (p : Peer) (bytes : Nat) : Nat := ((p.marks.find? fun m => decide (m.1 ≥ bytes)).map (·.2)).getD 0

/-- The stream that has come from a peer. -/
def Peer.stream (p : Peer) : List Byte := Memory.getBytes p.buf 0 p.recvBytes

/-- Whether every byte expected from a peer has come. -/
def Peer.full (p : Peer) : Bool := decide (p.got ≥ p.recvBytes)

/-- The sum of a node: its own contribution, then each child's, segment by segment (R320): by position with STRICT, else in the
order in which the segments came. -/
def CollBody.sum (b : CollBody) (strict : Bool) (own : List Byte) (kids : List Peer) : Array Nat × Flags :=
  let streams := kids.map fun p => (p, b.decode p.stream)
  let orders := ((List.range (ceilDiv b.count segment)).map fun i =>
    if strict then streams
    else sortBy (fun x y => decide (x.1.arrival (b.segmentEnd i) ≤ y.1.arrival (b.segmentEnd i))) streams).toArray
  let mine := b.decode own
  (List.range b.count).foldl (fun (acc : Array Nat × Flags) i =>
    let (v, fl) := (orders.getD (i / segment) []).foldl (fun (x : Nat × Flags) k =>
      let (y, f) := f32Add x.1 (k.2.1.getD i 0)
      (y, x.2.or f)) (mine.1.getD i 0, acc.2)
    (acc.1.push v, fl)) (#[], streams.foldl (fun f k => f.or k.2.2) mine.2)

/-- The B16 code of a residual under R40 and R41, with the flags of R32 that the conversion forms: saturated, invalid input. -/
def residualCode (v : Val) : Nat × Bool × Bool :=
  match v with
  | .fin neg m e => ((vendorFin vB16 neg m e).1, (vendorFin vB16 neg m e).2, false)
  | v => (specialCode 2 v, false, true)

/-- The runs of 32 elements of a group's residuals in which a flag of R32 was formed, numbered from `first`. -/
def residualRuns (first : Nat) (flags : List Bool) : List Nat :=
  ((List.range (ceilDiv flags.length 32)).filter fun j => ((flags.drop (32 * j)).take 32).any id).map (first + ·)

/-- Report a count of groups under a numerics event, joined with what the operation reports already (R48, R50). The first group index is
that of the conversion told first, the own block or the leaf before a hop (R49 does not say which of several conversions it is of: DESIGN
CHOICE, log entry 82). -/
def tellCount (code n first : Nat) : Op Unit := do
  if n = 0 then return ()
  modify fun r =>
    if r.events.any fun e => e.1 == code then
      { r with events := r.events.map fun e =>
          if e.1 = code then (code, e.2 - bits e.2 0 32 + min (bits e.2 0 32 + n) (2 ^ 32 - 1)) else e }
    else { r with events := r.events ++ [(code, countPayload n first)] }

/-- Count and tell the saturated and the invalid groups of a conversion whose first group has index `first` (R32, R48, R49); a recomputation
counts none (R96). -/
def countGroups (first : Nat) (outs : List GroupOut) : Op Unit := do
  if ← isRecompute then return ()
  let sat := (outs.zipIdx.filter fun x => x.1.sat).map (·.2)
  let inv := (outs.zipIdx.filter fun x => x.1.inv).map (·.2)
  tellCount 0x0201 sat.length (first + sat.headD 0)
  tellCount 0x0202 inv.length (first + inv.headD 0)
  modify fun r => { r with sat := r.sat + sat.length, inv := r.inv + inv.length }

/-- Count and tell the residual runs whose B16 conversion saturated or met an invalid input (R32, R48, R49); a recomputation counts none
(R96). The result's groups are told first; both counts are joined in one event (DESIGN CHOICE, log entry 82). -/
def countResiduals (sat inv : List Nat) : Op Unit := do
  if ← isRecompute then return ()
  tellCount 0x0201 sat.length (sat.headD 0)
  tellCount 0x0202 inv.length (inv.headD 0)
  modify fun r => { r with sat := r.sat + sat.length, inv := r.inv + inv.length }

/-- The feedback quantisation of one group (R115): its stream codes and scale, its residuals with the flags of their conversion, and
whether it saturated or met an invalid input. `vs` are the values to be sent with their flags, `sc` the scale; `base` is what the residual
starts from. A residual written as +0 for a value that is not finite is no conversion. -/
def quantGroup (vs : List (Val × Flags)) (sc : Nat) (base : List Val) : GroupOut × List (Nat × Bool × Bool) :=
  let o := convertGroup 4 sc true vs
  (o, ((vs.zip o.codes).zip base).map fun x =>
    if x.1.1.1.isFin then
      residualCode (addVal .even x.2 (addVal .even x.1.1.1 (negVal (scaled sc (decodeElem 4 x.1.2)))).1).1
    else (0, false, false))

/-- The residual codes of `rows` rows: as the step sees them, in a recomputation as of the last fired step, from which the forward pass
started (R96, R117). -/
def rdResidual (again : Bool) (addr rows cols : Nat) : Op (Array Nat) := do
  if again then return (unpackRow 2 (rows * cols) (← rdAsFired addr (2 * rows * cols))).toArray
  else rdTensor 2 addr rows cols

/-- The leaf (R115, R324 step 1): `rows` rows of `count` elements quantised whole; the stream of each row. Present scales take a second
read of the source (R105). -/
def leafQuant (b : CollBody) (rows : Nat) : Op (List (List Byte) × List Nat) := do
  let n := rows * b.count
  let g := (← rdTensor 0 b.src rows b.count)
  if b.mode = 1 then let _ ← rdTensor 0 b.src rows b.count
  let again ← isRecompute
  let old ← rdResidual again b.residual rows b.count
  let groups := (List.range rows).flatMap fun r => (List.range b.scales).map fun j =>
    (r, (List.range (min b.glen (b.count - j * b.glen))).map fun i => r * b.count + j * b.glen + i)
  let done ← (groups.zipIdx).mapM fun (x : (Nat × List Nat) × Nat) => do
    let vs := x.1.2.map fun i =>
      let (v, f) := f32Add (g.getD i 0) (old.getD i 0 <<< 16)
      (decode fmtF32 v, f)
    let was ← if b.mode = 2 then (do return ofLeBytes (← rdAsFired (b.carried + x.2) 1)) else pure 0x7F
    let sc := if b.mode = 1 then presentScale 4 (vs.map (·.1)) else if was = 0xFF then 0x7F else was
    let (o, res) := quantGroup vs sc (vs.map fun _ => .fin false 0 0)
    return (x.1.1, o, res, was)
  wrWhole b.residual ((done.flatMap fun x => x.2.2.1.map (·.1)).flatMap (leBytes 2))
  addFlags (done.foldl (fun f x => f.or x.2.1.flags) {})
  let ix (q : GroupOut → Nat → Bool) : List Nat := (done.zipIdx.filter fun x => q x.1.2.1 x.1.2.2.2).map (·.2)
  let sat := ix fun o _ => o.sat
  if !again then
    if b.mode = 2 then
      done.zipIdx.forM fun x => noteCarried (b.carried + x.2) (if x.1.2.1.sat then 1 else 0) 0
    let inv := ix fun o _ => o.inv
    let lim := ix fun o was => b.mode == 2 && o.sat && was == 0xFE
    let unset := ix fun _ was => b.mode == 2 && was == 0xFF
    tellCount 0x0201 sat.length (sat.headD 0)
    tellCount 0x0202 inv.length (inv.headD 0)
    tellCount 0x0206 lim.length (lim.headD 0)
    tellCount 0x0207 unset.length (unset.headD 0)
    modify fun r => { r with sat := r.sat + sat.length, inv := r.inv + inv.length }
    let runs (q : Nat × Bool × Bool → Bool) : List Nat := done.zipIdx.flatMap fun x =>
      residualRuns (x.1.1 * ceilDiv b.count 32 + x.2 % max b.scales 1 * (b.glen / 32)) (x.1.2.2.1.map q)
    countResiduals (runs (·.2.1)) (runs (·.2.2))
  if n = 0 then return (List.replicate rows [], [])
  return ((List.range rows).map fun r =>
    let mine := done.filter fun x => x.1 == r
    (mine.flatMap fun x => x.2.1.codes).map (BitVec.ofNat 8) ++ mine.map fun x => BitVec.ofNat 8 x.2.1.scale, sat)

/-- The hop (R324 step 3): a node's sum quantised to G8 with present scale, its error added to the residual elements from element
`at_` on. -/
def hopQuant (b : CollBody) (at_ : Nat) (sums : Array Nat) : Op (List Byte) := do
  let old := (← rdTensor 2 (b.residual + 2 * at_) 1 b.count)
  let done := (List.range b.scales).map fun j =>
    let ix := (List.range (min b.glen (b.count - j * b.glen))).map fun i => j * b.glen + i
    let vs := ix.map fun i => (Flt.decode fmtF32 (sums.getD i 0), ({} : Flags))
    quantGroup vs (presentScale 4 (vs.map (·.1))) (ix.map fun i => Flt.decode fmtB16 (old.getD i 0))
  wrWhole (b.residual + 2 * at_) ((done.flatMap fun x => x.2.map (·.1)).flatMap (leBytes 2))
  let inv := (done.zipIdx.filter fun x => x.1.1.inv).map (·.2)
  if !(← isRecompute) then
    tellCount 0x0202 inv.length (inv.headD 0)
    modify fun r => { r with inv := r.inv + inv.length }
    let runs (q : Nat × Bool × Bool → Bool) : List Nat := done.zipIdx.flatMap fun x =>
      residualRuns (at_ / b.count * ceilDiv b.count 32 + x.2 * (b.glen / 32)) (x.1.2.map q)
    countResiduals (runs (·.2.1)) (runs (·.2.2))
  return (done.flatMap fun x => x.1.codes).map (BitVec.ofNat 8) ++ done.map fun x => BitVec.ofNat 8 x.1.scale

/-- Flag pairs of a G8 result: invalid input shows as the NaN code, saturation only where the leaf itself is the result. -/
def resultFlags (b : CollBody) (bs : List Byte) (sat : List Nat) : List (Nat × Nat) :=
  (List.range b.scales).map fun j =>
    (j, (if sat.contains j then 1 else 0) + (if ((bs.take b.count).drop (j * b.glen) |>.take b.glen).any (· == 0x80) then 2 else 0))

/-- Step 4 of R324: the result into dst, as G8 with its scales or decoded to F32. -/
def writeResult (b : CollBody) (bs : List Byte) (sat : List Nat) : Op Unit := do
  if b.wire = 0 then wrWhole b.dst bs
  else if b.dstFmt = 0 then
    let (codes, fl) := b.decode bs
    addFlags fl
    wrWhole b.dst (packRow 0 codes.toList)
  else
    wrWhole b.dst (bs.take b.count)
    wrWhole b.dstScale (bs.drop b.count)
    if b.dstFlag ≠ 0 then writeFlags b.dstFlag b.scales (resultFlags b bs sat)

/-- Place the contribution of team rank `i` of an ALL_GATHER, or of the root of a BROADCAST (`i` = 0): as received with its scales,
or widened to B16 with its flags (R325). The flag runs restart at each member's block, as at a row (R32 does not say whether dst, which
holds a block for each member, is one row: DESIGN CHOICE, log entry 82). -/
def placeBlock (b : CollBody) (i : Nat) (bs : List Byte) : Op Unit := do
  let elems := bs.take (rowBytes b.wire b.count)
  let scs := (bs.drop (rowBytes b.wire b.count)).map BitVec.toNat |>.toArray
  if !b.widens then
    wrWhole (b.dst + i * elems.length) elems
    if b.group ≠ 0 then wrWhole (b.dstScale + i * b.scales) (bs.drop elems.length)
  else
    let vals := (elems.mapIdx fun k x =>
      let v := decodeElem 3 x.toNat
      if b.group = 0 then v else scaled (scs.getD (k / b.glen) 0x7F) v)
    let runs := ceilDiv b.count 32
    let done := (List.range runs).map fun j => convertGroup 2 0x7F false (((vals.drop (32 * j)).take 32).map fun v => (v, ({} : Flags)))
    wrWhole (b.dst + i * 2 * b.count) (packRow 2 (done.flatMap (·.codes)))
    let n0 := i * runs
    if b.dstFlag ≠ 0 then
      writeFlags b.dstFlag (n0 + runs) (done.mapIdx fun j o => (n0 + j, (if o.sat then 1 else 0) + (if o.inv then 2 else 0)))
    countGroups n0 done

/-- Source address of row r of the block for team rank j (R326). -/
def CollBody.srcRow (b : CollBody) (j r : Nat) : Nat :=
  b.src + (j * b.count * b.srcByRows + r) * b.srcStride + j * b.rowLen * (1 - b.srcByRows)

/-- Destination address of row r of the block from team rank i (R326). -/
def CollBody.dstRow (b : CollBody) (i r : Nat) : Nat :=
  b.dst + (i * b.count * b.dstByRows + r) * b.dstStride + i * b.rowLen * (1 - b.dstByRows)

/-- What the collectives that gather or move write whole, in several writes, from the descriptor and the move list (R229). -/
def declareDest (b : CollBody) (size : Nat) (ms : List Move) : Op Unit := do
  if b.op = 0x42 then
    declareWhole b.dst (size * rowBytes b.dstFmt b.count)
    if b.dstScale ≠ 0 then declareWhole b.dstScale (size * b.scales)
  else if b.op = 0x43 then
    (List.range size).forM fun i => (List.range b.count).forM fun r => declareWhole (b.dstRow i r) b.rowLen
  else (ms.filter (·.recv)).forM fun m => declareWhole m.addr m.bytes

/-- Place the rows of an EXCHANGE from team rank i. -/
def placeRows (b : CollBody) (i : Nat) (bs : List Byte) : Op Unit :=
  (List.range b.count).forM fun r => wr (b.dstRow i r) ((bs.drop (r * b.rowLen)).take b.rowLen)

/-- Fill the receive entries for a sender, in list order, with its bytes (R327). -/
def placeMoves : List Move → List Byte → Op Unit
  | [], _ => pure ()
  | m :: rest, bs => do
    wrWhole m.addr (bs.take m.bytes)
    placeMoves rest (bs.drop m.bytes)

/-! ### The collective at work -/

/-- The collective of the operation at a position. -/
def Ctx.coll (x : Ctx) (pos : Nat) : Option Coll := x.colls.find? (·.pos == pos)

/-- Change the collective of the operation at a position. -/
def State.modColl (s : State) (c pos : Nat) (f : Coll → Coll) : State :=
  s.modCtx c fun x => { x with colls := x.colls.map fun k => if k.pos = pos then f k else k }

/-- The collective under way. -/
def getColl : Op Coll := do
  let r ← get
  return ((r.s.ctx r.c).coll r.pos).getD { pos := r.pos, desc := r.d, opcode := 0, tag := 0, seq := 0, epoch := 0, start := 0, team := [] }

/-- Change the collective under way. -/
def onColl (f : Coll → Coll) : Op Unit := do
  let r ← get
  onS fun s => s.modColl r.c r.pos f

/-- Change one peer of it. -/
def Coll.modPeer (k : Coll) (rank : Nat) (f : Peer → Peer) : Coll :=
  { k with peers := k.peers.map fun p => if p.rank = rank then f p else p }

/-- A packet of a collective to a job rank (R330). -/
def State.collPacket (s : State) (c rank type slots : Nat) (body : PBody) : State :=
  s.sendPacket { dest := s.gridOf c rank, src := s.gridRef, vc := 1, type := type, slots := slots, hops := 0, job := s.job c, body := body }

/-- The largest payload of a DATA or QUEUE_DATA packet: 64 x 256 - 32 bytes (R330). -/
def maxPayload : Nat := 16352

/-- A stream in packets: offset and payload. -/
def cutStream (bs : List Byte) : List (Nat × List Byte) :=
  (List.range (ceilDiv bs.length maxPayload)).map fun i => (i * maxPayload, (bs.drop (i * maxPayload)).take maxPayload)

/-- Slots of a packet with a payload (R330). -/
def dataSlots (n : Nat) : Nat := ceilDiv (32 + n) 64

/-- Send READY to a peer (R329 step 1, R340). -/
def State.sendReady (s : State) (c : Nat) (k : Coll) (p : Peer) : State :=
  s.collPacket c p.rank 0x20 1
    (.ready k.seq k.tag ((s.ctx c).attempt % 16) (s.step c % 16) k.epoch k.opcode p.sendBytes p.recvBytes k.start)

/-- Every byte expected from a peer is placed: FINISH (R329 step 4). -/
def finishPeer (p : Peer) : Op Unit := do
  if p.recvBytes = 0 then return ()
  let k ← getColl
  let c ← opCtx
  onS fun s => s.collPacket c p.rank 0x22 1 (.finish k.seq k.tag ((s.ctx c).attempt % 16) (s.step c % 16) k.epoch p.recvBytes)
  onColl fun k => k.modPeer p.rank fun q => { q with finSent := true }

/-- Send DATA to every peer whose READY is held and whose stream is known (R329 step 2). -/
def sendStreams : Op Unit := do
  let k ← getColl
  let c ← opCtx
  k.peers.forM fun p => do
    match p.out with
    | some bs =>
      if p.ready && !p.sent then
        onS fun s => (cutStream bs).foldl (fun s x =>
          s.collPacket c p.rank 0x21 (dataSlots x.2.length)
            (.data k.seq k.tag ((s.ctx c).attempt % 16) (s.step c % 16) k.epoch x.1 x.2)) s
        onColl fun k => k.modPeer p.rank fun q => { q with sent := true }
      else pure ()
    | none => pure ()

/-- The payload bytes 0 to 4 of 0x0540, 0x0542 and 0x0543 (R502): peer team rank, sequence, tag. -/
def Coll.who (k : Coll) (rank : Nat) : Nat := k.team.idxOf rank % 65536 + (k.seq <<< 16) + (k.tag <<< 32)

/-- The lag of a READY (R340): the largest of the step is kept, and the lag record takes the latest lag, the largest and the step. The
record is read and written on behalf of the step (R165, R174). -/
def noteLag (rank : Nat) (lag : Int) : Op Unit := do
  let r ← get
  onS fun s => s.modCtx r.c fun x => { x with lag := match x.lag with
    | some (q, m) => if lag > m then some (rank, lag) else some (q, m)
    | none => some (rank, lag) }
  let lim : Int := 2 ^ 31 - 1
  let l := max (-lim) (min lim lag)
  let base := r.s.blk 4 0x38
  let signed (v : Nat) : Int := if v ≥ 2 ^ 31 then (v : Int) - 2 ^ 32 else v
  let bytes (v : Int) : List Byte := leBytes 4 (v % 2 ^ 32).toNat
  if base = 0 then return ()
  let a := base + 16 * rank
  let old ← rdMod a 16
  let worst := if ofLeBytes old = 0 then l else max (signed (numAt old 4 4)) l
  wrMod a (bytes l ++ bytes worst ++ (old.drop 8).take 4 ++ leBytes 4 (r.s.step r.c))

/-- The peer that was the last to start, and later than this member (R340): its late_count rises. -/
def noteLast (k : Coll) : Op Unit := do
  let base := (← getS).blk 4 0x38
  let last := k.peers.foldl (fun (best : Option (Nat × Nat)) p =>
    match p.start, best with
    | some t, none => if t > k.start then some (p.rank, t) else none
    | some t, some b => if t > b.2 then some (p.rank, t) else some b
    | none, b => b) none
  match last with
  | some (r, _) =>
    if base = 0 then return ()
    else
      let a := base + 16 * r
      let old ← rdMod a 16
      wrMod a (old.take 8 ++ leBytes 4 (satAdd 32 (numAt old 8 4) 1) ++ old.drop 12)
  | none => return ()

/-- A READY meets its collective (R329 step 3, R337): an event with its payload where they disagree. -/
def State.matchReady (s : State) (c : Nat) (k : Coll) (e : EarlyReady) : Except (Nat × Nat) State :=
  if e.epoch ≠ k.epoch then .error (0x0540, k.who e.rank + (e.epoch <<< 64) + (k.epoch <<< 96))
  else
    match k.peers.find? fun p => p.rank == e.rank with
    | some p =>
      if e.opcode = k.opcode ∧ e.sendBytes = p.recvBytes ∧ e.recvBytes = p.sendBytes then
        .ok (s.modColl c k.pos fun k => k.modPeer e.rank fun q => { q with ready := true, start := some e.start })
      else .error (0x0542, k.who e.rank + (e.opcode <<< 40) + ((e.sendBytes % 2 ^ 64) <<< 64) + ((e.recvBytes % 2 ^ 64) <<< 128))
    | none => .error (0x0542, k.who e.rank + (e.opcode <<< 40) + ((e.sendBytes % 2 ^ 64) <<< 64) + ((e.recvBytes % 2 ^ 64) <<< 128))

/-- Match a READY inside the operation, and note its lag (R340). -/
def meetReady (e : EarlyReady) : Op Unit := do
  let r ← get
  let k ← getColl
  match r.s.matchReady r.c k e with
  | .ok s => do
    putS s
    noteLag e.rank ((e.start : Int) - k.start)
  | .error (code, payload) => throw (.abort code payload)

/-! ### Starting (R328, R329, R335) -/

/-- Move list of a PERMUTE (R327). -/
def rdMoves (b : CollBody) (team : List Nat) : Op (List Move) := do
  let bs ← rd b.list (24 * b.count)
  (List.range b.count).mapM fun i => do
    let m : Move := { peer := numAt bs (24 * i) 2, recv := numAt bs (24 * i + 2) 1 == 1, addr := numAt bs (24 * i + 8) 8,
                      bytes := numAt bs (24 * i + 16) 8 }
    need45 (decide (m.peer < team.length ∧ numAt bs (24 * i + 2) 1 ≤ 1 ∧ numAt bs (24 * i + 3) 5 = 0 ∧ 1 ≤ m.bytes ∧ m.bytes ≤ 2 ^ 40)) 104
    checkAddr m.addr 104 { resident := false }
    return m

/-- Bytes of the entries of one kind for a team rank. -/
def moveTotal (ms : List Move) (j : Nat) (recv : Bool) : Nat := ((ms.filter fun m => m.peer == j && m.recv == recv).map (·.bytes)).sum

/-- Whether a send range meets a receive range (R327, LOADING). -/
def movesOverlap (ms : List Move) : Bool :=
  ms.any fun x => !x.recv && ms.any fun y => y.recv && decide (x.addr < y.addr + y.bytes ∧ y.addr < x.addr + x.bytes)

/-- The concatenated sources for a team rank, as of the last fired step (R327). -/
def sendMoves (ms : List Move) (j : Nat) : Op (List Byte) := do
  return (← (ms.filter fun m => m.peer == j && !m.recv).mapM fun m => rdAsFired m.addr m.bytes).flatten

/-- Peers, tree and own contribution of a collective, with what is copied locally. -/
def collSetup (b : CollBody) (team : List Nat) (me : Nat) (k : Coll) : Op Coll := do
  let s ← getS
  let c ← opCtx
  let others := team.filter fun r => r != s.rank c
  let w := b.streamBytes
  let size := team.length
  let grid := s.gridOf c
  let own := s.rank c
  if b.op = 0x40 then
    let (parent, kids) := treeOf grid team b.root own
    let (src, sat) ← if b.wire = 0 then (do return ([← rd b.src w], [])) else leafQuant b 1
    return { k with parent := parent, kids := kids, own := src, leafSat := sat,
                    peers := (parent.toList ++ kids).map fun r => { rank := r, sendBytes := w, recvBytes := w } }
  else if b.op = 0x41 then
    let (src, sat) ← if b.wire = 0 then (do
        let bs ← rd b.src (w * size)
        return ((List.range size).map fun j => (bs.drop (j * w)).take w, [])) else leafQuant b size
    return { k with own := src, leafSat := (sat.filter fun g => g / max b.scales 1 == me).map (· - me * b.scales),
                    peers := others.map fun r => { rank := r, sendBytes := w, recvBytes := w, out := some (src.getD (team.idxOf r) []) } }
  else if b.gathers then
    let root := b.op == 0x45
    let (parent, kids) := if root then treeOf grid team b.root own else (none, [])
    let mine ← if !root || parent.isNone then (do
        let e ← rd b.src (rowBytes b.srcFmt b.count)
        let sc ← if b.group = 0 then pure [] else rd b.srcScale b.scales
        return e ++ sc) else pure []
    if root then
      let out := if parent.isNone then some mine else none
      if parent.isNone && b.dst != 0 then placeBlock b 0 mine
      return { k with parent := parent, kids := kids, own := [mine], result := out,
                      peers := (parent.toList.map fun r => { rank := r, sendBytes := 0, recvBytes := w }) ++
                        kids.map fun r => { rank := r, sendBytes := w, recvBytes := 0, out := out } }
    else
      declareDest b size []
      placeBlock b me mine
      return { k with own := [mine], peers := others.map fun r => { rank := r, sendBytes := w, recvBytes := w, out := some mine } }
  else if b.op = 0x43 then
    let n := b.count * b.rowLen
    let blocks ← (List.range size).mapM fun j => do
      return (← (List.range b.count).mapM fun r => rd (b.srcRow j r) b.rowLen).flatten
    declareDest b size []
    placeRows b me (blocks.getD me [])
    return { k with own := blocks, peers := others.map fun r =>
      { rank := r, sendBytes := n, recvBytes := n, out := some (blocks.getD (team.idxOf r) []) } }
  else
    let ms ← rdMoves b team
    need45 (moveTotal ms me false == moveTotal ms me true) 104
    need45 (!((s.ctx c).loading && movesOverlap ms)) 104
    let blocks ← (List.range size).mapM fun j => sendMoves ms j
    declareDest b size ms
    placeMoves (ms.filter fun m => m.peer == me && m.recv) (blocks.getD me [])
    return { k with moves := ms, own := blocks,
                    peers := (others.map fun r =>
                      ({ rank := r, sendBytes := moveTotal ms (team.idxOf r) false, recvBytes := moveTotal ms (team.idxOf r) true,
                         out := some (blocks.getD (team.idxOf r) []) } : Peer)).filter fun p => p.sendBytes != 0 || p.recvBytes != 0 }

/-- Start a collective (R328, R329 step 1, R335): numbered in its tag, registered, READY to every peer, recorded READYs matched. -/
def collStart : Op Unit := do
  let r ← get
  let b := collBody r.d
  let (team, me) ← collCheck b
  let x := r.s.ctx r.c
  if b.epoch ≠ x.epoch then throw (.refuse 0x0541 ((b.epoch <<< 64) + (x.epoch <<< 96) + ((r.pos % 2 ^ 64) <<< 128)))
  if x.window.any fun v => decide (v.pos < r.pos) && isCollective (opcodeOf v.desc) && v.desc.field 38 1 == b.tag &&
      v.st != .finished && (x.coll v.pos).isNone then
    throw (.wait .collective)
  let seq := (alook b.tag x.collSeq).getD 0
  let k ← collSetup b team me
    { pos := r.pos, desc := r.d, opcode := b.op, tag := b.tag, seq := seq, epoch := b.epoch, start := r.s.datum, team := team }
  let k := { k with reads := (← get).reads }
  onS fun s => s.modCtx r.c fun x => { x with colls := x.colls ++ [k], collSeq := aset b.tag ((seq + 1) % 65536) x.collSeq }
  k.peers.forM fun p => onS fun s => s.sendReady r.c k p
  let now ← getS
  let y := now.ctx r.c
  let early := y.earlyReady.filter fun e => e.tag == b.tag && e.seq == seq && e.step == now.step r.c % 16 && e.attempt == y.attempt % 16
  onS fun s => s.modCtx r.c fun x => { x with earlyReady := x.earlyReady.filter fun e => !early.contains e }
  early.forM meetReady

/-! ### The pass -/

/-- A node's stream toward its parent, or the result at a root (R324 steps 2 to 4). -/
def reduceNode (b : CollBody) (kids : List Peer) (at_ : Nat) (own : List Byte) : Op (List Byte) := do
  if kids = [] then return own
  let (sum, fl) := b.sum ((← getS).ctx (← opCtx)).strict own kids
  addFlags fl
  if b.wire = 0 then return packRow 0 sum.toList else hopQuant b at_ sum

/-- The pass of an ALL_REDUCE (R324, R320). -/
def passTree (b : CollBody) : Op Unit := do
  let k ← getColl
  let kids := k.kids.filterMap fun r => k.peers.find? fun p => p.rank == r
  let up := k.parent.bind fun r => k.peers.find? fun p => p.rank == r
  let formed := match up with
    | some p => p.out.isSome
    | none => k.result.isSome
  if !formed && kids.all Peer.full then
    let bs ← reduceNode b kids 0 (k.own.headD [])
    match up with
    | some p => onColl fun k => k.modPeer p.rank fun q => { q with out := some bs }
    | none => do
      writeResult b bs (if kids = [] then k.leafSat else [])
      onColl fun k => { k with result := some bs }
    kids.forM finishPeer
  match up with
  | some p =>
    if k.result.isNone ∧ p.full ∧ kids.all Peer.full then
      writeResult b p.stream []
      onColl fun k => { k with result := some p.stream }
      finishPeer p
    else pure ()
  | none => pure ()
  onColl fun k => { k with peers := k.peers.map fun p => if k.kids.contains p.rank then { p with out := k.result } else p }

/-- The pass of a REDUCE_SCATTER: this member's shard, a star rooted here (R323, R324). -/
def passStar (b : CollBody) : Op Unit := do
  let k ← getColl
  let s ← getS
  let me := k.team.idxOf (s.rank (← opCtx))
  if k.result.isNone && k.peers.all Peer.full then
    let bs ← reduceNode b k.peers (me * b.count) (k.own.getD me [])
    writeResult b bs (if k.peers = [] then k.leafSat else [])
    onColl fun k => { k with result := some bs }
    k.peers.forM finishPeer
  else return ()

/-- The pass of the collectives that move data unchanged: place what has wholly come from each peer (R325 to R327). -/
def passDirect (b : CollBody) : Op Unit := do
  let k ← getColl
  k.peers.forM fun p => do
    if p.recvBytes = 0 ∨ ¬ p.full ∨ p.finSent then return ()
    else
      let i := k.team.idxOf p.rank
      if b.op = 0x42 then placeBlock b i p.stream
      else if b.op = 0x43 then placeRows b i p.stream
      else if b.op = 0x44 then placeMoves (k.moves.filter fun m => m.peer == i && m.recv) p.stream
      else
        placeBlock b 0 p.stream
        onColl fun k =>
          { k with result := some p.stream,
                   peers := k.peers.map fun q => if k.kids.contains q.rank then { q with out := some p.stream } else q }
      finishPeer p

/-- Whether the collective completes (R329 step 5). -/
def Coll.complete (k : Coll) : Bool :=
  (k.peers.all fun p => (p.recvBytes == 0 || p.finSent) && (p.sendBytes == 0 || p.finGot)) &&
    (!(k.opcode == 0x40 || k.opcode == 0x41) || k.result.isSome)

/-- Carry the collective on as far as it goes; whether it completes. A re-sharding PERMUTE raises E then (R334). -/
def collPass : Op Bool := do
  let r ← get
  let b := collBody r.d
  let k ← getColl
  modify fun r => { r with reads := k.reads }
  declareDest b k.team.length k.moves
  if b.op = 0x40 then
    passTree b
  else if b.op = 0x41 then passStar b
  else passDirect b
  sendStreams
  let k ← getColl
  if k.complete then
    noteLast k
    if isReshard r.d then onS fun s => s.modCtx r.c fun x => { x with epoch := (x.epoch + 1) % 2 ^ 32 }
    return true
  else return false

/-- What a collective waits for first: the peer, and 1 READY, 2 DATA, 3 FINISH (R338, R502). -/
def Coll.awaits (k : Coll) : Option (Nat × Nat) :=
  (k.peers.map fun p => (p.rank, if !p.ready then 1 else if !p.full then 2 else if p.sendBytes != 0 && !p.finGot then 3 else 0)).find?
    fun x => x.2 != 0

/-- Drop the collective at a position. -/
def State.dropColl (s : State) (c pos : Nat) : State :=
  s.modCtx c fun x => { x with colls := x.colls.filter fun k => k.pos != pos }

/-- Run a body of the collective operation at a position. What it reports is gathered in the collective until it completes; an
operation that is refused or stopped leaves no collective behind. -/
def State.runColl (s : State) (c pos : Nat) (hin : List Host.Cell) (body : Op Bool) : State :=
  match s.winOp c pos with
  | none => s
  | some w =>
    if w.st ≠ .running ∨ s.pwr.life ≠ .ready then s
    else
      let k := (s.ctx c).coll pos
      let r : Run := { s := s.modWin c pos fun v => { v with wait := none }, c := c, pos := pos, d := w.desc, hin := hin,
                       flags := Flt.Flags.ofNat ((k.map (·.flags)).getD 0), sat := (k.map (·.sat)).getD 0,
                       inv := (k.map (·.inv)).getD 0, events := (k.map (·.events)).getD [] }
      let s := match body.run r with
        | (.ok true, r) => ({ r with s := r.s.dropColl c pos } |> fun r => s.settleOp c w (.ok (), r))
        | (.ok false, r) =>
          (r.s.modColl c pos fun k =>
              { k with flags := r.flags.toNat, sat := r.sat, inv := r.inv, events := r.events, waited := k.awaits }).modWin c pos
            fun v => v.waitFor Wait.collective (w.wait == some Wait.collective &&
              ((r.s.ctx c).coll pos).bind Coll.awaits == k.bind (·.waited))
        | (.error (.refuse code payload), r) => (s.settleOp c w (.error (.refuse code payload), r)).dropColl c pos
        | (.error (.stop code payload), r) => (s.settleOp c w (.error (.stop code payload), r)).dropColl c pos
        | (.error (.abort code payload), r) => (s.settleOp c w (.error (.abort code payload), r)).dropColl c pos
        | (.error x, r) => s.settleOp c w (.error x, r)
      s.settleKilns c

end Sys2Proof.Machine
end

