-- ==== Sys2Proof/Machine/Sequence.lean ====
section
/-! DEFINITION. PAGE_CONTROL (R265 to R278): OPEN_SEQ, APPEND, FORK, PIN, UNPIN, FREE_SEQ, REFILL, PAGE_WAIT_RESUME, PAGE_WAIT_LONG. -/

namespace Sys2Proof.Machine

open Sys2Proof.Flt

/-! ### What the actions share -/

/-- Event 0x0705 with its cause (R502): 1 record state, 2 length or block limit, 3 window ring, 4 other context or pool, 5 dropped
entry. -/
def seqFault (id cause pos : Nat) : Stop := .refuse 0x0705 (id + (cause <<< 16) + ((pos % 2 ^ 64) <<< 64))

/-- Require a condition of R265, R272, R273 or R281. -/
def needSeq (ok : Bool) (id cause : Nat) : Op Unit := do
  if ok then return () else throw (seqFault id cause (← opPos))

/-- Event 0x0708 of an operation that disagrees with its pool (R279). -/
def needPool (ok : Bool) (pool : Nat) : Op Unit := do
  if ok then return () else throw (.refuse 0x0708 (pool + (((← opPos) % 2 ^ 64) <<< 64)))

/-- Write a field of the sequence area, its old value logged for a void (R268). -/
def pokeSeq (addr size value : Nat) : Op Unit := do
  let c ← opCtx
  let old := ofLeBytes (← rdMod addr size)
  onS fun s => s.modCtx c fun x => { x with pageActs := .old addr old size :: x.pageActs }
  wrMod addr (leBytes size value)

/-- Stamp the step of the last change (R265). -/
def stampSeq (id : Nat) : Op Unit := do
  let s ← getS
  pokeSeq (s.seqRec id + 80) 8 (s.step (← opCtx))

/-- Log a page action. -/
def logPage (a : PageAct) : Op Unit := do
  let c ← opCtx
  onS fun s => s.modCtx c fun x => { x with pageActs := a :: x.pageActs }

/-- Log the decrement of entry j, when it holds its frame (R268); one that does not changes nothing (R267). -/
def giveUp (id pool j : Nat) (e : PageEntry) : Op Unit := do
  let s ← getS
  if s.holdsFrame pool e then logPage (.dec pool e.frame e.generation (s.blockFull id j)) else return ()

/-- Touch a frame: pinned for the step, last use stamped (R267, R269). -/
def touchFrame (pool f : Nat) : Op Unit := do
  let c ← opCtx
  onS fun s => s.modPframe pool f fun x =>
    { x with touch := if x.touch.contains c then x.touch else c :: x.touch, lastUse := s.datum }

/-- Raise an event of class 0x07 once per operation (R290). -/
def tellOnce (code payload : Nat) : Op Unit := do
  let r ← get
  let seen := ((r.s.winOp r.c r.pos).map (·.seen)).getD []
  if seen.contains code then return ()
  else onS fun s => (s.modWin r.c r.pos fun w => { w with seen := code :: w.seen }).raiseCtx r.c (some r.pos) code payload

/-- The class that a sequence gives its frames: 4 while it is pinned (R267). -/
def State.givenClass (s : State) (id : Nat) : Nat := if s.seqPinned id then 4 else s.seqClass id

/-- Whether this wait has been told self-blocked: an operation that has gone on since waits anew (R277, R290). -/
def toldHere : Op Bool := do
  let r ← get
  return match r.s.winOp r.c r.pos with
    | some w => w.toldBlocked && w.progress == r.progress
    | none => false

/-- Park in page-wait (R276, R277): event 0x0703 once, and 0x0709 when nothing else can end the wait. What is done stays. -/
def parkPage {α : Type} (id pool : Nat) : Op α := do
  let r ← get
  tellOnce 0x0703 (pool + ((r.pos % 2 ^ 64) <<< 64))
  let told ← toldHere
  let s ← getS
  let blocked := s.selfBlocked r.c pool (s.seqClass id)
  onS (·.modWin r.c r.pos fun w => { w with toldBlocked := told || blocked })
  if blocked && !told then onS (·.raiseCtx r.c (some r.pos) 0x0709 (blockedPayload pool id r.pos))
  throw (.hold .page)

/-- Drop the frame that R275 takes, with STRICT clear: event 0x0701. -/
def dropFrame (id pool : Nat) : Op Unit := do
  let s ← getS
  if (s.ctx (← opCtx)).strict then return ()
  match s.dropVictim pool (s.seqClass id) with
  | none => return ()
  | some f => do
    let cls := (s.pframe pool f).cls
    onS fun s => s.modPframe pool f fun x => { x with count := 0, generation := (x.generation + 1) % 2 ^ 24, cls := 0 }
    tellOnce 0x0701 (pool + (cls <<< 8) + (f <<< 32))

/-- Module address of a frame of a pool. -/
def Pool.frameAt (p : Pool) (f : Nat) : Nat := p.base + f * p.pageBytes

/-- Pad the layer blocks of a fresh page with zeros (R264). -/
def padPage (p : Pool) (f : Nat) : Op Unit :=
  (List.range p.layers).forM fun l =>
    wrMod (p.frameAt f + l * p.layerBytes + p.partBytes) (List.replicate (p.layerBytes - p.partBytes) 0)

/-- Allocate a frame for a sequence (R269, R275, R276): count 1, class from the sequence, touch pin set. -/
def allocate (id pool : Nat) : Op PageEntry := do
  if ((← getS).freeFrame pool).isNone then dropFrame id pool
  let s ← getS
  match s.freeFrame pool with
  | none => parkPage id pool
  | some f => do
    let g := (s.pframe pool f).generation
    onS fun s => s.modPframe pool f fun x => { x with count := 1, cls := s.givenClass id, touch := [] }
    logPage (.inc pool f g)
    touchFrame pool f
    padPage (s.pool pool) f
    return { frame := f, valid := true, generation := g }

/-- Point an entry at a frame. -/
def setEntry (id j : Nat) (e : PageEntry) : Op Unit := do
  let s ← getS
  pokeSeq (s.seqList id + 8 * j) 8 e.toNat

/-- Read a sequence's record and its page list on behalf of the step (R165, R174). -/
def touchSeq (id : Nat) : Op Unit := do
  let s ← getS
  touchMod (s.seqRec id) 128
  touchMod (s.seqList id) 4096

/-- The sequence that the operation names: open, of this context, and not freed in this step (R265). -/
def ownSeq (id : Nat) : Op Unit := do
  need (id < 6144) 24
  touchSeq id
  let s ← getS
  let c ← opCtx
  needSeq (s.memNat (s.seqRec id) 1 == 1) id 1
  needSeq (s.memNat (s.seqRec id + 4) 2 == c) id 4
  needSeq (!(s.ctx c).pageActs.contains (.close id)) id 1

/-- Checks of a PAGE_CONTROL body that every action shares (R271, R503). -/
def pageHeader (data : Bool) : Op Unit := do
  needZero 57 71
  let f ← fld 56 1
  need (f ≤ 9) 56
  if data then need (f == 0 || f == 2) 56
  else
    need ((← fld 40 8) = 0) 40
    need ((← fld 48 8) = 0) 48

/-! ### OPEN, FORK, PIN, UNPIN, FREE (R272) -/

/-- Whether every id is open (R272). -/
def State.tableFull (s : State) : Bool := decide (s.openSeqs.length ≥ 6144)

/-- Event 0x0707 when the table is full (R272). -/
def needRoom (pool : Nat) : Op Unit := do
  if (← getS).tableFull then throw (.refuse 0x0707 (pool + (((← opPos) % 2 ^ 64) <<< 64))) else return ()

/-- A fresh record (R265), written whole with its page list. -/
def writeRecord (id flags pool cls window first len : Nat) (entries : Nat) : Op Unit := do
  let s ← getS
  let c ← opCtx
  let lens := (List.range 8).foldl (fun acc i => acc + (len <<< (32 * i))) 0
  pokeSeq (s.seqRec id) 128 (1 + (flags <<< 8) + (pool <<< 16) + (cls <<< 24) + (c <<< 32) + (window <<< 48) + (first <<< 64) +
    (lens <<< 128) + (lens <<< 384) + (s.step c <<< 640))
  pokeSeq (s.seqList id) 4096 entries

def openBody : Op Unit := do
  pageHeader false
  let id ← fld 24 2
  let window ← fld 32 2
  let pool ← fld 34 1
  let cls ← fld 35 1
  let first ← fld 36 4
  need (id < 6144) 24
  need (window = 0 ∨ (2 ≤ window ∧ window ≤ 512)) 32
  need (pool < 8) 34
  need (cls < 4) 35
  need (first < 2 ^ 31) 36
  touchSeq id
  needRoom pool
  let s ← getS
  needSeq (s.memNat (s.seqRec id) 1 == 0) id 1
  needSeq (decide ((s.pool pool).frames ≠ 0)) id 4
  writeRecord id (if window = 0 then 0 else 2) pool cls window first 0 0

def forkBody : Op Unit := do
  pageHeader false
  let id ← fld 24 2
  let len ← fld 28 4
  let src ← fld 32 2
  need (id < 6144) 24
  need (src < 6144) 32
  touchSeq id
  touchSeq src
  let r ← get
  let s := r.s
  needRoom (s.seqPool src)
  needSeq (s.memNat (s.seqRec id) 1 == 0) id 1
  needSeq (s.memNat (s.seqRec src) 1 == 1) src 1
  needSeq (s.memNat (s.seqRec src + 4) 2 == r.c) src 4
  let pool := s.seqPool src
  needSeq ((List.range (s.pool pool).layers).all fun l => decide (s.seqLength src l ≥ len)) src 2
  let n := min (ceilDiv len 64) (if s.seqWindow src = 0 then 512 else s.seqWindow src)
  let es := (List.range n).map fun j => s.pageEntry src j
  let held := es.filter fun e => s.holdsFrame pool e
  match held.find? fun e => decide ((s.pframe pool e.frame).count + 1 > 65535) with
  | some e => throw (.refuse 0x0706 (pool + (e.frame <<< 32) + ((r.pos % 2 ^ 64) <<< 64)))
  | none => pure ()
  writeRecord id (bits (s.memNat (s.seqRec src + 1) 1) 1 1 * 2) pool (s.seqClass src) (s.memNat (s.seqRec src + 6) 2) (s.seqFirst src) len
    (s.memNat (s.seqList src) (8 * n))
  held.forM fun e => do
    onS fun s => s.modPframe pool e.frame fun x => { x with count := x.count + 1, cls := max x.cls (s.seqClass src) }
    logPage (.inc pool e.frame e.generation)

def pinBody : Op Unit := do
  pageHeader false
  let id ← fld 24 2
  ownSeq id
  let s ← getS
  let pool := s.seqPool id
  pokeSeq (s.seqRec id + 1) 1 (s.memNat (s.seqRec id + 1) 1 ||| 1)
  (List.range 512).forM fun j => do
    let s ← getS
    let e := s.pageEntry id j
    if s.holdsFrame pool e then onS fun s => s.modPframe pool e.frame fun x => { x with cls := 4 } else return ()
  stampSeq id

def unpinBody : Op Unit := do
  pageHeader false
  let id ← fld 24 2
  ownSeq id
  needSeq ((← getS).seqPinned id) id 1
  logPage (.unpin id)
  stampSeq id

def freeBody : Op Unit := do
  pageHeader false
  let id ← fld 24 2
  ownSeq id
  let s ← getS
  (List.range 512).forM fun j => giveUp id (s.seqPool id) j (s.pageEntry id j)
  stampSeq id
  logPage (.close id)

/-! ### APPEND and REFILL (R273, R274, R278) -/

/-- Convert one row into the page's format (R273): codes, with one scale code for each group; saturated and invalid groups counted, from
the row's ordinal in the source on (R49). -/
def pageRow (fmt group ordinal : Nat) (vals : List Val) : Op (List Nat × List Nat) := do
  let g := if fmt = 1 then max vals.length 1 else if group = 0 then 32 else group
  let outs := (List.range (ceilDiv vals.length g)).map fun j =>
    let vs := ((vals.drop (j * g)).take g).map fun v => legValue 0 false fmt v
    convertGroup fmt (if group = 0 then 0x7F else presentScale fmt (vs.map (·.1))) (group != 0) vs
  addFlags (outs.foldl (fun f o => f.or o.flags) {})
  countGroups (ordinal * outs.length) outs
  return (outs.flatMap (·.codes), outs.map (·.scale))

/-- Write one row of elements and its scales: row index, elements in a row, offsets of the two arrays, ordinal in the source. -/
def writePageRow (p : Pool) (base elems scales row n ordinal : Nat) (vals : List Val) : Op Unit := do
  let (codes, sc) ← pageRow p.fmt p.group ordinal vals
  wrMod (base + elems + row * n * p.elem) (packRow p.fmt codes)
  if p.group ≠ 0 then wrMod (base + scales + row * (n / p.group)) (sc.map (BitVec.ofNat 8))

/-- Write token slot u of a layer of a frame with token i of the source: its keys and values, or its latent and rope part (R264, R273). -/
def writeSlot (p : Pool) (f layer u i : Nat) (k v : List Val) : Op Unit := do
  let base := p.frameAt f + layer * p.layerBytes
  if p.latent then
    writePageRow p base 0 p.kScaleAt u p.rank i k
    if p.rope ≠ 0 then
      let (codes, _) ← pageRow 2 0 i v
      wrMod (base + p.ropeAt + u * p.rope * 2) (packRow 2 codes)
  else
    (List.range p.heads).forM fun h => do
      writePageRow p base 0 p.kScaleAt (u * p.heads + h) p.dim (i * p.heads + h) ((k.drop (h * p.dim)).take p.dim)
      writePageRow p base p.vAt p.vScaleAt (u * p.heads + h) p.dim (i * p.heads + h) ((v.drop (h * p.dim)).take p.dim)

/-- Elements of a token in the two sources. -/
def Pool.tokenK (p : Pool) : Nat := if p.latent then p.rank else p.heads * p.dim
def Pool.tokenV (p : Pool) : Nat := if p.latent then p.rope else p.heads * p.dim

/-- Copy the written slots of a block into another frame: the first `n l` slots of each layer l (R273 step 3). -/
def copySlots (p : Pool) (from_ dest : Nat) (n : Nat → Nat) : Op Unit :=
  (List.range p.layers).forM fun l => do
    let src := p.frameAt from_ + l * p.layerBytes
    let dst := p.frameAt dest + l * p.layerBytes
    let part (off per : Nat) : Op Unit := do wrMod (dst + off) (← rdMod (src + off) (n l * per))
    let e := p.elemBytes / 64
    let g := p.scaleBytes / 64
    part 0 e
    part p.kScaleAt g
    if p.latent then part p.ropeAt (p.rope * 2)
    else
      part p.vAt e
      part p.vScaleAt g

/-- The addresses of the two sources: keys and values, or latents and rope part; 48 is unused in a pool without one. -/
def pageSources (p : Pool) : Op (Nat × Nat) := do
  let k ← fld 40 8
  checkAddr k 40
  let v ← useAddr (p.tokenV != 0) 48
  return (k, v)

/-- Values of `n` tokens from an address. -/
def rdTokens (a per n : Nat) : Op (Array Val) := do
  if per = 0 then return #[] else
    let f ← fld 56 1
    return (← rdTensor f a n per).map (decodeElem f)

/-- The values of token i. -/
def tokenOf (a : Array Val) (per i : Nat) : List Val := (List.range per).map fun k => a.getD (i * per + k) (.fin false 0 0)

/-- Steps 1 to 3 of R273 for block b: the frame that its slots go to. A shared frame is read, and so touched, before it is replaced (R269). `top` is one more than the highest block there is; `len l` the
slots written of a layer. -/
def slotFrame (p : Pool) (id pool b top : Nat) (len : Nat → Nat) : Op Nat := do
  let s ← getS
  let j := s.entryOf id b
  let e := s.pageEntry id j
  if !e.valid || (s.seqWindow id != 0 && decide (b ≥ top)) then
    let new ← allocate id pool
    giveUp id pool j e
    setEntry id j new
    return new.frame
  else if !s.holdsFrame pool e then throw (seqFault id 5 (← opPos))
  else if (s.pframe pool e.frame).count > 1 then
    touchFrame pool e.frame
    let new ← allocate id pool
    copySlots p e.frame new.frame fun l => min 64 (len l - 64 * b)
    giveUp id pool j e
    setEntry id j new
    return new.frame
  else
    touchFrame pool e.frame
    return e.frame

/-- The keys and the values of a source. Those of a scaled pool are read twice: its scales come from an amax pass first (R105, R264). -/
def rdKeyValues (p : Pool) (ka va : Nat) (n : Nat) : Op (Array Val × Array Val) := do
  if p.group ≠ 0 then
    discard (rdTokens ka p.tokenK n)
    discard (rdTokens va p.tokenV n)
  return (← rdTokens ka p.tokenK n, ← rdTokens va p.tokenV n)

/-- APPEND (R273, R274): a parked append goes on after the slots it has written; whether its target block has left the ring was settled when
it began. -/
def appendBody : Op Unit := do
  pageHeader true
  onKiln 0
  let id ← fld 24 2
  let layer ← fld 27 1
  let count ← fld 28 4
  need (1 ≤ count ∧ count ≤ 32768) 28
  ownSeq id
  let s ← getS
  let pool := s.seqPool id
  let p := s.pool pool
  needPool (decide (layer < p.layers)) pool
  let w := s.seqWindow id
  let len := s.seqLength id layer
  needSeq (decide (s.seqFirst id + len + count ≤ 2 ^ 31)) id 2
  needSeq (w != 0 || decide (len + count ≤ 512 * 64)) id 2
  let done := (← get).progress
  let top := max (s.seqBlocks id) (if done = 0 then 0 else ceilDiv (len + done) 64)
  needSeq (done != 0 || w == 0 || decide (len / 64 + w ≥ top)) id 3
  let (ka, va) ← pageSources p
  let blocks := (List.range (ceilDiv (len + count) 64)).drop ((len + done) / 64)
  needSeq (blocks.all fun b =>
    let e := s.pageEntry id (s.entryOf id b)
    !e.valid || (w != 0 && decide (b ≥ top)) || s.holdsFrame pool e) id 5
  let (k, v) ← rdKeyValues p ka va count
  blocks.forM fun b => do
    let r ← get
    let f ← slotFrame p id pool b (max top (if b * 64 > len + done then b else 0)) fun l =>
      if l = layer then len + done else s.seqLength id l
    (List.range 64).forM fun u => do
      let t := 64 * b + u
      if len + done ≤ t ∧ t < len + count then
        writeSlot p f layer u (t - len) (tokenOf k p.tokenK (t - len)) (tokenOf v p.tokenV (t - len))
      else return ()
    onS fun s => s.modWin r.c r.pos fun x => { x with progress := min count (64 * (b + 1) - len) }
  pokeSeq (s.seqRec id + 16 + 4 * layer) 4 (len + count)
  stampSeq id

/-- REFILL (R272, R278): the 64 tokens of every layer, layer after layer, into a fresh frame (log entry 20). -/
def refillBody : Op Unit := do
  pageHeader true
  onKiln 0
  let id ← fld 24 2
  let b ← fld 28 4
  ownSeq id
  let s ← getS
  let pool := s.seqPool id
  let p := s.pool pool
  let w := s.seqWindow id
  needSeq (decide (b < s.seqBlocks id)) id 2
  needSeq (w == 0 || decide (b + w ≥ s.seqBlocks id)) id 3
  let e := s.pageEntry id (s.entryOf id b)
  needSeq (e.valid && !s.holdsFrame pool e) id 1
  let (ka, va) ← pageSources p
  let (k, v) ← rdKeyValues p ka va (64 * p.layers)
  let new ← allocate id pool
  (List.range p.layers).forM fun l => (List.range 64).forM fun u =>
    writeSlot p new.frame l u (64 * l + u) (tokenOf k p.tokenK (64 * l + u)) (tokenOf v p.tokenV (64 * l + u))
  setEntry id (s.entryOf id b) new
  stampSeq id

/-! ### Commands -/

/-- The sequences that a PAGE_CONTROL names: a FORK names its source too (R271). -/
def pageSeqs (d : Desc) : List Nat := if actionOf d = 3 then [d.field 24 2, d.field 32 2] else [d.field 24 2]

/-- Whether a PAGE_CONTROL dispatched earlier on one of the operation's sequences is still to apply (R271). -/
def State.pageBehind (s : State) (c : Nat) (w : WinOp) : Bool :=
  (s.ctx c).window.any fun v =>
    v.st == .running && opcodeOf v.desc == 0x1A && decide (v.turn < w.turn) && (pageSeqs v.desc).any (pageSeqs w.desc).contains

/-- PAGE_CONTROLs on one sequence apply one at a time in dispatch order (R271). -/
def pageTurn (body : Op Unit) : Op Unit := do
  let r ← get
  match r.s.winOp r.c r.pos with
  | some w => if r.s.pageBehind r.c w then throw (.wait .other) else body
  | none => body

/-- A PAGE_CONTROL command of one action. -/
def pageCmd (a : OpArg) (s : State) (action : Nat) (body : Op Unit) : Result :=
  .next (s.runOp a (fun d => opcodeOf d == 0x1A && actionOf d == action) (pageTurn body))

/-- OPEN (R272). -/
def execOpenSeq (a : OpArg) (s : State) : Result := pageCmd a s 1 openBody
/-- APPEND (R273). -/
def execAppend (a : OpArg) (s : State) : Result := pageCmd a s 2 appendBody
/-- FORK (R272). -/
def execFork (a : OpArg) (s : State) : Result := pageCmd a s 3 forkBody
/-- PIN (R272). -/
def execPin (a : OpArg) (s : State) : Result := pageCmd a s 4 pinBody
/-- UNPIN (R272). -/
def execUnpin (a : OpArg) (s : State) : Result := pageCmd a s 5 unpinBody
/-- FREE (R272). -/
def execFreeSeq (a : OpArg) (s : State) : Result := pageCmd a s 6 freeBody
/-- REFILL (R272). -/
def execRefill (a : OpArg) (s : State) : Result := pageCmd a s 7 refillBody

/-- PAGE_WAIT_RESUME (R276): a parked operation goes on when a frame of its pool is free. -/
def execPageWaitResume (a : OpArg) (s : State) : Result :=
  match s.winOp a.ctx a.pos with
  | none => .next s
  | some w =>
    if w.wait = some .page ∧ (s.freeFrame (s.seqPool (w.desc.field 24 2))).isSome then
      .next (s.runOp a (fun d => opcodeOf d == 0x1A && (actionOf d == 2 || actionOf d == 7))
        (if actionOf w.desc = 2 then appendBody else refillBody))
    else .next s

/-- PAGE_WAIT_LONG (R276): event 0x0704 once for the wait. -/
def execPageWaitLong (c pos : Nat) (s : State) : Result :=
  .next <|
    match s.winOp c pos with
    | none => s
    | some w =>
      if w.wait ≠ some .page ∨ w.told then s
      else (s.modWin c pos fun v => { v with told := true }).raiseCtx c (some pos) 0x0704
        (s.seqPool (w.desc.field 24 2) + ((pos % 2 ^ 64) <<< 64))

end Sys2Proof.Machine
end

