-- ==== Sys2Proof/Machine/Approx.lean ====
section
/-! DEFINITION. The approximations of R94 and R282: the true value of each function in fixed point, far finer than F32, and the F32 values
within 2 ulp of it, among which the module's own one is free (log entry 3). -/

namespace Sys2Proof.Machine.Approx

open Sys2Proof.Flt

/-- Fraction bits of the fixed point. -/
def fb : Nat := 256

/-- 1. -/
def one : Int := 2 ^ fb

/-- The fixed-point number nearest below `m * 2^e`. -/
def ofScaled (m : Int) (e : Int) : Int :=
  let k := e + (fb : Int)
  if 0 ≤ k then m * 2 ^ k.toNat else m / 2 ^ (-k).toNat

/-- Product and quotient of fixed-point numbers. -/
def mul (x y : Int) : Int := x * y / one
def div (x y : Int) : Int := x * one / y

/-- `arctan (1 / k)` times 2^p, by `n` terms of its series, from term `i` on. -/
def arctanInv (p k : Nat) : Nat → Nat → Int
  | 0, _ => 0
  | n + 1, i =>
    let t : Int := 2 ^ p / ((2 * i + 1) * k ^ (2 * i + 1))
    (if i % 2 = 0 then t else -t) + arctanInv p k n (i + 1)

/-- Half of pi times 2^p, by Machin's formula. -/
def halfPi (p : Nat) : Int := 8 * arctanInv p 5 (p / 4 + 2) 0 - 2 * arctanInv p 239 (p / 15 + 2) 0

/-- The series of `artanh t`: sum of t^(2i+1) / (2i+1), from term `i` on, with `pw` the power of t reached. -/
def artanhSum (tt : Int) : Nat → Nat → Int → Int
  | 0, _, _ => 0
  | n + 1, i, pw => pw / (2 * i + 1 : Nat) + artanhSum tt n (i + 1) (mul pw tt)

/-- artanh of a number below 1/3 in magnitude. -/
def artanh (t : Int) : Int := artanhSum (mul t t) 90 0 t

/-- The natural logarithm of 2. -/
def ln2 : Int := 2 * artanh (one / 3)

/-- The series of exp: sum of r^i / i!, from term `i` on. -/
def expSum (r : Int) : Nat → Nat → Int → Int
  | 0, _, _ => 0
  | n + 1, i, term => term + expSum r n (i + 1) (mul term r / (i + 1 : Nat))

/-- exp of a number between -256 and 256: the argument is reduced by a multiple of ln 2. -/
def exp (x : Int) : Int :=
  let k := (x + ln2 / 2) / ln2
  let y := expSum (x - k * ln2) 70 0 one
  if 0 ≤ k then y * 2 ^ k.toNat else y / 2 ^ (-k).toNat

/-- log of m * 2^e, m not zero: the argument is brought to [2/3, 4/3). -/
def log (m : Nat) (e : Int) : Int :=
  let l := ilog m e
  let z := ofScaled m (e - l)
  let (z, l) := if 3 * z ≥ 4 * one then (z / 2, l + 1) else (z, l)
  l * ln2 + 2 * artanh (div (z - one) (z + one))

/-- The series of erf without its factor: sum of (-1)^i x^(2i+1) / (i! (2i+1)), with `term` the x^(2i+1) / i! reached. -/
def erfSum (xx : Int) : Nat → Nat → Int → Int
  | 0, _, _ => 0
  | n + 1, i, term => term / (2 * i + 1 : Nat) + erfSum xx n (i + 1) (-(mul term xx / (i + 1 : Nat)))

/-- erf of a number below 10 in magnitude. -/
def erf (x : Int) : Int :=
  let rootPi : Int := isqrt (2 * halfPi (2 * fb)).toNat
  div (2 * erfSum (mul x x) 420 0 x) rootPi

/-- The series of sin (odd) and cos (even): sum of (-1)^j r^i / i! over every second i. -/
def trigSum (rr : Int) : Nat → Nat → Int → Int
  | 0, _, _ => 0
  | n + 1, i, term => term + trigSum rr n (i + 2) (-(mul term rr / ((i + 1) * (i + 2) : Nat)))

/-- sin of m * 2^e plus `q` quarter turns: the argument is reduced by a multiple of half of pi, held in 768 bits. -/
def sin (m : Int) (e : Int) (q : Int) : Int :=
  let p : Nat := 768
  let x : Int := if 0 ≤ e + (p : Int) then m * 2 ^ (e + (p : Int)).toNat else m / 2 ^ (-(e + (p : Int))).toNat
  let h := halfPi p
  let k := (x + h / 2) / h
  let r := (x - k * h) / 2 ^ (p - fb)
  let n := (k + q) % 4
  let y := if n % 2 = 0 then trigSum (mul r r) 40 1 r else trigSum (mul r r) 40 0 one
  if n ≥ 2 then -y else y

/-- What the spec fixes of an approximation's result. -/
inductive Target where
  /-- within 2 ulp of a fixed-point number. -/
  | near (y : Int)
  /-- exactly these F32 bits. -/
  | exact (bits : Nat)
  /-- no real value: nothing is stated. -/
  | open_
deriving DecidableEq, Repr

/-- The function's true value on a value that is no NaN. Where exp leaves the range of F32 the value is its limit; a logarithm or reciprocal
root of zero or of a negative number, and the sine of an infinity, have no stated result. -/
def target (a : Approx) : Val → Target
  | .nan _ => .open_
  | .inf neg =>
    match a with
    | .exp => .exact (if neg then 0 else infBits fmtF32 false)
    | .log => if neg then .open_ else .exact (infBits fmtF32 false)
    | .rsqrt => if neg then .open_ else .near 0
    | .tanh => .near (if neg then -one else one)
    | .erf => .near (if neg then -one else one)
    | .sigmoid => .near (if neg then 0 else one)
    | .sin => .open_
    | .cos => .open_
  | .fin neg m e =>
    let big (lim : Nat) : Bool := m != 0 && decide ((lim : Int) ≤ ilog m e)
    let x : Int := if neg then -ofScaled m e else ofScaled m e
    let side (lo hi : Int) : Int := if neg then lo else hi
    match a with
    | .exp => if big 8 then (if neg then .near 0 else .exact (infBits fmtF32 false)) else .near (exp x)
    | .log => if m = 0 ∨ neg then .open_ else .near (log m e)
    | .rsqrt =>
      if m = 0 ∨ neg then .open_
      else .near (isqrt (2 ^ (4 * fb) / (ofScaled m (e + (fb : Int))).toNat))
    | .tanh =>
      if big 7 then .near (side (-one) one)
      else
        let u := exp (-2 * ofScaled m e)
        let t := div (one - u) (one + u)
        .near (if neg then -t else t)
    | .sigmoid =>
      if big 8 then .near (side 0 one)
      else
        let u := exp (-ofScaled m e)
        .near (if neg then div u (one + u) else div one (one + u))
    | .erf => if big 4 then .near (side (-one) one) else .near (erf x)
    | .sin => .near (sin (if neg then -(m : Int) else m) e 0)
    | .cos => .near (sin (if neg then -(m : Int) else m) e 1)

/-- The fixed-point value of the F32 number that is the n-th from zero, up or down. -/
def ofOrdinal (n : Int) : Int :=
  let v : Int := match decode fmtF32 n.natAbs with
    | .fin _ m e => ofScaled m e
    | _ => 2 ^ (128 + fb)
  if n < 0 then -v else v

/-- One ulp of F32 at a fixed-point number: of its binade, of the subnormals near zero. -/
def ulp (y : Int) : Int := ofScaled 1 (max (if y = 0 then -126 else ilog y.natAbs (-(fb : Int))) (-126) - 23)

/-- The F32 bits of an ordinal, both zeros for zero. -/
def bitsOf (n : Int) : List Nat := if n = 0 then [0, 2 ^ 31] else if n < 0 then [2 ^ 31 + n.natAbs] else [n.natAbs]

/-- The F32 values within 2 ulp of a fixed-point number, whose own error is far below a thousandth of an ulp; beyond the largest finite value
infinity. -/
def within2 (y : Int) : List Nat :=
  let r := (roundFin fmtF32 .even false y.natAbs (-(fb : Int))).1
  let c : Int := if y < 0 then -(r : Int) else r
  ([-3, -2, -1, 0, 1, 2, 3].filter fun d =>
    decide ((c + d).natAbs ≤ 0x7F800000) && (d == 0 || decide (1024 * (ofOrdinal (c + d) - y).natAbs ≤ 2049 * (ulp y).natAbs))).flatMap
      fun d => bitsOf (c + d)

/-- The element of a list that a free value chooses. -/
def pick (l : List Nat) (free : BitVec 32) : Nat := l.getD (free.toNat % l.length) 0

end Sys2Proof.Machine.Approx

namespace Sys2Proof.Machine

open Sys2Proof.Flt

/-- An approximation on F32 (R94, R282): a NaN operand gives the canonical NaN, a signalling one invalid operation (R24); otherwise one of
the values within 2 ulp of the true one, free among them, as its flags are (log entry 3). -/
def approxOp (a : Approx) (x : Nat) : Nat × Flags :=
  let v := decode fmtF32 x
  match v with
  | .nan sig => (nanBits fmtF32, { nv := sig })
  | _ =>
    let free := Config.approx a (BitVec.ofNat 32 x)
    let f := Config.approxFlags a (BitVec.ofNat 32 x)
    let y := match Approx.target a v with
      | .near y => Approx.pick (Approx.within2 y) free
      | .exact b => b
      | .open_ => if (decode fmtF32 free.toNat).isNan then nanBits fmtF32 else free.toNat
    (y, { nx := f.1, nv := f.2 })

end Sys2Proof.Machine
end

