-- ==== Sys2Proof/Machine/VectorOps.lean ====
section
/-! DEFINITION. The vector unit (R94, R95): registers, lanes, the forms of instructions, shelf accesses, and what one instruction does
to a kiln. -/

namespace Sys2Proof.Machine

open Sys2Proof.Flt

/-- A decoded vector instruction (R94). -/
structure VI where
  opc : Nat
  vd : Nat
  va : Nat
  vb : Nat
  vc : Nat
  pg : Nat
  rnd : Nat
  type : Nat
  imm : Int
deriving DecidableEq, Repr

/-- The fields of an instruction word (R94). -/
def viOf (w : Word) : VI :=
  let x := w.toNat
  { opc := bits x 0 8, vd := bits x 8 5, va := bits x 13 5, vb := bits x 18 5, vc := bits x 23 5, pg := bits x 28 3, rnd := bits x 31 2,
    type := bits x 33 2, imm := (BitVec.ofNat 29 (x >>> 35)).toInt }

/-- Rounding direction of the rnd field. -/
def VI.rm (i : VI) : Rm := if i.rnd = 0 then .even else if i.rnd = 1 then .up else if i.rnd = 2 then .down else .zero

/-- The IEEE format of the type field; F32 or F16 only. -/
def VI.fmt (i : VI) : Option Fmt := if i.type = 0 then some fmtF32 else if i.type = 1 then some fmtF16 else none

/-- Vector register r. -/
def Vu.vreg (u : Vu) (r : Nat) : Nat := (alook r u.v).getD 0
/-- Put a vector register. -/
def Vu.setV (u : Vu) (r x : Nat) : Vu := { u with v := if x = 0 then adel r u.v else aset r x u.v }
/-- Predicate register p; p0 reads all ones (R94). -/
def Vu.preg (u : Vu) (p : Nat) : Nat := if p = 0 then allLanes else (alook p u.p).getD allLanes
/-- Put a predicate register; p0 ignores writes. -/
def Vu.setP (u : Vu) (p x : Nat) : Vu := if p = 0 then u else { u with p := if x = allLanes then adel p u.p else aset p x u.p }
/-- Scalar register. -/
def Vu.sreg (u : Vu) (r : Nat) : Nat := (alook (r % 16) u.s).getD 0
/-- Put a scalar register. -/
def Vu.setS (u : Vu) (r x : Nat) : Vu :=
  let x := x % 2 ^ 64
  { u with s := if x = 0 then adel (r % 16) u.s else aset (r % 16) x u.s }

/-- Lane l of a register. -/
def Vu.lane (u : Vu) (r l : Nat) : Nat := bits (u.vreg r) (32 * l) 32

/-- Whether a lane is governed. -/
def Vu.active (u : Vu) (i : VI) (l : Nat) : Bool := (u.preg i.pg).testBit l

/-- 512 lanes as a register value. -/
def joinLanes (f : Nat → Nat) : Nat := (List.range 512).foldr (fun l acc => f l % 2 ^ 32 + (acc <<< 32)) 0

/-- Write the governed lanes of vd; the others keep their contents (R94). -/
def Vu.write (u : Vu) (i : VI) (f : Nat → Nat) : Vu := u.setV i.vd (joinLanes fun l => if u.active i l then f l else u.lane i.vd l)

/-- Write governed lanes with flags ORed in. -/
def Vu.writeF (u : Vu) (i : VI) (f : Nat → Nat × Flags) : Vu :=
  let fl := (List.range 512).foldl (fun (a : Flags) l => if u.active i l then a.or (f l).2 else a) {}
  { u.write i (fun l => (f l).1) with flags := u.flags ||| fl.toNat }

/-- Write the governed lanes of the predicate pd. -/
def Vu.writeP (u : Vu) (i : VI) (f : Nat → Bool) : Vu :=
  let pd := i.vd % 8
  u.setP pd ((List.range 512).foldr (fun l acc =>
    (if (if u.active i l then f l else (u.preg pd).testBit l) then 1 else 0) + (acc <<< 1)) 0)

/-- A result of a format in a lane: an F16 result stands in the low 16 bits (R94). -/
def inLane (f : Fmt) (old x : Nat) : Nat :=
  if f.width = 16 then x % 65536 + ((Config.f16High (BitVec.ofNat 32 old) (BitVec.ofNat 16 x)).toNat <<< 16) else x

/-- An operand of a format out of a lane. -/
def outLane (f : Fmt) (x : Nat) : Nat := x % 2 ^ f.width

/-- Why an instruction does not complete: a cause of event 0x06C1 (R502), or a reserved format code, event 0x06C0 (R90). -/
inductive VStop where
  | fault (cause : Nat)
  | format
deriving DecidableEq, Repr

/-- What an instruction answers. -/
abbrev VResult := Except VStop State

/-- An instruction on registers only. -/
def onVu (k : Nat) (s : State) (f : Vu → Option Vu) : VResult :=
  match f (s.kiln k).vu with
  | some u => .ok (s.modKiln k fun x => { x with vu := u })
  | none => .error (.fault 2)

/-- Forms of a floating-point instruction: one, two or three operands; a type that is no IEEE format has no such instruction. -/
def fp1 (i : VI) (op : Fmt → Rm → Nat → Nat × Flags) (u : Vu) : Option Vu :=
  i.fmt.map fun f => u.writeF i fun l =>
    let (x, fl) := op f i.rm (outLane f (u.lane i.va l))
    (inLane f (u.lane i.vd l) x, fl)
/-- Two operands. -/
def fp2 (i : VI) (op : Fmt → Rm → Nat → Nat → Nat × Flags) (u : Vu) : Option Vu :=
  i.fmt.map fun f => u.writeF i fun l =>
    let (x, fl) := op f i.rm (outLane f (u.lane i.va l)) (outLane f (u.lane i.vb l))
    (inLane f (u.lane i.vd l) x, fl)
/-- Three operands. -/
def fp3 (i : VI) (op : Fmt → Rm → Nat → Nat → Nat → Nat × Flags) (u : Vu) : Option Vu :=
  i.fmt.map fun f => u.writeF i fun l =>
    let (x, fl) := op f i.rm (outLane f (u.lane i.va l)) (outLane f (u.lane i.vb l)) (outLane f (u.lane i.vc l))
    (inLane f (u.lane i.vd l) x, fl)

/-- Turn the sign of F bits, NaN included: the sign operations of R94 set no flags. -/
def flipSign (f : Fmt) (x : Nat) : Nat := if x.testBit (f.eb + f.fb) then x - 2 ^ (f.eb + f.fb) else x + 2 ^ (f.eb + f.fb)
/-- Clear the sign. -/
def clearSign (f : Fmt) (x : Nat) : Nat := x % 2 ^ (f.eb + f.fb)

/-- An approximation instruction: F32 only. -/
def approxInstr (i : VI) (a : Approx) (u : Vu) : Option Vu :=
  if i.type = 0 then some (u.writeF i fun l => approxOp a (u.lane i.va l)) else none

/-- An integer or bit instruction, modulo 2^32. -/
def int2 (i : VI) (op : Nat → Nat → Nat) (u : Vu) : Option Vu :=
  some (u.write i fun l => op (u.lane i.va l) (u.lane i.vb l) % 2 ^ 32)

/-- A shift by 32 or more places: R94 states no result (log entry 76). -/
def shiftPast (opc a b : Nat) : Nat := (Config.shiftPast opc (BitVec.ofNat 32 a) (BitVec.ofNat 32 b)).toNat

/-- Signed value of 32 or 64 bits. -/
def sint (w x : Nat) : Int := (BitVec.ofNat w x).toInt

/-- A comparison by condition number: EQ, NE, LT, LE, GT, GE, UN. -/
def condOf (n : Int) (lt eq un : Bool) : Option Bool :=
  if n = 0 then some (eq && !un)
  else if n = 1 then some (!eq || un)
  else if n = 2 then some (lt && !un)
  else if n = 3 then some ((lt || eq) && !un)
  else if n = 4 then some (!lt && !eq && !un)
  else if n = 5 then some (!lt && !un)
  else if n = 6 then some un
  else none

/-- Compare two lanes under a type: less, equal, unordered, flags. -/
def cmpLane (type a b : Nat) : Bool × Bool × Bool × Flags :=
  if type ≤ 1 then
    let f := if type = 0 then fmtF32 else fmtF16
    let x := decode f (outLane f a)
    let y := decode f (outLane f b)
    (ltVal x y, eqVal x y, x.isNan || y.isNan, { nv := x.isSnan || y.isSnan })
  else if type = 2 then (decide (sint 32 a < sint 32 b), a == b, false, {})
  else (decide (a < b), a == b, false, {})

/-- One value as an exact number under a type. -/
def typeVal (type x : Nat) : Val :=
  if type = 0 then decode fmtF32 x
  else if type = 1 then decode fmtF16 (x % 65536)
  else if type = 2 then .fin (decide (sint 32 x < 0)) (sint 32 x).natAbs 0
  else .fin false x 0

/-- Conversion of a lane (R94 VCVT): an integer target out of range or from a NaN is a free value with invalid operation (log entry 7). -/
def cvtLane (rm : Rm) (src dst old x : Nat) : Nat × Flags :=
  let v := typeVal src x
  if dst = 0 then toIeee fmtF32 rm v
  else if dst = 1 then
    let (y, f) := toIeee fmtF16 rm v
    (inLane fmtF16 old y, f)
  else
    let free := ((Config.cvtOutOfRange (dst == 2) (BitVec.ofNat 32 x)).toNat, ({ nv := true } : Flags))
    match v with
    | .fin neg m e =>
      let (q, lost) := roundUnits rm neg m e 0
      let z : Int := if neg then -(q : Int) else q
      if dst = 2 then
        if -(2 ^ 31) ≤ z ∧ z < 2 ^ 31 then ((BitVec.ofInt 32 z).toNat, { nx := lost }) else free
      else if 0 ≤ z ∧ z < 2 ^ 32 then (z.toNat, { nx := lost }) else free
    | _ => free

/-- One level of a pairwise tree over an operation. -/
def pairLevel (op : Nat → Nat → Nat × Flags) : List Nat → List Nat × Flags
  | x :: y :: rest =>
    let (s, f1) := op x y
    let (ys, f2) := pairLevel op rest
    (s :: ys, f1.or f2)
  | l => (l, {})

/-- Nine levels over 512 lanes. -/
def pairTree (op : Nat → Nat → Nat × Flags) : Nat → List Nat → Nat × Flags
  | 0, l => (l.headD 0, {})
  | n + 1, l =>
    let (l1, f1) := pairLevel op l
    let (x, f2) := pairTree op n l1
    (x, f1.or f2)

/-- A reduction over all lanes; the result in all governed lanes of vd (R94). -/
def reduce (i : VI) (op : Fmt → Rm → Nat → Nat → Nat × Flags) (u : Vu) : Option Vu :=
  i.fmt.map fun f =>
    let (x, fl) := pairTree (op f i.rm) 9 ((List.range 512).map fun l => outLane f (u.lane i.va l))
    { u.write i (fun l => inLane f (u.lane i.vd l) x) with flags := u.flags ||| fl.toNat }

/-! ### Shelf accesses -/

/-- Whether a program may reach `n` bytes at a shelf offset: a block buffer or the resident area (R94). -/
def State.reaches (s : State) (k off n : Nat) : Bool :=
  let u := (s.kiln k).vu
  decide (off + n ≤ s.residentSize u.owner.1) || u.bufs.any fun b => decide (b.1 ≤ off ∧ off + n ≤ b.1 + b.2)

/-- Module address of a shelf offset. -/
def shelfAt (k off : Nat) : Nat := 0x7800000000 + k * 0x800000 + off

/-- Bytes at a shelf offset. -/
def State.shelfNat (s : State) (k off n : Nat) : Nat := s.memNat (shelfAt k off) n

/-- The 64 KiB blocks of a resident area of `res` bytes that `n` bytes at a shelf offset touch. -/
def residentBlocks (res off n : Nat) : List Nat :=
  if n = 0 then [] else ((List.range ((off + n - 1) / 65536 + 1 - off / 65536)).map fun i => off / 65536 + i).filter fun b => decide (b * 65536 < res)

/-- Store a number at a shelf offset; every resident block that it touches is marked (R82). -/
def State.shelfPut (s : State) (k off n v : Nat) : State :=
  let s := s.poke (shelfAt k off) (leBytes n v)
  let res := s.residentSize (s.kiln k).vu.owner.1
  s.modKiln k fun x => { x with dirty := x.dirty ++ (residentBlocks res off n).filter fun b => !x.dirty.contains b }

/-- The governed lanes, in order. -/
def Vu.actives (u : Vu) (i : VI) : List Nat := (List.range 512).filter fun l => u.active i l

/-- Bytes of a lane in a load or store of a type: 2 for F16, else 4 (R94 names no element size: DESIGN CHOICE, log entry 21). -/
def typeBytes (type : Nat) : Nat := if type = 1 then 2 else 4

/-- Load governed lanes from offsets given by lane (R94). -/
def loadLanes (k : Nat) (i : VI) (s : State) (off : Nat → Int) : VResult :=
  let u := (s.kiln k).vu
  let n := typeBytes i.type
  let val (l : Nat) : Nat :=
    let v := s.shelfNat k (off l).toNat n
    if n = 2 then inLane fmtF16 (u.lane i.vd l) v else v
  if (u.actives i).all (fun l => decide (0 ≤ off l) && s.reaches k (off l).toNat n) then
    .ok (s.modKiln k fun x => { x with vu := u.write i val })
  else .error (.fault 3)

/-- Store governed lanes of register vd to offsets given by lane; of two that meet, the highest lane stays (R94). -/
def storeLanes (k : Nat) (i : VI) (s : State) (off : Nat → Int) : VResult :=
  let u := (s.kiln k).vu
  let n := typeBytes i.type
  if (u.actives i).all (fun l => decide (0 ≤ off l) && s.reaches k (off l).toNat n) then
    .ok ((u.actives i).foldl (fun s l => s.shelfPut k (off l).toNat n (u.lane i.vd l)) s)
  else .error (.fault 3)

/-- Byte offset and shift of element l of a packed format. -/
def packedAt (f l : Nat) : Nat × Nat := (fmtBits f * l / 8, fmtBits f * l % 8)
/-- Bytes that element l touches. -/
def packedBytes (f l : Nat) : Nat := (fmtBits f * l % 8 + fmtBits f + 7) / 8

/-- The F32 that VLDN widens an element to, with the flags of that conversion (R23 to R25, R94). An F32 element is loaded as it is, a B16
element is the upper half of the F32: a signalling NaN stays signalling (R25), a quiet one becomes the canonical NaN (R24). I4 and I8 are
taken as signed integers (DESIGN CHOICE, log entry 21). -/
def widenElem (f code : Nat) : Nat × Flags :=
  if f = 8 then roundFin fmtF32 .even (decide (sint 4 code < 0)) (sint 4 code).natAbs 0
  else if f = 9 then roundFin fmtF32 .even (decide (sint 8 code < 0)) (sint 8 code).natAbs 0
  else if f = 0 then (code, {})
  else if f = 2 then (if decodeElem 2 code = .nan false then nanBits fmtF32 else code <<< 16, {})
  else toIeee fmtF32 .even (decodeElem f code)

/-! ### Running an instruction -/

/-- Where the sequencer goes after an instruction that is no branch: past it, or back to the start of a loop that it ends. -/
def endLoops (pc : Nat) : List (Nat × Nat × Nat) → Nat × List (Nat × Nat × Nat)
  | [] => (pc + 1, [])
  | (st, en, rem) :: rest =>
    if pc = en then (if rem > 1 then (st, (st, en, rem - 1) :: rest) else endLoops pc rest) else (pc + 1, (st, en, rem) :: rest)

/-- Go on to the next instruction. -/
def Vu.advance (u : Vu) : Vu :=
  let (pc, loops) := endLoops u.pc u.loops
  { u with pc := pc, loops := loops }

/-- Payload of 0x06C1 (R502). -/
def vfaultPayload (cause index pos block : Nat) : Nat :=
  cause + ((index % 2 ^ 32) <<< 32) + ((pos % 2 ^ 64) <<< 64) + ((block % 2 ^ 64) <<< 128)

/-- The event, outcome and payload of a stop of the block `block` at instruction `index`. A reserved format code is refused with event
0x06C0 and the field program_addr (R90; log entry 21). -/
def VStop.report (v : VStop) (index pos block : Nat) : Nat × Nat × Nat :=
  match v with
  | .fault cause => (0x06C1, 2, vfaultPayload cause index pos block)
  | .format => (0x06C0, 1, refusal 24 0 pos)

/-- A vector program stops (R87, R90, R94): the VECTOR operation that the kiln serves stops with it; with none, nothing happens. -/
def State.vfault (s : State) (k : Nat) (v : VStop) : State :=
  let u := (s.kiln k).vu
  match s.winOp u.owner.1 u.owner.2 with
  | some w =>
    if w.st = .running ∧ opcodeOf w.desc = 0x28 then
      let e := v.report u.pc w.pos (u.sreg 6)
      ((s.modKiln k fun x => { x with vu := { x.vu with halted := true } }).failOp u.owner.1 w e.2.1 e.1 e.2.2 w.endPayload).settleKilns u.owner.1
    else s
  | none => s

/-- A vector instruction command: the kiln executes the word when its opcode is `opc`, in RUN alone (R418), and only while it serves the
context whose program its vector unit holds (R75). -/
def State.vinstr (s : State) (k opc : Nat) (w : Word) (body : Nat → VI → State → VResult) : State :=
  let i := viOf w
  if k ≥ 48 ∨ i.opc ≠ opc ∨ s.pwr.life ≠ .ready ∨ s.pwr.current ≠ 0 ∨ ¬ s.holds k (s.kiln k).vu.owner.1 then s
  else match body k i s with
    | .ok s => s.modKiln k fun x => { x with vu := { x.vu with count := x.vu.count + 1 } }
    | .error v => s.vfault k v

/-- Registers only, then on to the next instruction. -/
def plain (k : Nat) (s : State) (f : Vu → Option Vu) : VResult := onVu k s fun u => (f u).map Vu.advance

/-- A load or store, then on to the next instruction. -/
def thenNext (k : Nat) (r : VResult) : VResult := r.map fun s => s.modKiln k fun x => { x with vu := x.vu.advance }

end Sys2Proof.Machine
end

