-- ==== Sys2Proof/Machine/Attention.lean ====
section
/-! DEFINITION. Attention (R278 to R288): ATTENTION_FWD and ATTENTION_BWD. -/

namespace Sys2Proof.Machine

open Sys2Proof.Flt

/-! ### Arithmetic that gathers flags -/

/-- Keep the flags of a result. -/
def fl (x : Nat × Flags) : Op Nat := do
  addFlags x.2
  return x.1

/-- rne_f32 of a product, a sum, a difference, a quotient of F32 values. -/
def fMul (a b : Nat) : Op Nat := fl (mul fmtF32 .even a b)
def fAdd (a b : Nat) : Op Nat := fl (add fmtF32 .even a b)
def fSub (a b : Nat) : Op Nat := fl (sub fmtF32 .even a b)
def fDiv (a b : Nat) : Op Nat := fl (div fmtF32 .even a b)
def fFma (a b c : Nat) : Op Nat := fl (fma fmtF32 .even a b c)
/-- vexp of R94. -/
def fExp (a : Nat) : Op Nat := fl (approxOp .exp a)
/-- partial_sum of R68. -/
def fSum (xs : List Nat) : Op Nat := fl (treeSum xs)

/-- F32 -infinity and the canonical NaN. -/
def negInf : Nat := infBits fmtF32 true
def nan32 : Nat := nanBits fmtF32

/-- A product of R60 in shape S with no initial value: a format's products per cycle, operand values and scale codes by product group
(a context's heritage mode is for PRODUCT only, R128). Event 0x0208 counts the runs that overflow (R58). -/
def prodS (len p : Nat) (a b : Nat → Val) (sa sb : Nat → Nat) : Op Nat := do
  let x := element false 0 len p 0 a b sa sb
  addFlags x.flags
  tellCount 0x0208 (if x.excess then 1 else 0) 0
  return x.total

/-- No scales. -/
def unitScale (_ : Nat) : Nat := 0x7F

/-- Conversion to B16 under R40, with the flags and the runs of 32 that R32 and R48 count; `first` is the index of its first run, counted
from the start of the vector's own array (log entry 82). -/
def toB16 (first : Nat) (x : Array Val) : Op (Array Val) := do
  let outs := (List.range (ceilDiv x.size 32)).map fun j =>
    convertGroup 2 0x7F false (((x.toList.drop (32 * j)).take 32).map (legValue 0 false 2))
  addFlags (outs.foldl (fun f o => f.or o.flags) {})
  countGroups first outs
  return ((outs.flatMap (·.codes)).map (decode fmtB16)).toArray

/-- b16 of F32 results, as F32 values. -/
def b16All (first : Nat) (xs : List Nat) : Op (List Nat) := do
  return (← toB16 first ((xs.map (decode fmtF32)).toArray)).toList.map widenF32

/-! ### Parameters (R279, R286) -/

/-- The fields that both directions share, with the parameter block. -/
structure AttArgs where
  seqs : Nat
  layer : Nat
  qHeads : Nat
  flags : Nat
  list : Nat
  q : Nat
  scale : Nat
  window : Nat
  rotDim : Nat
  rotMode : Nat
  freq : Array Nat
  uk : Nat
  uv : Nat
  capacity : Nat
  recompute : Nat

def AttArgs.causal (a : AttArgs) : Bool := a.flags.testBit 0
def AttArgs.qkF8 (a : AttArgs) : Bool := a.flags.testBit 1
def AttArgs.outFmt (a : AttArgs) : Nat := bits a.flags 2 2
/-- Format code of the queries. -/
def AttArgs.qFmt (a : AttArgs) : Nat := if a.flags.testBit 4 then 2 else 0
def AttArgs.policy (a : AttArgs) : Bool := a.flags.testBit 5
def AttArgs.doFmt (a : AttArgs) : Nat := if a.flags.testBit 6 then 2 else 0

/-- One entry of the sequence list, with the record and pool it names (R279, R280). -/
structure AttSeq where
  id : Nat
  qCount : Nat
  qOffset : Nat
  qFirst : Nat
  gradFirst : Nat
  gradOffset : Nat
  poolNum : Nat
  pool : Pool
  /-- length[layer] at the start. -/
  len : Nat
  first : Nat
  window : Nat
  /-- one more than the highest block of any layer. -/
  top : Nat
  /-- entries captured at the start. -/
  entries : Array PageEntry
  /-- which of them hold their frames. -/
  held : Array Bool

/-- The checks of both bodies that need no memory, and the parameter block (R279, R286). -/
def attArgs (bwd : Bool) : Op AttArgs := do
  let w ← fld 16 8
  need (if bwd then bits w 8 2 == 1 else bits w 8 2 == 0 || w.testBit 10) 16 8
  let seqs ← fld 24 2
  let layer ← fld 26 1
  let qHeads ← fld 27 1
  let flags ← fld 28 4
  need (1 ≤ seqs ∧ seqs ≤ 6144) 24
  need (1 ≤ qHeads ∧ qHeads ≤ 64) 27
  need (bits flags 2 2 ≠ 3) 28 2
  need (bits flags 7 25 = 0) 28 7
  need (bwd || !flags.testBit 6) 28 6
  let param ← fld 32 8
  let list ← fld 40 8
  let q ← fld 48 8
  checkAddr param 32
  checkAddr list 40
  checkAddr q 48
  let rcAt := if bwd then 104 else 72
  let recompute ← useAddr (flags.testBit 5) rcAt
  let capacity ← fld (rcAt + 8) 4
  if bwd then needZero 116 12 else needZero 84 44
  onKiln 0
  let pb ← rd param 64
  let rotDim := numAt pb 8 2
  need (rotDim % 2 = 0 ∧ rotDim ≤ 256) 32
  need (numAt pb 10 1 ≤ 1) 32
  let freq ← if rotDim = 0 then pure #[] else rdTensor 0 (numAt pb 16 8) 1 (rotDim / 2)
  return { seqs := seqs, layer := layer, qHeads := qHeads, flags := flags, list := list, q := q, scale := numAt pb 0 4,
           window := numAt pb 4 4, rotDim := rotDim, rotMode := numAt pb 10 1, freq := freq, uk := numAt pb 24 8, uv := numAt pb 32 8,
           capacity := capacity, recompute := recompute }

/-- Whether a token is admitted for a query at position p (R281). -/
def AttSeq.admits (a : AttArgs) (e : AttSeq) (p t : Nat) : Bool :=
  decide (t < e.len) && (!a.causal || decide (e.first + t ≤ p)) && (a.window == 0 || decide (e.first + t + a.window > p))

/-- Whether some query of the entry admits a token. -/
def AttSeq.anyAdmits (a : AttArgs) (e : AttSeq) (t : Nat) : Bool := (List.range e.qCount).any fun i => e.admits a (e.qFirst + i) t

/-- Whether a block is still held in its ring (R274). -/
def AttSeq.inRing (e : AttSeq) (b : Nat) : Bool := e.window == 0 || decide (b + e.window ≥ e.top)

/-- Entry index of a block. -/
def AttSeq.slot (e : AttSeq) (b : Nat) : Nat := if e.window = 0 then b else b % e.window

/-- A dropped span: a block whose entry does not hold its frame (R278). -/
def AttSeq.dropped (e : AttSeq) (b : Nat) : Bool := !e.held.getD (e.slot b) false

/-- The blocks that some query admits. -/
def AttSeq.blocks (a : AttArgs) (e : AttSeq) : List Nat :=
  (List.range (ceilDiv e.len 64)).filter fun b => (List.range 64).any fun u => e.anyAdmits a (64 * b + u)

/-- Read and check one entry of the sequence list (R265, R279, R281, R288). -/
def attSeq (a : AttArgs) (bwd : Bool) (lb : List Byte) : Op AttSeq := do
  let s ← getS
  let id := numAt lb 0 2
  let qCount := numAt lb 4 4
  need (id < 6144) 40
  need (1 ≤ qCount ∧ qCount ≤ 32768) 40
  touchSeq id
  needSeq (s.memNat (s.seqRec id) 1 == 1) id 1
  needSeq (s.memNat (s.seqRec id + 4) 2 == (← opCtx)) id 4
  let pn := s.seqPool id
  let p := s.pool pn
  needPool (decide (a.layer < p.layers)) pn
  needPool (a.qHeads % p.heads == 0) pn
  needPool (if p.latent then a.rotDim == p.rope && decide (p.rope ≤ p.dim) else decide (a.rotDim ≤ p.dim)) pn
  if bwd ∧ a.qHeads / p.heads * qCount > 131072 then throw (.refuse 0x0209 (((← opPos) % 2 ^ 64) <<< 64))
  let es := (List.range 512).map fun j => s.pageEntry id j
  let e : AttSeq :=
    { id := id, qCount := qCount, qOffset := numAt lb 8 4, qFirst := numAt lb 12 4, gradFirst := numAt lb 16 4, gradOffset := numAt lb 20 4,
      poolNum := pn, pool := p, len := s.seqLength id a.layer, first := s.seqFirst id, window := s.seqWindow id, top := s.seqBlocks id,
      entries := es.toArray, held := (es.map fun x => s.holdsFrame pn x).toArray }
  needSeq ((e.blocks a).all e.inRing) id 3
  return e

/-- The sequences of the operation, all with one geometry (R279), their frames touched (R280). -/
def attSeqs (a : AttArgs) (bwd : Bool) : Op (List AttSeq) := do
  let lb ← rd a.list (32 * a.seqs)
  let es ← (List.range a.seqs).mapM fun i => attSeq a bwd ((lb.drop (32 * i)).take 32)
  match es with
  | e :: rest =>
    rest.forM fun x => needPool (x.pool.heads == e.pool.heads && x.pool.dim == e.pool.dim && x.pool.latent == e.pool.latent) x.poolNum
  | [] => pure ()
  es.forM fun e => (e.entries.toList.zip e.held.toList).forM fun x => if x.2 then touchFrame e.poolNum x.1.frame else return ()
  return es

/-- Dropped spans under dropped_policy (R278), each once for its sequence: event 0x0702 with their count and the first; the first reader marks the entry; under
policy 1 one recompute record each. -/
def attDropped (a : AttArgs) (es : List AttSeq) : Op Unit := do
  let all := es.flatMap fun e => ((e.blocks a).filter e.dropped).map fun b => (e, b)
  let spans := all.foldl (fun l x => if l.any fun y => y.1.id == x.1.id && y.2 == x.2 then l else l ++ [x]) []
  match spans with
  | [] => return ()
  | (e0, b0) :: _ => do
    let payload := spans.length + (e0.id <<< 32) + (((← opPos) % 2 ^ 64) <<< 64) + (b0 <<< 128)
    spans.forM fun (x : AttSeq × Nat) => do
      let s ← getS
      let e := s.pageEntry x.1.id (x.1.slot x.2)
      if e.dropped then return ()
      let n := s.memNat (s.seqRec x.1.id + 12) 4
      wrMod (s.seqList x.1.id + 8 * x.1.slot x.2) (leBytes 8 { e with dropped := true }.toNat)
      wrMod (s.seqRec x.1.id + 12) (leBytes 4 (satAdd 32 n 1))
    if !a.policy || decide (spans.length > a.capacity) then throw (.stop 0x0702 payload)
    report 0x0702 payload
    wr a.recompute (spans.flatMap fun (x : AttSeq × Nat) => leBytes 2 x.1.id ++ leBytes 2 0 ++ leBytes 4 x.2)

/-! ### Rotation and reading (R282, R283) -/

/-- The pairs of a rotation in a vector of `d` dimensions (R279, R282). -/
def rotPairs (a : AttArgs) (p : Pool) : List (Nat × Nat) :=
  let at_ := if p.latent then p.dim - p.rope else 0
  (List.range (a.rotDim / 2)).map fun i =>
    if a.rotMode = 0 then (at_ + 2 * i, at_ + 2 * i + 1) else (at_ + i, at_ + i + a.rotDim / 2)

/-- F32 of a position, to nearest even. -/
def posF32 (pos : Nat) : Op Nat := fl (toIeee fmtF32 .even (.fin false pos 0))

/-- Cosine and sine of each pair at a position (R282; free within the rule, log entry 3). -/
def angles (a : AttArgs) (pos : Nat) : Op (List (Nat × Nat)) :=
  (a.freq.toList).mapM fun w => do
    let f ← fMul (← posF32 pos) w
    return (← fl (approxOp .cos f), ← fl (approxOp .sin f))

/-- rne_f32 of a product of two exact values. -/
def vMul (x y : Val) : Op Nat := fl (finish fmtF32 .even (mulVal x y))

/-- Rotate a vector of exact values (R282); with `back`, s is negated (R287). -/
def rotate (pairs : List (Nat × Nat)) (cs : List (Nat × Nat)) (back : Bool) (x : Array Val) : Op (Array Val) :=
  (pairs.zip cs).foldlM (fun (v : Array Val) q => do
    let c := decode fmtF32 q.2.1
    let s0 := decode fmtF32 q.2.2
    let s := if back then negVal s0 else s0
    let xa := v.getD q.1.1 (.fin false 0 0)
    let xb := v.getD q.1.2 (.fin false 0 0)
    let na ← fSub (← vMul xa c) (← vMul xb s)
    let nb ← fAdd (← vMul xa s) (← vMul xb c)
    return (v.setIfInBounds q.1.1 (decode fmtF32 na)).setIfInBounds q.1.2 (decode fmtF32 nb)) x

/-- An operand of qk: values and scale codes by product group. -/
structure QkOp where
  vals : Array Val
  scales : Array Nat

/-- Convert a vector to qk_format (R282): B16 under R40, or F8 by present scale over groups of 32; `first` as for `toB16`. -/
def toQk (f8 : Bool) (first : Nat) (x : Array Val) : Op QkOp := do
  if !f8 then return { vals := ← toB16 first x, scales := #[] }
  else
    let outs := (List.range (ceilDiv x.size 32)).map fun j =>
      let vs := ((x.toList.drop (32 * j)).take 32).map (legValue 0 false 3)
      convertGroup 3 (presentScale 3 (vs.map (·.1))) true vs
    addFlags (outs.foldl (fun f o => f.or o.flags) {})
    countGroups first outs
    return { vals := ((outs.flatMap (·.codes)).map (decodeElem 3)).toArray, scales := (outs.map (·.scale)).toArray }

/-- The B16 form of a vector whose qk form is at hand: the same conversion when qk_format is B16 (R287). -/
def asB16 (f8 : Bool) (first : Nat) (x : Array Val) (q : QkOp) : Op (Array Val) :=
  if f8 then toB16 first x else pure q.vals

/-- qk of R284: the product in shape S with K = d. -/
def qkProd (f8 : Bool) (d : Nat) (q k : QkOp) : Op Nat :=
  prodS d (if f8 then 2 else 1) (fun i => q.vals.getD i (.nan false)) (fun i => k.vals.getD i (.nan false))
    (fun g => q.scales.getD g 0x7F) (fun g => k.scales.getD g 0x7F)

/-- One row of a page's elements, decoded exactly: base of the layer block, element and scale offsets, row, elements in a row; the raw
values with their scale codes. -/
def pageVals (p : Pool) (base elems scales row n : Nat) : Op (Array Val × Array Nat) := do
  let codes := unpackRow p.fmt n (← rdMod (base + elems + row * n * p.elem) (n * p.elem))
  let sc ← if p.group = 0 then pure [] else rdMod (base + scales + row * (n / p.group)) (n / p.group)
  return ((codes.map (decodeElem p.fmt)).toArray, (sc.map BitVec.toNat).toArray)

/-- Apply scale codes over groups. -/
def withScales (group : Nat) (x : Array Val × Array Nat) : Array Val :=
  if group = 0 then x.1 else x.1.mapIdx fun i v => scaled (x.2.getD (i / group) 0x7F) v

/-- Key, before rotation, and value of a token for a head, exactly as the page holds them or expanded from the latent (R283). -/
def pageToken (a : AttArgs) (e : AttSeq) (h t : Nat) : Op (Array Val × Array Val) := do
  let p := e.pool
  let u := t % 64
  let base := p.frameAt (e.entries.getD (e.slot (t / 64)) { frame := 0, valid := false, generation := 0 }).frame + a.layer * p.layerBytes
  if !p.latent then
    let k ← pageVals p base 0 p.kScaleAt (u * p.heads + h) p.dim
    let v ← pageVals p base p.vAt p.vScaleAt (u * p.heads + h) p.dim
    return (withScales p.group k, ← toB16 ((t * p.heads + h) * ceilDiv p.dim 32) (withScales p.group v))
  else
    let (c, sc) ← pageVals p base 0 p.kScaleAt u p.rank
    let rope ← if p.rope = 0 then pure [] else rdMod (base + p.ropeAt + u * p.rope * 2) (p.rope * 2)
    let nk := p.dim - p.rope
    let uk ← rdTensor 2 (a.uk + h * p.rank * nk * 2) p.rank nk
    let uv ← rdTensor 2 (a.uv + h * p.rank * p.dim * 2) p.rank p.dim
    let saOf (g : Nat) : Nat := if p.group = 0 then 0x7F else sc.getD (32 * g / p.group) 0x7F
    let col (w : Array Nat) (n j : Nat) : Op Val := do
      let x ← prodS p.rank 1 (fun i => c.getD i (.nan false)) (fun i => decode fmtB16 (w.getD (i * n + j) 0)) saOf unitScale
      return decode fmtF32 x
    let k ← (List.range nk).mapM (col uk nk)
    let v ← (List.range p.dim).mapM (col uv p.dim)
    return ((k ++ (unpackRow 2 p.rope rope).map (decode fmtB16)).toArray, ← toB16 ((t * p.heads + h) * ceilDiv p.dim 32) v.toArray)

/-- What attention needs of a token for a key-value head: the rotated key before conversion, and the value in B16. -/
structure AttTok where
  key : Array Val
  value : Array Val
deriving Inhabited

/-- Read the tokens of an entry for one head, keys rotated; a token that no query admits, or of a dropped span, is left empty (R285). -/
def attTokens (a : AttArgs) (e : AttSeq) (h : Nat) : Op (Array AttTok) := do
  let pairs := rotPairs a e.pool
  let ts ← (List.range e.len).mapM fun t => do
    if e.dropped (t / 64) || !e.anyAdmits a t then return { key := #[], value := #[] }
    let (k, v) ← pageToken a e h t
    let k ← rotate pairs (← angles a (e.first + t)) false k
    return { key := k, value := v }
  return ts.toArray

/-- The keys of a head's tokens in qk_format; a token left empty converts to nothing. -/
def attKeys (a : AttArgs) (e : AttSeq) (h : Nat) (toks : Array AttTok) : Op (Array QkOp) := do
  let ks ← toks.toList.zipIdx.mapM fun x => toQk a.qkF8 ((x.2 * e.pool.heads + h) * ceilDiv e.pool.dim 32) x.1.key
  return ks.toArray

/-- Index of the first run of 32 of row r, head h of a tensor laid out as the queries. -/
def rowRuns (a : AttArgs) (e : AttSeq) (r h : Nat) : Nat := ((e.qOffset + r) * a.qHeads + h) * ceilDiv e.pool.dim 32

/-- A tensor laid out as the queries: rows of [q_heads][d] from the entry's first query row. -/
def rdRows (a : AttArgs) (e : AttSeq) (f addr : Nat) : Op (Array Val) := do
  let n := a.qHeads * e.pool.dim
  return (← rdTensor f (addr + e.qOffset * rowBytes f n) e.qCount n).map (decodeElem f)

/-- Row r, head h of such a tensor. -/
def rowVec (a : AttArgs) (e : AttSeq) (x : Array Val) (r h : Nat) : Array Val :=
  x.extract ((r * a.qHeads + h) * e.pool.dim) ((r * a.qHeads + h + 1) * e.pool.dim)

/-- Whether a row admits a token of a dropped span (R278). -/
def AttSeq.rowDropped (a : AttArgs) (e : AttSeq) (r : Nat) : Bool :=
  ((e.blocks a).filter e.dropped).any fun b => (List.range 64).any fun u => e.admits a (e.qFirst + r) (64 * b + u)

/-! ### Forward (R284) -/

/-- The F32 statistics and outputs of a row so far. -/
structure AttAcc where
  m : Nat := negInf
  l : Nat := 0
  o : Array Nat

/-- One block of `attend` (R284): the admitted tokens, their scores, and the values by slot; `first` is the index of the first run of p. -/
def attendBlock (d first : Nat) (acc : AttAcc) (scores : List (Nat × Nat)) (value : Nat → Nat → Val) : Op AttAcc := do
  let top ← (scores.map (·.2)).foldlM (fun m x => fl (minmax fmtF32 true m x)) acc.m
  let a ← if acc.m = negInf then pure 0 else do fExp (← fSub acc.m top)
  let es ← (List.range 64).mapM fun u => match alook u scores with
    | some s => do fExp (← fSub s top)
    | none => pure 0
  let ps ← b16All first es
  let pv := (ps.map (decode fmtF32)).toArray
  let l ← fFma a acc.l (← fSum ps)
  let o ← (List.range d).mapM fun i => do
    let y ← prodS 64 1 (fun u => pv.getD u (.fin false 0 0))
      (fun u => if (alook u scores).isSome then value u i else .fin false 0 0) unitScale unitScale
    fFma a (acc.o.getD i 0) y
  return { m := top, l := l, o := o.toArray }

/-- The value that `attend` returns for a row and head (R284): outputs, m, l. -/
def attendRow (a : AttArgs) (e : AttSeq) (keys : Array QkOp) (toks : Array AttTok) (q : QkOp) (pos : Nat) : Op (List Nat × Nat × Nat) := do
  let d := e.pool.dim
  let acc ← (e.blocks a).foldlM (fun (acc : AttAcc) b => do
    let ts := ((List.range 64).map fun u => 64 * b + u).filter fun t => e.admits a pos t
    if ts = [] then return acc
    let scores ← ts.mapM fun t => do
      let x ← qkProd a.qkF8 d q (keys.getD t { vals := #[], scales := #[] })
      return (t % 64, ← fMul a.scale x)
    attendBlock d (2 * b) acc scores fun u i => ((toks.getD (64 * b + u) default).value).getD i (.fin false 0 0))
    { o := (List.replicate d 0).toArray }
  if acc.m = negInf then return (List.replicate d 0, negInf, 0)
  let o ← acc.o.toList.mapM fun x => fDiv x acc.l
  return (o, acc.m, acc.l)

/-- Attention of one entry of the sequence list, forward (R280 to R284). -/
def attendEntry (a : AttArgs) (out stats : Nat) (e : AttSeq) : Op Unit := do
  let d := e.pool.dim
  let qs ← rdRows a e a.qFmt a.q
  let pairs := rotPairs a e.pool
  let perHead ← (List.range e.pool.heads).mapM fun kh => do
    let toks ← attTokens a e kh
    return (toks, ← attKeys a e kh toks)
  let rows ← (List.range e.qCount).mapM fun r => do
    let pos := e.qFirst + r
    let cs ← angles a pos
    (List.range a.qHeads).mapM fun h => do
      if e.rowDropped a r then return (List.replicate d nan32, nan32, nan32)
      let (toks, keys) := perHead.getD (h * e.pool.heads / a.qHeads) (#[], #[])
      let q ← rotate pairs cs false (rowVec a e qs r h)
      attendRow a e keys toks (← toQk a.qkF8 (rowRuns a e r h) q) pos
  let cells := rows.flatten
  let n := a.qHeads * d
  let vals := ((cells.flatMap (·.1)).map fun x => some (decode fmtF32 x)).toArray
  let counts ← deliver { fmt := a.outFmt, rows := e.qCount * a.qHeads, cols := d, addr := out + e.qOffset * rowBytes a.outFmt n } 0 false vals
    (fun _ => pure ())
  tellCount 0x0201 counts.sat.length (counts.sat.headD 0 + e.qOffset * a.qHeads * ceilDiv d 32)
  tellCount 0x0202 counts.inv.length (counts.inv.headD 0 + e.qOffset * a.qHeads * ceilDiv d 32)
  wrWhole (stats + e.qOffset * a.qHeads * 8) (cells.flatMap fun x => leBytes 4 x.2.1 ++ leBytes 4 x.2.2)

/-- The kiln that runs entry i (R280); its wheel uses both saggars. -/
def entryKiln (i : Nat) : Op Unit := do
  let (_, count) ← kilnRange
  onKiln (i % count)
  let k := (← get).kiln
  onS (·.useSaggars k)

/-- What the entries of a forward write whole between them: results and statistics (R229, R278). -/
def declareForward (a : AttArgs) (out stats : Nat) (e : AttSeq) : Op Unit := do
  let d := e.pool.dim
  declareWhole (out + e.qOffset * rowBytes a.outFmt (a.qHeads * d)) (e.qCount * a.qHeads * rowBytes a.outFmt d)
  declareWhole (stats + e.qOffset * a.qHeads * 8) (e.qCount * a.qHeads * 8)

/-- What the entries of a backward write whole between them: the gradients (R229, R286). -/
def declareBackward (a : AttArgs) (dq dk dv : Nat) (e : AttSeq) : Op Unit := do
  let row := e.pool.heads * e.pool.dim * 4
  let n := (e.len - e.gradFirst) * row
  declareWhole (dq + e.qOffset * a.qHeads * e.pool.dim * 4) (e.qCount * a.qHeads * e.pool.dim * 4)
  declareWhole (dk + e.gradOffset * row) n
  declareWhole (dv + e.gradOffset * row) n

/-- ATTENTION_FWD: checks, then the entries in turn (R278 to R285). -/
def attentionFwdBody : Op Unit := do
  let out ← fld 56 8
  let stats ← fld 64 8
  let a ← attArgs false
  checkAddr out 56
  checkAddr stats 64
  let es ← attSeqs a false
  attDropped a es
  es.forM (declareForward a out stats)
  es.zipIdx.forM fun (x : AttSeq × Nat) => do
    entryKiln x.2
    attendEntry a out stats x.1

/-- ATTENTION_FWD (R278 to R285). -/
def execAttentionFwd (a : OpArg) (s : State) : Result := opCmd a s 0x18 attentionFwdBody

/-! ### Backward (R287) -/

/-- p and ds of one query row and head by token (R287): F32 values of their B16 codes; +0 when not admitted. -/
def backWeights (a : AttArgs) (e : AttSeq) (row m l dsum : Nat) (q : QkOp) (keys : Array QkOp) (dO : Array Val) (toks : Array AttTok) :
    Op (Array (Nat × Nat)) := do
  let d := e.pool.dim
  let seen (t : Nat) : Bool := e.admits a (e.qFirst + row) t
  let es ← (List.range e.len).mapM fun t => do
    if !seen t then return 0
    let s ← fMul a.scale (← qkProd a.qkF8 d q (keys.getD t { vals := #[], scales := #[] }))
    fDiv (← fExp (← fSub s m)) l
  let ps ← b16All 0 es
  let gs ← ps.zipIdx.mapM fun x => do
    if !seen x.2 then return 0
    let v := (toks.getD x.2 default).value
    let dv ← prodS d 1 (fun i => dO.getD i (.nan false)) (fun i => v.getD i (.nan false)) unitScale unitScale
    fMul x.1 (← fSub dv dsum)
  return (ps.zip (← b16All 0 gs)).toArray

/-- The gradients of one entry (R287). -/
def backEntry (a : AttArgs) (oAddr doAddr stats dqAddr dkAddr dvAddr : Nat) (e : AttSeq) : Op Unit := do
  let d := e.pool.dim
  let hkv := e.pool.heads
  let per := a.qHeads / hkv
  let pairs := rotPairs a e.pool
  let qs ← rdRows a e a.qFmt a.q
  let os ← rdRows a e a.outFmt oAddr
  let dos ← rdRows a e a.doFmt doAddr
  let sb ← rd (stats + e.qOffset * a.qHeads * 8) (e.qCount * a.qHeads * 8)
  let perHead ← (List.range hkv).mapM fun kh => do
    let toks ← attTokens a e kh
    let keys ← attKeys a e kh toks
    let keysB ← toks.toList.zipIdx.mapM fun x =>
      asB16 a.qkF8 ((x.2 * hkv + kh) * ceilDiv d 32) x.1.key (keys.getD x.2 { vals := #[], scales := #[] })
    return (toks, keys, keysB.toArray)
  -- every query row and head: rotated query, dO in B16, statistics, weights by token
  let cells ← (List.range e.qCount).mapM fun r => do
    let cs ← angles a (e.qFirst + r)
    (List.range a.qHeads).mapM fun h => do
      let (toks, keys, _) := perHead.getD (h / per) (#[], #[], #[])
      let q ← rotate pairs cs false (rowVec a e qs r h)
      let o := rowVec a e os r h
      let g := rowVec a e dos r h
      let dsum ← fSum (← (List.range d).mapM fun i => vMul (g.getD i (.nan false)) (o.getD i (.nan false)))
      let bad := e.rowDropped a r
      let m := if bad then nan32 else numAt sb ((r * a.qHeads + h) * 8) 4
      let l := if bad then nan32 else numAt sb ((r * a.qHeads + h) * 8 + 4) 4
      let gb ← toB16 (rowRuns a e r h) g
      let qk ← toQk a.qkF8 (rowRuns a e r h) q
      let qb ← asB16 a.qkF8 (rowRuns a e r h) q qk
      return (qb, gb, ← backWeights a e r m l dsum qk keys gb toks, cs)
  let cell (r h : Nat) : Array Val × Array Val × Array (Nat × Nat) × List (Nat × Nat) := (cells.getD r []).getD h (#[], #[], #[], [])
  let held := (List.range e.len).filter fun t => e.inRing (t / 64)
  let heldA := held.toArray
  let zero : Val := .fin false 0 0
  -- dQ
  let dq ← (List.range e.qCount).mapM fun r => (List.range a.qHeads).mapM fun h => do
    let (_, _, ws, cs) := cell r h
    let keysB := (perHead.getD (h / per) (#[], #[], #[])).2.2
    let row ← (List.range d).mapM fun i => do
      let s ← prodS held.length 1 (fun j => decode fmtF32 (ws.getD (heldA.getD j 0) (0, 0)).2)
        (fun j =>
          let t := heldA.getD j 0
          if e.admits a (e.qFirst + r) t then (keysB.getD t #[]).getD i (.nan false) else zero) unitScale unitScale
      return decode fmtF32 (← fMul a.scale s)
    let row ← rotate pairs cs true row.toArray
    return row.toList.map fun v => (toIeee fmtF32 .even v).1
  wrWhole (dqAddr + e.qOffset * a.qHeads * d * 4) (packRow 0 dq.flatten.flatten)
  -- dK and dV
  let toks := (List.range (e.len - e.gradFirst)).map fun i => e.gradFirst + i
  let grads ← toks.mapM fun t => do
    let cs ← angles a (e.first + t)
    (List.range hkv).mapM fun kh => do
      let n := per * e.qCount
      let at_ (j : Nat) := cell (j % e.qCount) (kh * per + j / e.qCount)
      let seen (j : Nat) : Bool := e.admits a (e.qFirst + j % e.qCount) t
      let dk ← (List.range d).mapM fun i => do
        let s ← prodS n 1 (fun j => decode fmtF32 ((at_ j).2.2.1.getD t (0, 0)).2)
          (fun j => if seen j then (at_ j).1.getD i (.nan false) else zero) unitScale unitScale
        return decode fmtF32 (← fMul a.scale s)
      let dv ← (List.range d).mapM fun i =>
        prodS n 1 (fun j => decode fmtF32 ((at_ j).2.2.1.getD t (0, 0)).1)
          (fun j => if seen j then (at_ j).2.1.getD i (.nan false) else zero) unitScale unitScale
      let dk ← rotate pairs cs true dk.toArray
      return (dk.toList.map (fun v => (toIeee fmtF32 .even v).1), dv)
  let rowAt := e.gradOffset * hkv * d * 4
  if toks ≠ [] then
    wrWhole (dkAddr + rowAt) (packRow 0 (grads.flatten.flatMap (·.1)))
    wrWhole (dvAddr + rowAt) (packRow 0 (grads.flatten.flatMap (·.2)))

/-- ATTENTION_BWD: checks, then the entries in turn (R278, R286, R287). -/
def attentionBwdBody : Op Unit := do
  let o ← fld 56 8
  let dO ← fld 64 8
  let stats ← fld 72 8
  let dq ← fld 80 8
  let dk ← fld 88 8
  let dv ← fld 96 8
  let a ← attArgs true
  [(o, 56), (dO, 64), (stats, 72), (dq, 80), (dk, 88), (dv, 96)].forM fun x => checkAddr x.1 x.2
  let es ← attSeqs a true
  attDropped a es
  es.forM (declareBackward a dq dk dv)
  es.zipIdx.forM fun (x : AttSeq × Nat) => do
    entryKiln x.2
    backEntry a o dO stats dq dk dv x.1

/-- ATTENTION_BWD (R278, R286, R287). -/
def execAttentionBwd (a : OpArg) (s : State) : Result := opCmd a s 0x19 attentionBwdBody

end Sys2Proof.Machine
end

