-- ==== Sys2Proof/Machine/Adders.lean ====
section
/-! DEFINITION. What an access to memory raises on behalf of an operation (R165, R174, R192), the setter adders and their order domains
(R184 to R186). -/

namespace Sys2Proof.Machine

/-- Raise an event on behalf of an operation, or outside any. -/
def State.raiseFor (s : State) (b : Behalf) (code payload : Nat) : State :=
  match b with
  | some (c, pos) => s.raiseCtx c (some pos) code payload
  | none => s.raise code payload

/-- A cause of R240 that an access on behalf of a step meets: the event, once for an operation (R192), and the step does not fire. -/
def State.abortFor (s : State) (b : Behalf) (code payload : Nat) : State :=
  match b with
  | some (c, pos) => (s.raiseOnce c pos code payload).abortStep c (s.rank c) code
  | none => s

/-- Position of an access, 0 outside an operation (R502). -/
def behalfPos (b : Behalf) : Nat := (b.map (·.2)).getD 0

/-- An access to a reserved range (R165): not performed, event 0x0305, and no firing when on behalf of a step. -/
def State.reserved (s : State) (b : Behalf) (write : Bool) (a : Nat) : State :=
  let pay := reservedPayload write a (behalfPos b)
  match b with
  | some _ => s.abortFor b 0x0305 pay
  | none => s.raise 0x0305 pay

/-- A read of one burst of memory; the shelves carry no symbol code (R167: it protects DRAM bursts). -/
def State.burst (s : State) (a : Nat) (noise : Noise) (src : PoisonSource) : State × BurstData :=
  if isDie a then s.readBurst a noise src else (s, .data (Memory.getBytes s.mem a 64))

/-- Whether a stack serves accesses: it is not tripped and not in self-refresh. -/
def State.serving (s : State) (a : Nat) : Bool :=
  !(isDie a) || (let x := s.stack (bits a 39 1); !x.tripped && !x.selfRefresh)

/-! ### Setter adders (R184 to R186) -/

/-- Bytes of a lane of a format (R184). -/
def laneBytes (fmt : Nat) : Nat :=
  match fmt with
  | 0 => 4
  | 1 => 2
  | 2 => 2
  | 3 => 4
  | _ => 8

/-- One lane's sum: result, IEEE flags, and whether a B16 sum saturated or is not finite (R184). -/
def laneSum (fmt a b : Nat) : Nat × Flt.Flags × Bool :=
  match fmt with
  | 0 => let r := Flt.add Flt.fmtF32 .even a b; (r.1, r.2, false)
  | 1 => let r := Flt.add Flt.fmtF16 .even a b; (r.1, r.2, false)
  | 2 =>
    match (Flt.addVal .even (Flt.decode Flt.fmtB16 a) (Flt.decode Flt.fmtB16 b)).1 with
    | .fin neg m e => let r := Flt.vendorFin Flt.vB16 neg m e; (r.1, {}, r.2)
    | .nan _ => (0x7FC0, {}, true)
    | .inf neg => (Flt.infBits Flt.fmtB16 neg, {}, true)
  | 3 => ((a + b) % 2 ^ 32, {}, false)
  | _ => ((a + b) % 2 ^ 64, {}, false)

/-- The 64 bytes of a burst after an update, the flags, and the lanes that are exceptions. -/
def addBurst (u : AdderUpdate) (old : List Byte) : List Byte × Flt.Flags × Nat :=
  let w := laneBytes u.format
  (List.range (64 / w)).foldl (fun (acc : List Byte × Flt.Flags × Nat) i =>
    let a := (old.drop (w * i)).take w
    if u.mask.testBit i then
      let r := laneSum u.format (ofLeBytes a) (u.addends.getD i 0 % 2 ^ (8 * w))
      (acc.1 ++ leBytes w r.1, acc.2.1.or r.2.1, if r.2.2 then acc.2.2 + 1 else acc.2.2)
    else (acc.1 ++ a, acc.2)) ([], {}, 0)

/-- Apply an update in full, or, on a poisoned burst, not at all with event 0x0303 (R175, R184, R185). Exceptions are reported when its
operation ends or its step is voided (R192), or at once for an operation no longer in the window. -/
def State.applyAdder (s : State) (u : AdderUpdate) : State :=
  match s.readBytes u.addr 64 .adder with
  | (s, .error b) => s.abortFor (some (u.ctx, u.pos)) 0x0303 (poisonPayload b u.pos)
  | (s, .ok old) =>
    let (new, flags, exc) := addBurst u old
    let s := s.poke u.addr new
    let s := s.modWin u.ctx u.pos fun w => { w with adderFlags := w.adderFlags ||| flags.toNat }
    if exc = 0 then s
    else if (s.winOp u.ctx u.pos).isSome then
      s.modWin u.ctx u.pos fun w =>
        { w with adderExc := w.adderExc + exc, adderFirst := if w.adderExc = 0 then u.addr else w.adderFirst }
    else s.raiseOnce u.ctx u.pos 0x0306 (adderPayload exc u.addr)

/-! ### Order domains (R186, R150) -/

/-- The order domain of an id; one not yet open has no key closed. -/
def State.domain (s : State) (i : Nat) : Domain := (s.setter.domains.find? fun d => d.id == i).getD { id := i }

/-- Put an order domain. -/
def State.setDomain (s : State) (d : Domain) : State :=
  let ds := s.setter.domains
  let ds := if ds.any (fun e => e.id == d.id) then ds.map fun e => if e.id = d.id then d else e else ds ++ [d]
  { s with setter := { s.setter with domains := ds } }

/-- Close an order domain: what it still holds goes with it. -/
def State.dropDomain (s : State) (i : Nat) : State :=
  { s with setter := { s.setter with domains := s.setter.domains.filter fun e => e.id != i } }

/-- Open an order domain, or find it open; none when 4,096 are open (R186 step 1). -/
def State.openDomain (s : State) (i : Nat) : Option State :=
  if s.setter.domains.any fun d => d.id == i then some s
  else if s.setter.domains.length ≥ 4096 then none
  else some (s.setDomain { id := i })

/-- Updates held on one setter die (R186). -/
def State.heldOn (s : State) (die : Nat) : Nat :=
  (s.setter.domains.map fun d => (d.held.filter fun u => bits u.addr 39 1 == die).length).sum

/-- The store of 65,536 updates of the setter die of an update is full (R186 step 4); an update of the lowest open key never waits there. -/
def State.storeFull (s : State) (u : AdderUpdate) : Bool := decide (s.heldOn (bits u.addr 39 1) ≥ 65536)

/-- Ordinal of a SCATTER_GRAD, its opcode and batch checked (R147). -/
def scatterOf (d : Desc) (h : Nat) : Option Nat :=
  if opcodeOf d = 0x31 ∧ bits (d.field 28 4) 0 4 = h then some (bits (d.field 28 4) 4 8) else none

/-- Keys of a domain below `upto` are closed: the held updates that no open lower key bars are applied in increasing key, and operations
whose last update that was complete (R185, R186). -/
def State.closeKeys (s : State) (i upto : Nat) : State :=
  let d := s.domain i
  let closed := max d.closed upto
  let go := sortBy (fun a b => decide (a.key ≤ b.key)) (d.held.filter fun u => decide (u.key ≤ closed))
  let s := s.setDomain { d with closed := closed, held := d.held.filter fun u => !decide (u.key ≤ closed) }
  let s := go.foldl (fun s u => s.applyAdder u) s
  let s := (go.map fun u => (u.ctx, u.pos)).eraseDups.foldl (fun s o => s.endOp o.1 o.2) s
  ((go.map (·.ctx)).eraseDups).foldl State.endScatters s

/-- The order domain of a batch (R150). -/
def batchDomain (c h : Nat) : Nat := 2 ^ 40 + 16 * c + h

end Sys2Proof.Machine
end

