-- ==== Sys2Proof/Machine/Optim.lean ====
section
/-! DEFINITION. The optimiser operations (R118 to R127). -/

namespace Sys2Proof.Machine

open Sys2Proof.Flt

/-! ### F32 arithmetic with gathered flags (R124) -/

/-- An F32 result and the flags so far. -/
abbrev FW := StateM Flags

/-- Note flags. -/
def note (p : Nat × Flags) : FW Nat := do
  modify fun f => f.or p.2
  return p.1

/-- rne_f32(a * b). -/
def fmul (a b : Nat) : FW Nat := note (Flt.mul fmtF32 .even a b)
/-- rne_f32(a + b). -/
def fadd (a b : Nat) : FW Nat := note (Flt.add fmtF32 .even a b)
/-- rne_f32(a / b). -/
def fdiv (a b : Nat) : FW Nat := note (Flt.div fmtF32 .even a b)
/-- rne_f32 of the square root. -/
def fsqrt (a : Nat) : FW Nat := note (Flt.sqrt fmtF32 .even a)
/-- fma(a, b, c), one rounding. -/
def ffma (a b c : Nat) : FW Nat := note (Flt.fma fmtF32 .even a b c)
/-- -a. -/
def fneg (a : Nat) : Nat := if a.testBit 31 then a - 2 ^ 31 else a + 2 ^ 31
/-- Whether F32 bits are finite. -/
def finite32 (a : Nat) : Bool := (decode fmtF32 a).isFin

/-! ### SGD with momentum and Adam (R122 to R125) -/

/-- The parameters of R123. -/
structure OptDesc where
  n : Nat
  flags : Nat
  state : Nat
  grad : Nat
  gradScale : Nat
  work : Nat
  workScale : Nat
  workFlag : Nat
  lr : Nat
  mult : Nat
  beta1 : Nat
  omb1 : Nat
  beta2 : Nat
  omb2 : Nat
  eps : Nat
  decay : Nat
  bias1 : Nat
  bias2 : Nat

/-- Read the body of R123. -/
def optOf (d : Desc) : OptDesc :=
  { n := d.field 24 4, flags := d.field 28 4, state := d.field 32 8, grad := d.field 40 8, gradScale := d.field 48 8, work := d.field 56 8,
    workScale := d.field 64 8, workFlag := d.field 72 8, lr := d.field 80 4, mult := d.field 84 4, beta1 := d.field 88 4,
    omb1 := d.field 92 4, beta2 := d.field 96 4, omb2 := d.field 100 4, eps := d.field 104 4, decay := d.field 108 4,
    bias1 := d.field 112 4, bias2 := d.field 116 4 }

/-- The checks of R123 and R503; `adam` tells which parameters are used. -/
def checkOpt (o : OptDesc) (adam : Bool) : Op Unit := do
  need (1 ≤ o.n ∧ o.n ≤ 2 ^ 31) 24
  let gf := bits o.flags 0 4
  let gg := bits o.flags 4 2
  let wf := bits o.flags 7 4
  let wg := bits o.flags 11 2
  let on := o.flags.testBit 6
  need (gf = 0 ∨ gf = 4) 28
  need (decide (gf = 4 ↔ gg ≠ 0)) 28 4
  need (!on || wf == 2 || wf == 3 || wf == 5 || wf == 6 || wf == 7) 28 7
  need (!on || (wf == 2 && wg == 0) || wf == 3 || (needsScale wf && wg != 0)) 28 11
  need (bits o.flags 13 19 = 0) 28 13
  checkAddr o.state 32 { scratch := false, resident := false }
  need (o.state % 4096 = 0) 32
  checkAddr o.grad 40
  let _ ← useAddr (decide (gg ≠ 0)) 48
  if gg ≠ 0 then need (o.gradScale ≠ 0) 48
  let _ ← useAddr on 56
  let scaledWork := on && wg != 0
  let _ ← useAddr scaledWork 64
  if scaledWork then need (o.workScale ≠ 0) 64
  if o.workFlag ≠ 0 then
    need on 72
    checkAddr o.workFlag 72
  if !adam then
    needZero 92 4
    needZero 96 4
    needZero 100 4
    needZero 104 4
    needZero 112 4
    needZero 116 4
  needZero 120 8

/-- SGD with momentum for one element (R124): new moment and master. -/
def sgdStep (o : OptDesc) (g w m : Nat) : FW (Nat × Nat) := do
  let m ← ffma o.beta1 m g
  let w ← ffma (fneg o.lr) (← ffma o.decay w m) w
  return (m, w)

/-- Adam for one element (R124): new first and second moment and master. -/
def adamStep (o : OptDesc) (g w m v : Nat) : FW (Nat × Nat × Nat) := do
  let m ← ffma o.beta1 m (← fmul o.omb1 g)
  let v ← ffma o.beta2 v (← fmul o.omb2 (← fmul g g))
  let den ← fadd (← fsqrt (← fmul v o.bias2)) o.eps
  let upd ← fdiv (← fmul m o.bias1) den
  let w ← ffma (fneg o.lr) (← ffma o.decay w upd) w
  return (m, v, w)

/-- The body of OPT_SGD_MOMENTUM and OPT_ADAM (R122 to R125): 512 or 341 elements per state parcel. -/
def optBody (adam : Bool) : Op Unit := do
  let o := optOf (← get).d
  checkOpt o adam
  onKiln 0
  let gf := bits o.flags 0 4
  let gg := bits o.flags 4 2
  let grads ← rdValues gf (if gg = 0 then 0 else groupLen gg) false 1 o.n o.grad o.gradScale
  let per := if adam then 341 else 512
  let params := if adam then [o.lr, o.beta1, o.omb1, o.beta2, o.omb2, o.eps, o.decay, o.bias1, o.bias2] else [o.lr, o.beta1, o.decay]
  let parts ← (List.range (ceilDiv o.n per)).mapM fun q => do
    let here := min per (o.n - q * per)
    let base := o.state + 4096 * q
    let old ← rd base (4 * per * (if adam then 3 else 2))
    let at_ (j i : Nat) : Nat := numAt old (4 * per * j + 4 * i) 4
    let one (i : Nat) : (Nat × Nat × Nat × Bool) × Flags :=
      let w := at_ 0 i
      let m := at_ 1 i
      let v := if adam then at_ 2 i else 0
      let (gx, f0) := mulVal (grads.getD (q * per + i) (.nan false)) (decode fmtF32 o.mult)
      let (g, f1) := toIeee fmtF32 .even gx
      let f := f0.or f1
      if !finite32 g then ((w, m, v, true), f)
      else
        let ((m', v', w'), f) : (Nat × Nat × Nat) × Flags :=
          if adam then (adamStep o g w m v).run f
          else
            let (x, f) := (sgdStep o g w m).run f
            ((x.1, v, x.2), f)
        let inputsOk := (w :: m :: v :: params).all finite32
        if inputsOk && !(finite32 m' && finite32 v' && finite32 w') then ((w, m, v, true), f) else ((w', m', v', false), f)
    let res := (List.range here).map one
    addFlags (res.foldl (fun a x => a.or x.2) {})
    wr base (res.flatMap fun x => leBytes 4 x.1.1)
    wr (base + 4 * per) (res.flatMap fun x => leBytes 4 x.1.2.1)
    if adam then wr (base + 8 * per) (res.flatMap fun x => leBytes 4 x.1.2.2.1)
    return res.map fun x => (x.1.1, x.1.2.2.2)
  let all := parts.flatten
  let kept := (List.range all.length).filter fun i => (all.getD i (0, false)).2
  if kept ≠ [] then report 0x020C (countPayload kept.length (kept.headD 0))
  if o.flags.testBit 6 then
    let wg := bits o.flags 11 2
    let t : Target := { fmt := bits o.flags 7 4, group := if wg = 0 then 0 else groupLen wg, mode := if wg = 0 then 0 else 1, rows := 1,
                        cols := o.n, addr := o.work, scale := o.workScale, flag := o.workFlag }
    let counts ← deliver t 0 false ((all.map fun x => some (decode fmtF32 x.1)).toArray) (fun _ => onKiln 0)
    reportCounts counts []

/-- OPT_SGD_MOMENTUM (R123, R124). -/
def execOptSgdMomentum (a : OpArg) (s : State) : Result := opCmd a s 0x50 (optBody false)
/-- OPT_ADAM (R123, R124). -/
def execOptAdam (a : OpArg) (s : State) : Result := opCmd a s 0x52 (optBody true)

/-! ### Row-wise Adagrad (R119, R120, R126, R127) -/

/-- value(b, rho) of R119. -/
def pairValue (b rho : Nat) : Val :=
  match decodeElem 2 b with
  | .fin neg m e =>
    let x : Int := (m * 256 : Nat) + (BitVec.ofNat 8 rho).toInt
    if x = 0 then .fin neg 0 0 else .fin (neg != decide (x < 0)) x.natAbs (e - 8)
  | v => v

/-- Round the quotient num / 2^k of an integer to the nearest integer, ties away from zero. -/
def roundAway (num : Int) (k : Nat) : Int :=
  let q : Int := ((2 * num.natAbs + 2 ^ k) >>> (k + 1) : Nat)
  if num < 0 then -q else q

/-- Whether the B16 conversion of R120, step 1, saturates (R32). -/
def splitSat (x : Nat) : Bool :=
  match decode fmtF32 x with
  | .fin neg m e => (vendorFin vB16 neg m e).2
  | _ => false

/-- split(x) of R120: the B16 value and the remainder byte. -/
def split (x : Nat) : Nat × Nat :=
  match decode fmtF32 x with
  | .fin neg m e =>
    let (b, sat) := vendorFin vB16 neg m e
    match decodeElem 2 b with
    | .fin _ mb eb =>
      let lo := min e (eb - 8)
      let d : Int := ((m <<< (e - lo).toNat : Nat) : Int) - ((mb <<< (eb - lo).toNat : Nat) : Int)
      let r := max (-128) (min 127 (roundAway d (eb - 8 - lo).toNat))
      (b, if sat then 0 else (BitVec.ofInt 8 r).toNat)
    | _ => (b, 0)
  | _ => (0x7FC0, 0)

/-- The pairwise sum of 16 F32 values in 4 levels (R127). -/
def sum16 (xs : List Nat) : FW Nat := note (treeSum xs)

/-- The update of one granule of a listed row (R127): the 16 new values and the new accumulator, or none when it is kept unchanged. -/
def adagradUpdate (fullRow : Bool) (norm rowLen lr eps mult : Nat) (rec_ grad : List Byte) : FW (Option (List Nat × Nat)) := do
  let acc := numAt rec_ 48 4
  let gs ← (List.range 16).mapM fun e => fmul (numAt grad (4 * e) 4) mult
  if !gs.all finite32 then return none
  let sq ← sum16 (← gs.mapM fun g => fmul g g)
  let acc ← if fullRow then do
      let (d, f0) := divVal (decode fmtF32 norm) (.fin false rowLen 0)
      let q ← note (finish fmtF32 .even (d, f0))
      fadd acc q
    else note (finish fmtF32 .even (addVal .even (decode fmtF32 acc) (scaleVal (-4) (decode fmtF32 sq))))
  let eta ← fdiv lr (← fadd (← fsqrt acc) eps)
  let xs ← (List.range 16).mapM fun e =>
    note (finish fmtF32 .even (fmaVal .even (decode fmtF32 (fneg eta)) (decode fmtF32 (gs.getD e 0))
      (pairValue (numAt rec_ (2 * e) 2) (numAt rec_ (32 + e) 1))))
  if !finite32 acc || !finite32 eta || !xs.all finite32 then return none
  return some (xs, acc)

/-- Bytes 0 to 51 of an embedding record: the pairs of R120 and the accumulator (R121). -/
def granuleBytes (u : List Nat × Nat) : List Byte :=
  let ps := u.1.map split
  ps.flatMap (fun p => leBytes 2 p.1) ++ ps.flatMap (fun p => leBytes 1 p.2) ++ leBytes 4 u.2

/-- One granule of a listed row (R127): the new record bytes, or none when it is kept unchanged. -/
def adagradGranule (fullRow : Bool) (norm rowLen lr eps mult : Nat) (rec_ grad : List Byte) : FW (Option (List Byte)) := do
  return (← adagradUpdate fullRow norm rowLen lr eps mult rec_ grad).map granuleBytes

/-- The flag groups of R32 in which a row's B16 conversions saturated: runs of 32 elements, two granules each, numbered from `first`
(the numbering over a list of rows: DESIGN CHOICE, log entry 82). `sats` tells the granules. -/
def satRuns (first : Nat) (sats : List Bool) : List Nat :=
  ((List.range (ceilDiv sats.length 2)).filter fun j => sats.getD (2 * j) false || sats.getD (2 * j + 1) false).map (first + ·)

/-- The body of OPT_ROWWISE_ADAGRAD (R126, R127, R152). The B16 conversions of R120 form the flags of R32, which enter its counts (R48,
R49). -/
def adagradBody : Op Unit := do
  let n ← fld 24 4
  let flags ← fld 28 4
  let merged ← fld 32 8
  let full := flags.testBit 0
  need (1 ≤ n ∧ n ≤ 4194304) 24
  need (bits flags 1 31 = 0) 28 1
  checkAddr merged 32
  let norm ← useAddr full 40
  let rowLen ← fld 48 4
  need (if full then rowLen ≠ 0 else rowLen = 0) 48
  needZero 64 64
  onKiln 0
  let head ← rd merged 64
  need (numAt head 0 4 = n) 24
  let slab := numAt head 8 8
  let lr ← fld 52 4
  let eps ← fld 56 4
  let mult ← fld 60 4
  let rows ← (List.range n).mapM fun r => do
    let ent ← rd (merged + 64 + 16 * r) 16
    let word := numAt ent 0 8
    let row := word / 64 * 64
    let nrm ← if full then rdNat (norm + 4 * r) 4 else pure 0
    (List.range (2 ^ (word % 8))).mapM fun i => do
      let rec_ ← rd (row + 64 * i) 64
      let grad ← rd (slab + (numAt ent 8 4 + i) * 64) 64
      let (out, f) := (adagradUpdate full nrm rowLen lr eps mult rec_ grad).run {}
      addFlags f
      match out with
      | some u => do
        wr (row + 64 * i) (granuleBytes u)
        return ((none : Option Nat), u.1.any splitSat)
      | none => return (some r, false)
  let ks := (rows.flatMap fun g => g.map (·.1)).filterMap id
  let (_, sat) := rows.foldl (fun (a : Nat × List Nat) g =>
    (a.1 + ceilDiv g.length 2, a.2 ++ satRuns a.1 (g.map (·.2)))) (0, [])
  if ks ≠ [] then report 0x020C (countPayload ks.length (ks.headD 0))
  if !(← isRecompute) then
    reportCounts { sat := sat } []
    modify fun r => { r with sat := r.sat + sat.length }

/-- OPT_ROWWISE_ADAGRAD (R126, R127). -/
def execOptRowwiseAdagrad (a : OpArg) (s : State) : Result := opCmd a s 0x51 adagradBody

end Sys2Proof.Machine
end

