-- ==== Sys2Proof/Machine/Embed.lean ====
section
/-! DEFINITION. GATHER_POOL, SCATTER_GRAD (R133 to R152), MIGRATE and MIGRATION_COPY_COMPLETE (R153 to R157). -/

namespace Sys2Proof.Machine

open Sys2Proof.Flt

/-! ### Batches (R140) -/

/-- An open batch of the context. -/
def batchOf (h : Nat) : Op (Option Batch) := do
  let r ← get
  return (r.s.ctx r.c).batches.find? fun b => b.handle == h

/-- Put an open batch. -/
def putBatch (b : Batch) : Op Unit := do
  let c ← opCtx
  onS fun s => s.modCtx c fun x => { x with batches := (x.batches.filter fun y => y.handle != b.handle) ++ [b] }

/-- Close a batch: its entries return to the pool (R140, R142). Every key of its order domain closes, the updates still held are applied, and
the domain closes (R150). -/
def closeBatch (h : Nat) : Op Unit := do
  let c ← opCtx
  match ← batchOf h with
  | none => return ()
  | some b =>
    onS fun s =>
      let s := ({ s with entriesFree := s.entriesFree + b.entries.length }).modCtx c fun x =>
        { x with batches := x.batches.filter fun y => y.handle != h }
      ((s.closeKeys (batchDomain c h) 256).dropDomain (batchDomain c h)).endScatters c

/-- The ordinals from 0 on whose keys are closed without a gap (R150). -/
def Batch.closedKeys (b : Batch) : Nat := (b.ords.takeWhile fun o => o.scattered || o.closed).length

/-- Close the keys of a batch's order domain up to the first open one, with STRICT set (R150). -/
def closeLower (b : Batch) : Op Unit := do
  let c ← opCtx
  if ((← getS).ctx c).strict then onS fun s => s.closeKeys (batchDomain c b.handle) b.closedKeys else return ()

/-- Refuse with 0x0B04 and its cause (R502). -/
def needBatch (ok : Bool) (cause : Nat) : Op Unit := do
  if ok then return () else throw (.refuse 0x0B04 (cause + (((← opPos) % 2 ^ 64) <<< 64)))

/-- Whether an earlier operation of the same opcode and batch handle is still to complete its work. -/
def earlierOf (opc h handleOff : Nat) : Op Bool := do
  let r ← get
  return (r.s.ctx r.c).window.any fun w =>
    decide (w.pos < r.pos) && w.st != .finished && opcodeOf w.desc == opc && bits (w.desc.field handleOff 4) 0 4 == h

/-! ### GATHER_POOL (R137 to R146) -/

/-- The body of R139. -/
structure Gather where
  bags : Nat
  count : Nat
  flags : Nat
  bagLen : Nat
  table : Nat
  rows : Nat
  index : Nat
  offsets : Nat
  weight : Nat
  out : Nat
  outFlag : Nat
  slab : Nat
  buf : Nat
  granules : Nat

/-- Read the body of R139. -/
def gatherOf (d : Desc) : Gather :=
  { bags := d.field 24 4, count := d.field 28 4, flags := d.field 32 4, bagLen := d.field 36 4, table := d.field 40 8, rows := d.field 48 8,
    index := d.field 56 8, offsets := d.field 64 8, weight := d.field 72 8, out := d.field 80 8, outFlag := d.field 88 8,
    slab := d.field 96 8, buf := d.field 104 8, granules := d.field 112 4 }

/-- Batch handle. -/
def Gather.handle (g : Gather) : Nat := bits g.flags 0 4
/-- S of R133. -/
def Gather.slices (g : Gather) : Nat := 2 ^ bits g.flags 10 3
/-- Bytes of an index. -/
def Gather.width (g : Gather) : Nat := if g.flags.testBit 6 then 8 else 4

/-- The coalescer that merges and holds entry e, 0 to 7: the first four lie on kiln die 0 (R149). -/
def coalescerOf (e : Nat) : Nat := e % 8

/-- Entries in the hot-slice store of a coalescer, over the open batches of every context (R158). -/
def State.hotIn (s : State) (k : Nat) : Nat :=
  (s.ctxs.flatMap fun x => x.2.batches.map fun b =>
    ((List.range b.entries.length).filter fun e => coalescerOf e == k && ((b.entries[e]?).bind (·.hot)).isSome).length).sum

/-- Address forms that the embedding engines, which use no kiln, accept. -/
def noKiln : Accept := { resident := false }
/-- The same with host addresses (R351). -/
def noKilnHost : Accept := { resident := false, host := true }

/-- The field checks of R134, R139 and R503. -/
def checkGather (g : Gather) : Op Unit := do
  let opens := g.flags.testBit 4
  need (1 ≤ g.bags ∧ g.bags ≤ 2 ^ 31) 24
  need (g.count ≤ 2 ^ 31) 28
  need (bits g.flags 8 2 ≠ 3) 32 8
  need (bits g.flags 10 3 ≤ 4) 32 10
  need (bits g.flags 14 18 = 0) 32 14
  checkAddr g.table 40 { scratch := false, resident := false }
  need (g.table % 4096 = 0) 40
  need (1 ≤ g.rows ∧ g.rows ≤ 2 ^ 39 ∧ g.rows * g.slices ≤ 2 ^ 39) 48
  checkAddr g.index 56 noKilnHost
  let _ ← useAddr (decide (g.bagLen = 0)) 64 noKilnHost
  if g.bagLen = 0 then need (g.offsets ≠ 0) 64
  if g.weight ≠ 0 then checkAddr g.weight 72 noKilnHost
  checkAddr g.out 80 noKiln
  if g.outFlag ≠ 0 then
    need (bits g.flags 8 2 = 2) 88
    checkAddr g.outFlag 88 noKiln
  let _ ← useAddr opens 96 { state := false, resident := false }
  let _ ← useAddr opens 104 { state := false, resident := false }
  needZero 116 12

/-- The lengths of the bags, or the first bag that breaks R137; of fixed bags it is the first that the index list does not fill, or the last of
all (DESIGN CHOICE, log entry 107). -/
def bagLens (g : Gather) (offs : List Nat) : Except Nat (List Nat) :=
  if g.bagLen ≠ 0 then
    if g.count = g.bags * g.bagLen then .ok (List.replicate g.bags g.bagLen) else .error (min (g.bags - 1) (g.count / g.bagLen))
  else
    let o (i : Nat) := offs.getD i 0
    let bad := (List.range g.bags).find? fun b =>
      (b == 0 && o 0 != 0) || decide (o (b + 1) < o b) || (b + 1 == g.bags && o g.bags != g.count)
    match bad with
    | some b => .error b
    | none => .ok ((List.range g.bags).map fun b => o (b + 1) - o b)

/-- Hold an entry's slice in its coalescer's hot-slice store when its multiplicity reaches 64 and the store of 4,096 has room: its pooling
then reads the store, not the slice buffer (R158). -/
def holdHot (b : Batch) (e : Nat) : Op Batch := do
  match b.entries[e]? with
  | none => return b
  | some x =>
    if x.mult < 64 ∨ x.hot.isSome ∨ (← getS).hotIn (coalescerOf e) ≥ 4096 then return b
    let bs ← rd (b.bufAddr + x.slab * 32) (32 * x.slices)
    let b := { b with entries := b.entries.modify e fun y => { y with hot := some bs } }
    putBatch b
    return b

/-- Find or make the coalescer entry of one lookup (R141 to R143). A new entry stands in the map before its slice is fetched, so that it is
given up when the batch closes, however the operation ends. -/
def resolveOne (g : Gather) (b : Batch) (key row : Nat) : Op Batch := do
  match b.entries.findIdx? fun e => e.table == g.table && e.row == row with
  | some i => holdHot { b with entries := b.entries.modify i fun e => { e with mult := satAdd 32 e.mult 1 } } i
  | none =>
    let pos ← opPos
    let used := (b.entries.map (·.slices)).sum
    let s ← getS
    if s.entriesFree = 0 then
      throw (.stop 0x0B01 (((pos % 2 ^ 64) <<< 64) + ((key % 2 ^ 64) <<< 128)))
    if used + g.slices > b.granules then
      throw (.stop 0x0B03 (1 + ((pos % 2 ^ 64) <<< 64)))
    putS { s with entriesFree := s.entriesFree - 1, entriesLow := min s.entriesLow (s.entriesFree - 1) }
    let b := { b with entries := b.entries ++ [{ table := g.table, row := row, slices := g.slices, slab := used, mult := 1 }] }
    putBatch b
    wr (b.slabAddr + used * 64) (List.replicate (64 * g.slices) 0)
    (List.range g.slices).forM fun i => do
      let rec_ ← rd (g.table + (row * g.slices + i) * 64) 64
      wr (b.bufAddr + (used + i) * 32) (rec_.take 32)
    return b

/-- Positions of a bag in the order of pooling: increasing, or by slice availability with STRICT clear (R144). -/
def poolOrder (strict : Bool) (order ps : List Nat) : List Nat :=
  if strict then ps else (order.filter fun p => ps.contains p).eraseDups ++ (ps.filter fun p => !order.contains p)

/-- pool(bag) of R144 for one element position: slice element and weight per lookup. -/
def poolElem (weighted mean : Bool) (xs : List (Nat × Nat)) : FW Nat := do
  let s ← xs.foldlM (fun s x => if weighted then ffma x.2 x.1 s else fadd s x.1) 0
  if mean && !xs.isEmpty then
    note (finish fmtF32 .even (divVal (decode fmtF32 s) (.fin false xs.length 0)))
  else return s

/-- The body of a GATHER_POOL (R137 to R146). -/
def gatherBody : Op Unit := do
  let r ← get
  let g := gatherOf r.d
  checkGather g
  if ← earlierOf 0x30 g.handle 32 then throw (.wait .other)
  let opens := g.flags.testBit 4
  let old ← batchOf g.handle
  needBatch (!(opens && old.isSome)) 1
  needBatch (opens || old.isSome) 2
  let b := old.getD { handle := g.handle, slabAddr := g.slab, bufAddr := g.buf, granules := g.granules }
  let ordinal := b.ords.length
  needBatch (decide (ordinal < 256)) 3
  needBatch (b.ords.all fun o =>
    let h := gatherOf o.desc
    h.table != g.table || (h.rows == g.rows && h.slices == g.slices)) 4
  let strict := (r.s.ctx r.c).strict
  if strict && opens then
    match r.s.openDomain (batchDomain r.c g.handle) with
    | none => throw (.wait .other)
    | some s => putS s
  let b := { b with ords := b.ords ++ [{ pos := r.pos, desc := r.d, closed := strict && g.flags.testBit 13 }] }
  putBatch b
  closeLower b
  let ib ← rd g.index (g.count * g.width)
  let idx := (List.range g.count).map fun i => numAt ib (i * g.width) g.width
  let offs ← if g.bagLen ≠ 0 then pure [] else (do
    let ob ← rd g.offsets (4 * (g.bags + 1))
    return (List.range (g.bags + 1)).map fun i => numAt ob (4 * i) 4)
  let lens ← match bagLens g offs with
    | .ok l => pure l
    | .error bad => throw (.stop 0x0B07 ((bad % 2 ^ 64) <<< 64))
  let weights ← if g.weight = 0 then pure [] else (do
    let wb ← rd g.weight (4 * g.count)
    return (List.range g.count).map fun i => numAt wb (4 * i) 4)
  let rows := idx.map fun x => if x < g.rows then some x else none
  let before := b.entries.length
  let b ← (List.range g.count).foldlM (fun b p => match rows.getD p none with
    | some row => resolveOne g b (ordinal * 2 ^ 32 + p) row
    | none => pure b) b
  let entry (row : Nat) : CoalEntry :=
    (b.entries.find? fun e => e.table == g.table && e.row == row).getD { table := 0, row := 0, slices := 0, slab := 0, mult := 0 }
  let starts := lens.foldl (fun (acc : List Nat × Nat) n => (acc.1 ++ [acc.2], acc.2 + n)) ([], 0)
  let pooled ← (List.range g.bags).mapM fun bag => do
    let ps := ((List.range (lens.getD bag 0)).map fun i => starts.1.getD bag 0 + i).filter fun p => (rows.getD p none).isSome
    let ps := poolOrder strict r.order ps
    let sl ← ps.mapM fun p => do
      let e := entry ((rows.getD p none).getD 0)
      match e.hot with
      | some bs => return (bs, weights.getD p 0)
      | none => return (← rd (b.bufAddr + e.slab * 32) (32 * g.slices), weights.getD p 0)
    let (xs, f) := ((List.range (16 * g.slices)).mapM fun e =>
      poolElem (g.weight != 0) (g.flags.testBit 7) (sl.map fun x => (numAt x.1 (2 * e) 2 <<< 16, x.2))).run {}
    addFlags f
    return xs
  let vals := (pooled.flatten.map fun x => some (decode fmtF32 x)).toArray
  let counts ← deliver { fmt := bits g.flags 8 2, rows := 1, cols := g.bags * 16 * g.slices, addr := g.out, flag := g.outFlag } 0 false
    vals (fun _ => pure ())
  reportCounts counts []
  let dropped := (List.range g.count).filter fun p => (rows.getD p none).isNone
  if dropped ≠ [] then report 0x0B02 (countPayload dropped.length (ordinal * 2 ^ 32 + dropped.headD 0))
  putBatch { b with ords := b.ords.modify ordinal fun o => { o with done := true, rows := rows, bagLens := lens, weights := weights } }
  modify fun r => { r with own := [b.entries.length - before, b.entries.length] }
  if g.flags.testBit 5 then closeBatch g.handle

/-- GATHER_POOL (R133 to R146). -/
def execGatherPool (a : OpArg) (s : State) : Result := opCmd a s 0x30 gatherBody

/-! ### SCATTER_GRAD (R147 to R152) -/

/-- The contributions of one SCATTER_GRAD to its entries in increasing lookup key (R148): row, bag, factor. -/
def contributions (g : Gather) (o : Ordinal) : List (Nat × Nat × Nat) × Flags :=
  let starts := o.bagLens.foldl (fun (acc : List Nat × Nat) n => (acc.1 ++ [acc.2], acc.2 + n)) ([], 0)
  let bagOf := (List.range o.bagLens.length).flatMap fun b => (List.range (o.bagLens.getD b 0)).map fun i => (b, starts.1.getD b 0 + i)
  let size (b : Nat) : Nat := (bagOf.filter fun x => x.1 == b && (o.rows.getD x.2 none).isSome).length
  bagOf.foldl (fun (acc : List (Nat × Nat × Nat) × Flags) x => match o.rows.getD x.2 none with
    | none => acc
    | some row =>
      let w := if g.weight = 0 then 0x3F800000 else o.weights.getD x.2 0
      if g.flags.testBit 7 then
        let (f, fl) := finish fmtF32 .even (divVal (decode fmtF32 w) (.fin false (size x.1) 0))
        (acc.1 ++ [(row, x.1, f)], acc.2.or fl)
      else (acc.1 ++ [(row, x.1, w)], acc.2)) ([], {})

/-- Write the merged list of a batch (R151, R152). -/
def writeMerged (b : Batch) (list capacity : Nat) : Op Unit := do
  let es := b.entries.filter (·.updated)
  if es.length > capacity then throw (.stop 0x0B03 (2 + (((← opPos) % 2 ^ 64) <<< 64)))
  let step := (← getS).step (← opCtx)
  let head := leBytes 4 es.length ++ leBytes 4 ((b.entries.map (·.slices)).sum) ++ leBytes 8 b.slabAddr ++ leBytes 8 step ++
    leBytes 1 b.handle ++ List.replicate 39 0
  wrWhole list (head ++ es.flatMap fun e =>
    leBytes 8 (e.table + e.row * e.slices * 64 + Nat.log2 e.slices) ++ leBytes 4 e.slab ++ leBytes 4 e.mult)

/-- Issue the update of one slab granule (R150): with STRICT set it waits in the store of its setter die until every lower key of the batch is
closed (R186). The slab is named by a scratch address (R139). -/
def issueUpdate (slab granule key : Nat) (h : Nat) (addends : List Nat) : Op Unit := do
  let r ← get
  match formOf slab with
  | .scratch m => do
    let a := m + granule * 64
    scratchCheck a 64
    if !inMemory a 64 then throw (.abort 0x0305 (reservedPayload true a r.pos))
    let d := r.s.domain (batchDomain r.c h)
    let u : AdderUpdate := { addr := a, format := 0, mask := 2 ^ 16 - 1, addends := addends, ctx := r.c, pos := r.pos, domain := d.id, key := key }
    if (r.s.ctx r.c).strict && decide (key > d.closed) then
      if r.s.storeFull u then throw (.wait .other)
      putS (r.s.setDomain { d with held := d.held ++ [u] })
    else
      match r.s.readBytes a 64 .adder with
      | (s, .error b) => do
        putS s
        throw (.abort 0x0303 (poisonPayload b r.pos))
      | (s, .ok old) => do
        let (new, flags, _) := addBurst u old
        putS (s.poke a new)
        addFlags flags
  | _ => throw (.refuse 0x06C0 (refusal 96 0 r.pos))

/-- The body of a SCATTER_GRAD (R147 to R151). One with finish set waits until the keys below its own are closed and every earlier
SCATTER_GRAD of its batch has completed (R151). -/
def scatterBody : Op Unit := do
  let r ← get
  let bagCount ← fld 24 4
  let flags ← fld 28 4
  let grad ← fld 32 8
  let handle := bits flags 0 4
  let ordinal := bits flags 4 8
  let fmt := bits flags 12 2
  let fin := flags.testBit 14
  need (fmt ≠ 3) 28 12
  need (bits flags 15 17 = 0) 28 15
  checkAddr grad 32 noKiln
  let list ← useAddr fin 40 noKiln
  needZero 52 76
  match ← batchOf handle with
  | none => needBatch false 2
  | some b =>
    match b.ords[ordinal]? with
    | none => needBatch false 5
    | some o => do
      needBatch o.done 5
      needBatch (!o.scattered) 6
      let g := gatherOf o.desc
      needBatch (decide (bagCount = g.bags)) 7
      needBatch (!g.flags.testBit 13) 8
      let strict := (r.s.ctx r.c).strict
      let behind := (r.s.ctx r.c).window.any fun w => decide (w.pos < r.pos) && (scatterOf w.desc handle).isSome
      if fin && (behind || (strict && decide (b.closedKeys < ordinal))) then throw (.wait .other)
      let es := if fmt = 0 then 4 else 2
      let rowBytes_ := 16 * g.slices * es
      let gb ← rd grad (g.bags * rowBytes_)
      let (cs, fl) := contributions g o
      addFlags fl
      let elem (bag e : Nat) : Nat := widenF32 (decodeElem fmt (numAt gb (bag * rowBytes_ + e * es) es))
      let rows := (cs.map (·.1)).eraseDups
      rows.forM fun row => do
        let mine := cs.filter fun x => x.1 == row
        let slab := ((b.entries.find? fun e => e.table == g.table && e.row == row).map (·.slab)).getD 0
        (List.range g.slices).forM fun i => do
          let (merged, f1) := ((List.range 16).mapM fun e => do
            let parts ← mine.mapM fun (x : Nat × Nat × Nat) => fmul (elem x.2.1 (16 * i + e)) x.2.2
            note (treeSum parts)).run {}
          addFlags f1
          issueUpdate b.slabAddr (slab + i) ordinal handle merged
      let b := { b with
        entries := b.entries.map fun e => if e.table = g.table ∧ rows.contains e.row then { e with updated := true } else e
        ords := b.ords.modify ordinal fun q => { q with scattered := true, closed := true } }
      putBatch b
      closeLower b
      if fin then
        writeMerged b list (← fld 48 4)
        closeBatch handle

/-- SCATTER_GRAD (R147 to R152). -/
def execScatterGrad (a : OpArg) (s : State) : Result := opCmd a s 0x31 scatterBody

/-! ### MIGRATE (R153 to R157) -/

/-- Refuse with 0x0B05, its cause and the first parcel (R502). -/
def needMove (ok : Bool) (cause parcel : Nat) : Op Unit :=
  if ok then return () else throw (.refuse 0x0B05 (cause + ((parcel % 2 ^ 64) <<< 64)))

/-- Homes that the tier still has room for, beside those reserved by migrations under way (R154, R198, R215). -/
def State.homeRoom (s : State) : Nat := s.tier.capacity - (s.tier.homes.length + s.homesDue)

/-- Take `n` frames of the shadow reserve for dirty masks (R154). -/
def State.takeMasks (s : State) (c : Nat) : Nat → Option State
  | 0 => some s
  | n + 1 => match s.takeReserve s.reserveDie with
    | none => none
    | some (f, s) => (s.modCtx c fun x => { x with maskFrames := f :: x.maskFrames }).takeMasks c n

/-- Whether a parcel stands in a destination class already. -/
def inClass (e : PEntry) (dest : Nat) : Bool :=
  (dest == 2 && e.where_ == 2) || (dest == 3 && e.where_ == 1) || (dest ≤ 1 && e.where_ == 1 && bits e.frame 39 1 == dest)

/-- The body of a MIGRATE (R153, R154): the list is checked, destination space reserved; copies begin.
Dirty masks take 8 bytes a parcel from the shadow reserve, whose frames of 4 KiB hold 512 each; a reserve without room is no space.
A parcel that the step has written already starts with every record dirty: the cone takes it as the step leaves it (log entry 77). -/
def migrateBody : Op Unit := do
  let r ← get
  if (r.s.ctx r.c).migrations.any fun m => m.pos == r.pos then throw (.hold .other)
  let n ← fld 24 4
  let flags ← fld 28 4
  let list ← fld 32 8
  let dest := bits flags 0 2
  need (1 ≤ n ∧ n ≤ 1048576) 24
  need (bits flags 2 30 = 0) 28 2
  checkAddr list 32 noKiln
  needZero 40 88
  let lb ← rd list (8 * n)
  let ps := (List.range n).map fun i => numAt lb (8 * i) 8
  ps.forM touchEntry
  let r ← get
  let s := r.s
  let mine := (s.ctx r.c).migrations
  (List.range n).forM fun i => do
    let p := ps.getD i 0
    let stays := inClass ((s.firedEntry r.c p).getD { where_ := 0 }) dest
    needMove (!(mine.any fun m => m.parcel == p) && (stays || !(ps.take i).contains p)) 1 p
    needMove (s.entryAddr r.c p).isSome 2 p
  let moving := ps.filter fun p => !(inClass ((s.firedEntry r.c p).getD { where_ := 0 }) dest)
  let first := moving.headD (ps.headD 0)
  let room := if dest = 0 then s.frames0.pool else if dest = 1 then s.frames1.pool else if dest = 3 then s.freePool else s.homeRoom
  needMove (!(dest == 2 && s.tier.full && moving != [])) 3 first
  let needing := if dest = 2 then moving.filter fun p => !s.homed r.c p else moving
  needMove (decide (needing.length ≤ room)) 3 first
  needMove (decide ((s.ctxs.map fun x => x.2.migrations.length).sum + moving.length ≤ 1048576)) 4 first
  let masks := ceilDiv (mine.length + moving.length) 512 - (s.ctx r.c).maskFrames.length
  match s.takeMasks r.c masks with
  | none => needMove false 3 first
  | some s => putS s
  moving.forM fun p => do
    let s ← getS
    let d := if dest = 3 then s.poolDie else dest
    let (frame, s) ← if dest = 2 then pure (0, s) else match s.takePool d with
      | some x => pure x
      | none => throw (.refuse 0x0B05 (3 + ((first % 2 ^ 64) <<< 64)))
    let written := ((s.ctx r.c).shadows.any fun e => e.1 == p)
    let m : Migration := { parcel := p, dest := if dest = 2 then 2 else bits frame 39 1, frame := frame, pos := r.pos,
                           dirty := if written then 2 ^ 64 - 1 else 0 }
    putS (s.modCtx r.c fun x => { x with migrations := x.migrations ++ [m] })
  let skipped := n - moving.length
  modify fun q => { q with own := [skipped] }
  if moving ≠ [] then
    onS fun s => s.modWin r.c r.pos fun w => { w with progress := skipped }
    throw (.hold .other)

/-- MIGRATE (R153 to R157). -/
def execMigrate (a : OpArg) (s : State) : Result := opCmd a s 0x32 migrateBody

/-- Copy one parcel's fired contents to its destination (R155): a read on behalf of the step, so a parcel that resides only on flash is
a demand miss (R206). -/
def copyParcel (p : Nat) : Op Unit := do
  let bs ← rdFired p 0 4096
  let r ← get
  onS fun s =>
    let put (s : State) (m : Migration) : State := if m.dest = 2 then s else s.poke m.frame bs
    let s := ((s.ctx r.c).migrations.filter fun m => m.parcel == p).foldl put s
    s.modCtx r.c fun x => { x with migrations := x.migrations.map fun m =>
      if m.parcel = p then { m with pending := true, image := if m.dest = 2 then imageOf bs else m.image } else m }
  let r ← get
  modify fun q => { q with own := [q.progress] }
  if (r.s.ctx r.c).migrations.any fun m => m.pos == r.pos && !m.pending then throw (.hold .other)

/-- MIGRATION_COPY_COMPLETE (R155, R156): COPYING becomes PENDING; the MIGRATE completes with its last copy. -/
def execMigrationCopyComplete (c parcel : Nat) (s : State) : Result :=
  .next <|
    match (s.ctx c).migrations.find? fun m => m.parcel == parcel && !m.pending with
    | none => s
    | some m => s.runOp { ctx := c, pos := m.pos } (fun d => opcodeOf d == 0x32) (copyParcel parcel)

end Sys2Proof.Machine
end

