-- ==== Sys2Proof/Machine/Rings.lean ====
section
/-! DEFINITION. Brenal rings (R356 to R371, R505): fetching, doorbells, event entries, status blocks, tally delivery, input stalls.
Number 1024 stands for the steward where a command names a ring's owner. -/

namespace Sys2Proof.Machine

/-- The steward as an owner of a ring. -/
abbrev stewardNo : Nat := 1024

/-- The 128 bytes of a descriptor. -/
def descBytes (d : Desc) : List Byte := leBytes 128 d.toNat

/-- A descriptor is valid at a position: stamp and check (R358, R359, R362). -/
def descValid (d : Desc) (pos : Nat) : Bool :=
  d.field 0 2 == pos % 65536 &&
    d.field 14 2 == crc16 ((descBytes d).take 14 ++ [0, 0] ++ (descBytes d).drop 16)

/-- The form of a host address (R350). -/
def isHostAddr (a : Nat) : Bool := bits a 52 12 == 0x800

/-- Whether a context has a live queue pair. -/
def State.attached (s : State) (c : Nat) : Bool := s.host.qps.any fun q => q.est && q.conn.kind == 2 && q.conn.ctx == c

/-- Whether the steward has one. -/
def State.stewardLive (s : State) : Bool := s.host.qps.any fun q => q.est && q.conn.kind == 1

/-- Port of the steward's queue pair. -/
def State.stewardPort (s : State) : Nat := ((s.host.qps.find? fun q => q.est && q.conn.kind == 1).map (·.conn.port)).getD 0

/-- Whether the steward's queue pair can carry a write. -/
def State.stewardOpen (s : State) : Bool := s.stewardLive && s.portOpen s.stewardPort

/-- R150: with STRICT set, a SCATTER_GRAD with no_wait 0 behind an uncompleted SCATTER_GRAD of a higher ordinal of its batch in its lane
is refused when it enters the window. Those that name no lane (0xFF) are taken as one lane (DESIGN CHOICE, log entry 108). -/
def laneOrderBad (strict : Bool) (win : List WinOp) (w : WinOp) : Bool :=
  strict && opcodeOf w.desc == 0x31 && !(w.desc.field 16 8).testBit 11 &&
    win.any fun v => opcodeOf v.desc == 0x31 && laneOf v.desc == laneOf w.desc && v.step == w.step &&
      bits (v.desc.field 28 4) 0 4 == bits (w.desc.field 28 4) 0 4 && decide (bits (v.desc.field 28 4) 4 8 > bits (w.desc.field 28 4) 4 8)

/-- The host inputs that an operation's descriptor names: the source of a COPY, the program, parameters and inputs of a VECTOR, the lists of
a GATHER_POOL and of a PREFETCH_ANNOUNCE (R18, R351). -/
def inputsOf (d : Desc) : List (Nat × Nat) :=
  let all : List (Nat × Nat) := match opcodeOf d with
    | 0x02 => [(d.field 32 8, d.field 24 8)]
    | 0x28 => [(d.field 24 8, 8 * d.field 32 2), (d.field 120 8, 64)] ++
        (List.range (min (d.field 34 1) 4)).map fun j => (d.field (48 + 8 * j) 8, d.field (96 + 4 * j) 4 * d.field 36 4)
    | 0x30 =>
      let n := d.field 28 4
      [(d.field 56 8, n * (if (d.field 32 4).testBit 6 then 8 else 4)),
        (d.field 64 8, if d.field 36 4 = 0 then 4 * (d.field 24 4 + 1) else 0), (d.field 72 8, 4 * n)]
    | 0x60 => [(d.field 48 8, d.field 24 4 * (if (d.field 28 4).testBit 5 then 16 else if (d.field 28 4).testBit 6 then 8 else 4))]
    | _ => []
  all.filter fun x => isHostAddr x.1 && x.2 != 0

/-- Take the valid descriptors from the front into the window (R362, R232), with the READs of their inputs (R18); stop at the first
that is not valid. -/
def State.accept (s : State) (c : Nat) : List Desc → State
  | [] => s
  | d :: ds =>
    let x := s.ctx c
    if x.window.length ≥ 256 ∨ x.fetchPos ≥ x.cmdProducer then s
    else if descValid d x.fetchPos then
      let w : WinOp := { pos := x.fetchPos, desc := d, step := x.fired + 1 + x.conesFetched,
                         reads := (inputsOf d).map fun q => { addr := q.1, len := q.2 } }
      let s := s.modCtx c fun x =>
        { x with window := x.window ++ [w], fetchPos := x.fetchPos + 1, reread := none, statusDirty := true,
                 conesFetched := if opcodeOf d = 0x62 then x.conesFetched + 1 else x.conesFetched }
      let strict := if w.step = x.fired + 1 then x.strict else (s.blk 10 0).testBit 0
      if laneOrderBad strict x.window w then s.failOp c w 1 0x0B04 (9 + ((w.pos % 2 ^ 64) <<< 64)) else s.accept c ds
    else s.modCtx c fun x => { x with reread := some (x.fetchPos, 0) }

/-- The bytes of the next fetch: up to 32 descriptors, within the ring's lap (R362). -/
def State.fetchCount (s : State) (c : Nat) : Nat :=
  let x := s.ctx c
  min (min 32 (x.cmdProducer - x.fetchPos)) (min (256 - x.window.length) (s.cmdEntries c - x.fetchPos % s.cmdEntries c))

/-- Issue a fetch at fetch_pos and take what it returns. A fetch outside its window makes the ring TORN at once (R363). -/
def State.fetch (s : State) (c : Nat) (ds : List Desc) : State :=
  let x := s.ctx c
  let n := s.fetchCount c
  if n = 0 then s
  else
    let base := s.pg c 0x080
    let (w, off) := hostParts base
    let at_ := off + (x.fetchPos % s.cmdEntries c) * 128
    if !windowHolds s c w at_ (n * 128) false then
      (s.raiseCtx c none 0x0105 (windowPayload (n * 128) w at_ 0 false)).setRing c .torn 0x0105
    else match s.readPort c w with
      | none => s
      | some p =>
        let s := s.emit (.readReq c (base + (x.fetchPos % s.cmdEntries c) * 128) (n * 128))
        let s := { s with host := { s.host with modRead := modAt s.host.modRead p fun k => (k + 128 * (ds.take n).length) % 2 ^ 64 } }
        (s.accept c (ds.take n)).sendReads c

/-- No fetch can go out now: there is nothing to fetch or no room for it (R362), or no allowed queue pair has room for it (R346, R350). -/
def State.fetchHeld (s : State) (c : Nat) : Bool :=
  s.fetchCount c == 0 ||
    ((s.readPort c (hostParts (s.pg c 0x080)).1).isNone &&
      windowHolds s c (hostParts (s.pg c 0x080)).1 ((hostParts (s.pg c 0x080)).2 + ((s.ctx c).fetchPos % s.cmdEntries c) * 128)
        (s.fetchCount c * 128) false)

/-- DESCRIPTOR_FETCH (R362, R363). -/
def execDescriptorFetch (c : Nat) (ds : List Desc) (s : State) : Result :=
  .next <|
    let x := s.ctx c
    if s.pwr.life ≠ .ready ∨ ¬ x.enabled ∨ x.ring ≠ .active ∨ x.reread.isSome then s
    else s.fetch c ds

/-- DESCRIPTOR_REREAD (R363): a read of p and what follows; valid, fetching resumes; the eighth that is not makes the ring TORN. -/
def execDescriptorReread (c : Nat) (ds : List Desc) (s : State) : Result :=
  .next <|
    let x := s.ctx c
    match x.reread with
    | none => s
    | some (p, k) =>
      if s.pwr.life ≠ .ready ∨ ¬ x.enabled ∨ (x.ring ≠ .active ∧ x.ring ≠ .torn) ∨ s.fetchHeld c then s
      else
        let s := s.modCtx c fun x => { x with rereadCount := satAdd 32 x.rereadCount 1, reread := none }
        let t := s.fetch c ds
        let y := t.ctx c
        if y.fetchPos > p then (if y.ring = .torn then t.setRing c .active 0x0101 else t)
        else if y.ring = .torn ∧ y.reread.isNone then t
        else if k + 1 < 8 then t.modCtx c fun x => { x with reread := some (p, k + 1) }
        else
          let d := ds.headD 0
          ((t.modCtx c fun x => { x with reread := none }).raiseCtx c none 0x0101
            (d.field 0 2 + (d.field 14 2 <<< 16) + ((p % 2 ^ 64) <<< 64))).setRing c .torn 0x0101

/-! ### Doorbells (R360, R370) -/

/-- Event 0x0102 of a doorbell (R502). -/
def State.doorbellBad (s : State) (c off cause v : Nat) : State :=
  s.raiseCtx c none 0x0102 (off + (cause <<< 16) + ((v % 2 ^ 64) <<< 64))

/-- The doorbell value of a context counts as lower and is ignored (R360). -/
def State.doorbellLow (s : State) (c : Nat) : State := s.modCtx c fun x => { x with ignoredCount := satAdd 32 x.ignoredCount 1 }

/-- Read p again from the start of R363. -/
def State.startReread (s : State) (c : Nat) : State := s.modCtx c fun x => { x with reread := some (x.fetchPos, 0) }

/-- CMD_PRODUCER (R360, R369). -/
def State.cmdProducer (s : State) (c nbytes : Nat) (v : Word) : State :=
  let x := s.ctx c
  if nbytes ≠ 8 then s.doorbellBad c 0 1 v.toNat
  else if v.toNat < x.cmdProducer then s.doorbellLow c
  else if v.toNat > x.retirePos + s.cmdEntries c then s.doorbellBad c 0 2 v.toNat
  else
    let s := s.modCtx c fun x => { x with cmdProducer := v.toNat }
    if x.ring = .torn then s.startReread c else s

/-- EVENT_CONSUMER (R360). -/
def State.eventConsumer (s : State) (c nbytes : Nat) (v : Word) : State :=
  let x := s.ctx c
  if nbytes ≠ 8 then s.doorbellBad c 8 1 v.toNat
  else if v.toNat < x.eventConsumer then s.doorbellLow c
  else if v.toNat > x.eventPos then s.doorbellBad c 8 2 v.toNat
  else s.modCtx c fun x => { x with eventConsumer := v.toNat }

/-- TALLY_CONSUMER (R360, R367). -/
def State.tallyConsumer (s : State) (c nbytes : Nat) (v : Word) : State :=
  let x := s.ctx c
  if nbytes ≠ 8 then s.doorbellBad c 16 1 v.toNat
  else if v.toNat < x.tallyConsumer then s.doorbellLow c
  else if v.toNat > x.tallyDone then s.doorbellBad c 16 2 v.toNat
  else s.modCtx c fun x => { x with tallyConsumer := v.toNat }

/-- RESUME (R369, R370). -/
def State.resume (s : State) (c nbytes : Nat) (v : Word) : State :=
  let x := s.ctx c
  if nbytes ≠ 8 then s.doorbellBad c 24 1 v.toNat
  else match x.ring with
    | .halted =>
      if v.toNat = x.retirePos then
        (s.modCtx c fun x => { x with fetchPos := v.toNat, conesFetched := 0 }).setRing c .active 0
      else s.doorbellBad c 24 3 v.toNat
    | .torn => if v.toNat = x.fetchPos then s.startReread c else s.doorbellBad c 24 3 v.toNat
    | .orphaned => s
    | _ => s.doorbellBad c 24 3 v.toNat

def execCmdProducer (c nbytes : Nat) (v : Word) (s : State) : Result := .next (s.cmdProducer c nbytes v)
def execEventConsumer (c nbytes : Nat) (v : Word) (s : State) : Result := .next (s.eventConsumer c nbytes v)
def execTallyConsumer (c nbytes : Nat) (v : Word) (s : State) : Result := .next (s.tallyConsumer c nbytes v)
def execResume (c nbytes : Nat) (v : Word) (s : State) : Result := .next (s.resume c nbytes v)

/-! ### What the module writes (R361, R364 to R367, R505) -/

/-- The 64 bytes of an event-ring entry (R365): the check covers them with its field zero. -/
def entryBytes (e : Entry) (pos : Nat) : List Byte :=
  let make (check : Nat) := leBytes 2 pos ++ leBytes 1 e.kind ++ leBytes 1 e.outcome ++ leBytes 2 e.code ++ leBytes 2 e.context ++
    leBytes 8 e.position ++ leBytes 8 e.step ++ leBytes 8 e.datum ++ leBytes 4 e.tag ++ leBytes 2 check ++ leBytes 2 0 ++
    leBytes 24 e.payload
  make (crc16 (make 0))

/-- A ring out of its window holds its writes; event 0x0105 once in the steward ring (R356). -/
def State.outOfWindow (s : State) (c addr len : Nat) : State :=
  if (s.ctx c).ringOut then s
  else
    let (w, off) := hostParts addr
    (s.modCtx c fun x => { x with ringOut := true }).raise 0x0105 (windowPayload len w off 0 true)

/-- Whether every ring that the module writes lies in its window again (R356). -/
def State.ringsInside (s : State) (c : Nat) : Bool :=
  s.ringInWindow c (s.pg c 0x090) (s.eventEntries c * 64) && s.ringInWindow c (s.pg c 0x0A0) (s.tallyBytes c) &&
    s.ringInWindow c (s.pg c 0x0B0) 64

/-- The ring settings of a context: offset of the address, of the size, bytes, whether the module writes there (R356, R484). -/
def State.ringSettings (s : State) (c : Nat) : List (Nat × Nat × Nat × Bool) :=
  [(0x080, 0x088, s.cmdEntries c * 128, false), (0x090, 0x098, s.eventEntries c * 64, true), (0x0A0, 0x0A8, s.tallyBytes c, true),
    (0x0B0, 0x0B0, 64, true)]

/-- Whether a ring lies where R356 puts it: at a host address, inside a window with the right it needs; the status block 64-byte aligned.
A setting of 0 names no ring (log entry 55). -/
def State.ringPlaced (s : State) (c off len : Nat) (write : Bool) : Bool :=
  let a := s.pg c off
  a == 0 || (isHostAddr a && windowHolds s c (hostParts a).1 (hostParts a).2 len write && (off != 0x0B0 || a % 64 == 0))

/-- An entry of the kind "lost count" (R365, R366). -/
def lostEntry (ctx n datum step : Nat) : Entry :=
  { kind := 3, outcome := 0, code := 0, context := ctx, position := 0, step := step, datum := datum, tag := 0, payload := n }

/-- Write the next entry of a context's event ring, when it has a free slot, a window and a queue pair (R365, R366). -/
def State.writeEntry (s : State) (c : Nat) : State :=
  let x := s.ctx c
  let ring := s.pg c 0x090
  let n := s.eventEntries c
  if ¬ x.enabled ∨ x.ring = .orphaned ∨ ¬ s.attached c ∨ x.eventPos ≥ x.eventConsumer + n then s
  else if !s.ringInWindow c ring (n * 64) then s.outOfWindow c ring (n * 64)
  else
    match windowPorts s c (hostParts ring).1 with
    | [] => s
    | _ :: _ =>
      let s := s.modCtx c fun x => { x with ringOut := x.ringOut && !s.ringsInside c }
      let send (s : State) (e : Entry) : State :=
        let s := s.sendWrite c (ring + (x.eventPos % n) * 64) (entryBytes e x.eventPos) (.entry x.eventPos)
        s.modCtx c fun x => { x with eventPos := x.eventPos + 1 }
      if x.lostEntries > 0 then
        let s := send s (lostEntry c x.lostEntries s.datum (s.step c))
        (s.modCtx c fun y => { y with lostEntries := 0 }).raise 0x010A x.lostEntries
      else match x.entryq with
        | [] => s
        | e :: rest => (send s e).modCtx c fun y => { y with entryq := rest }

/-- Write the next entry of the steward ring (R356): in order, overwriting the entry of one lap before. -/
def State.writeSteward (s : State) : State :=
  let ring := s.blk 5 0x100
  let n := 2 ^ (bits (s.blk 5 0x108) 32 4 + 6)
  if ¬ s.stewardOpen ∨ s.host.stewardHold ≠ 0 ∨ s.blk 5 0x108 % 2 ^ 32 = 0 ∧ ring = 0 then s
  else
    let send (s : State) (e : Entry) : State :=
      let bs := entryBytes e s.host.stewardPos
      let a := ring + (s.host.stewardPos % n) * 64
      let w : HostWrite := { addr := a, bytes := bs, kind := .entry s.host.stewardPos, port := s.stewardPort }
      let s := s.emitWrite 0xFFFF w
      { s with host := { s.host with stewardPos := s.host.stewardPos + 1, stewardWrites := s.host.stewardWrites ++ [w] } }
    if s.host.stewardLost > 0 then
      let k := s.host.stewardLost
      let s := send s (lostEntry 0xFFFF k s.datum 0)
      { s with host := { s.host with stewardLost := 0 } }
    else match s.host.stewardq with
      | [] => s
      | e :: rest =>
        let s := send s e
        { s with host := { s.host with stewardq := rest } }

/-- EVENT_ENTRY_WRITE (R365, R366); 1024 is the steward ring. -/
def execEventEntryWrite (c : Nat) (s : State) : Result :=
  .next (if s.pwr.life ≠ .ready then s else if c = stewardNo then s.writeSteward else s.writeEntry c)

/-- Code of a ring state (R364). -/
def RingState.code : RingState → Nat
  | .active => 0
  | .blocked => 1
  | .torn => 2
  | .stalled => 3
  | .halted => 4
  | .orphaned => 5

/-- The 64 bytes of a status block (R364). -/
def statusBytes (fetch retire event tally fired state reason delivered : Nat) : List Byte :=
  let make (check : Nat) := leBytes 8 fetch ++ leBytes 8 retire ++ leBytes 8 event ++ leBytes 8 tally ++ leBytes 8 fired ++
    leBytes 1 state ++ leBytes 1 0 ++ leBytes 2 reason ++ leBytes 4 0 ++ leBytes 8 delivered ++ leBytes 6 0 ++ leBytes 2 check
  make (crc16 (make 0))

/-- Write a context's status block when a field has changed, at most once per microsecond (R364); its positions cover acknowledged writes only
(R361). -/
def State.writeStatus (s : State) (c : Nat) : State :=
  let x := s.ctx c
  let a := s.pg c 0x0B0
  if ¬ x.enabled ∨ x.ring = .orphaned ∨ ¬ s.attached c ∨ ¬ x.statusDirty ∨ x.statusAt.any (fun t => decide (s.datum < t + 1000)) then s
  else if !s.ringInWindow c a 64 then s.outOfWindow c a 64
  else match windowPorts s c (hostParts a).1 with
    | [] => s
    | _ :: _ =>
      let bs := statusBytes x.fetchPos x.retirePos x.eventAcked x.tallyDone x.fired x.ring.code x.ringReason x.deliveredStep
      (s.sendWrite c a bs .status).modCtx c fun x => { x with statusDirty := false, statusAt := some s.datum }

/-- The steward position that its status block may show: every entry below it is acknowledged (R356, R361). -/
def State.stewardShown (s : State) : Nat :=
  ((s.host.stewardWrites.filterMap fun w => match w.kind with
    | .entry pos => some pos
    | _ => none).head?).getD s.host.stewardPos

/-- Write the steward's status block when its position has changed, at most once per microsecond (R364): event_pos gives the next steward
position (R356). -/
def State.writeStewardStatus (s : State) : State :=
  let a := s.blk 5 0x110
  if ¬ s.stewardOpen ∨ s.host.stewardHold ≠ 0 ∨ a = 0 ∨
      s.host.stewardStatus.any (fun x => x.1 == s.stewardShown || decide (s.datum < x.2 + 1000)) then s
  else
    let bs := statusBytes 0 0 s.stewardShown 0 0 0 0 0
    let w : HostWrite := { addr := a, bytes := bs, kind := .status, port := s.stewardPort }
    let s := s.emitWrite 0xFFFF w
    { s with host := { s.host with stewardWrites := s.host.stewardWrites ++ [w], stewardStatus := some (s.stewardShown, s.datum) } }

/-- Send the steward's WRITEs that are held, in order (R356, R505). -/
def State.sendSteward (s : State) : State :=
  if !s.stewardOpen ∨ s.host.stewardHold ≠ 0 then s
  else
    let go := s.host.stewardWrites.map fun w => if w.sent then (w, false) else ({ w with sent := true, port := s.stewardPort }, true)
    let s := { s with host := { s.host with stewardWrites := go.map (·.1) } }
    (go.filter (·.2)).foldl (fun s w => s.emitWrite 0xFFFF w.1) s

/-- Every transfer that is held goes out where it can: a port carries traffic again, or windows have changed (R345, R350). -/
def State.resumeAll (s : State) : State := s.enabledCtxs.foldl State.resumeHost s.sendSteward

/-- STATUS_BLOCK_WRITE (R364); 1024 is the steward's. -/
def execStatusBlockWrite (c : Nat) (s : State) : Result :=
  .next (if s.pwr.life ≠ .ready then s else if c = stewardNo then s.writeStewardStatus else s.writeStatus c)

/-! ### Tally delivery (R248, R367) -/

/-- The smallest multiple of 64 at or above n. -/
def up64 (n : Nat) : Nat := (n + 63) / 64 * 64

/-- Write the next fired record into the tally ring, with a pad marker where it does not fit before the ring's end (R367). -/
def State.writeTally (s : State) (c : Nat) : State :=
  let x := s.ctx c
  match x.tallies.find? fun t => t.fired && !t.written with
  | none => s
  | some t =>
    let size := s.tallyBytes c
    let ring := s.pg c 0x0A0
    let len := t.bytes.length
    let upd (f : Tally → Tally) (s : State) : State := s.modCtx c fun x =>
      { x with tallies := x.tallies.map fun u => if u.step = t.step then f u else u }
    if ¬ x.enabled ∨ x.ring = .orphaned ∨ ¬ s.attached c then s
    else if len * 2 > size then
      (if t.tooBig then s
       else (upd (fun u => { u with tooBig := true }) s).raiseCtx c none 0x010C ((len <<< 64) + (t.step <<< 128)))
    else if !s.ringInWindow c ring size then s.outOfWindow c ring size
    else match windowPorts s c (hostParts ring).1 with
      | [] => s
      | _ :: _ =>
        let off := x.tallyPos % size
        let pad := if off + len > size then size - off else 0
        let start := x.tallyPos + pad
        let fin := up64 (start + len)
        if start + len > x.tallyConsumer + size then s
        else
          let s := if pad = 0 then s
            else s.sendWrite c (ring + off) (leBytes 4 pad ++ leBytes 2 0 ++ leBytes 2 0) (.tally t.step false fin)
          let s := s.sendWrite c (ring + start % size) t.bytes (.tally t.step true fin)
          upd (fun u => { u with written := true, endPos := fin }) (s.modCtx c fun x => { x with tallyPos := fin })

/-- TALLY_WRITE (R367). -/
def execTallyWrite (c : Nat) (s : State) : Result := .next (if s.pwr.life ≠ .ready then s else s.writeTally c)

/-- TALLY_DELIVERED (R248, R249): the oldest written record whose last RDMA WRITE is acknowledged. Its held copy goes once it is
programmed in the journal, or journalling is stopped. -/
def execTallyDelivered (c : Nat) (s : State) : Result :=
  .next <|
    match (s.ctx c).tallies.find? fun t => t.written && !t.delivered with
    | none => s
    | some t =>
      if ¬ t.acked then s
      else (s.modCtx c fun x =>
        { x with tallyDone := t.endPos, deliveredStep := t.step, statusDirty := true,
                 tallies := x.tallies.map fun u => if u.step = t.step then { u with delivered := true } else u }).releaseTallies c

/-- Acknowledge `n` more bytes of the oldest WRITE on a port's queue pair (R505): the WRITE, once it is acknowledged whole, and those left. -/
def ackWrite (port n : Nat) : List HostWrite → Option HostWrite × List HostWrite
  | [] => (none, [])
  | w :: rest =>
    if w.sent ∧ w.port = port then
      if w.acked + n < w.bytes.length then (none, { w with acked := w.acked + n } :: rest) else (some w, rest)
    else
      let (d, l) := ackWrite port n rest
      (d, w :: l)

/-- Whether a tally record of a step is still to be acknowledged. -/
def tallyOpen (ws : List HostWrite) (step : Nat) : Bool :=
  ws.any fun w => match w.kind with
    | .tally k _ _ => k == step
    | _ => false

/-- What the acknowledgement of a whole WRITE allows (R361, R505): positions advance past what is acknowledged on whichever queue pair it
travelled, and an operation whose outputs are all acknowledged completes. -/
def State.written (s : State) (c : Nat) (w : HostWrite) : State :=
  let left := (s.ctx c).writes
  match w.kind with
  | .entry _ =>
    let first := (left.filterMap fun v => match v.kind with
      | .entry p => some p
      | _ => none).head?
    s.modCtx c fun x => { x with eventAcked := first.getD x.eventPos, statusDirty := true }
  | .tally step _ _ =>
    if tallyOpen left step then s
    else s.modCtx c fun x => { x with tallies := x.tallies.map fun t => if t.step = step then { t with acked := true } else t }
  | .status => s
  | .left => s
  | .output pos =>
    match s.winOp c pos with
    | none => s
    | some o =>
      let s := s.modWin c pos fun v => { v with writes := v.writes - 1 }
      if o.writes > 1 then s else s.endOp c pos

/-- WRITE_ACKNOWLEDGED (R361, R505): `n` bytes more of the oldest outstanding RDMA WRITE on a queue pair of a context, or of the steward
(1024). -/
def execWriteAcknowledged (c port n : Nat) (s : State) : Result :=
  .next <|
    if c = stewardNo then { s with host := { s.host with stewardWrites := (ackWrite port n s.host.stewardWrites).2 } }
    else
      let (done, left) := ackWrite port n (s.ctx c).writes
      let s := s.modCtx c fun x => { x with writes := left }
      match done with
      | some w => s.written c w
      | none => s

/-- The oldest unacknowledged WRITE on a queue pair has gone out again. -/
def markResent (port : Nat) : List HostWrite → List HostWrite
  | [] => []
  | w :: rest => if w.sent ∧ w.port = port then { w with resent := w.resent + 1 } :: rest else w :: markResent port rest

/-- WRITE_RETRANSMIT (R505): the oldest unacknowledged WRITE on a queue pair goes out again from its first unacknowledged byte; it keeps its
order. -/
def execWriteRetransmit (c port : Nat) (s : State) : Result :=
  .next <|
    let ws := if c = stewardNo then s.host.stewardWrites else (s.ctx c).writes
    match ws.find? fun w => w.sent && w.port == port with
    | none => s
    | some w =>
      if !s.portOpen port ∨ (c ≠ stewardNo ∧ (s.ctx c).ring = .orphaned) ∨ (c = stewardNo ∧ !s.stewardOpen) then s
      else
        let s := s.emit (.write (if c = stewardNo then 0xFFFF else c) (w.addr + w.acked) (w.bytes.drop w.acked))
        let s := { s with host := { s.host with retrans := modAt s.host.retrans port fun k => satAdd 32 k 1 } }
        if c = stewardNo then { s with host := { s.host with stewardWrites := markResent port s.host.stewardWrites } }
        else s.modCtx c fun x => { x with writes := markResent port x.writes }

/-- The 8 bytes of a keep-alive read that was outstanding have come (R378; log entry 97). -/
def State.keptAlive (s : State) (port : Option Nat) : State :=
  match port with
  | some p => { s with host := { s.host with modRead := modAt s.host.modRead p fun k => (k + 8) % 2 ^ 64 } }
  | none => s

/-- Whether a context's queue pairs carry nothing: no WRITE is unacknowledged, no READ outstanding (R372). -/
def Ctx.quietHost (x : Ctx) : Bool := x.writes == [] && x.window.all fun w => w.reads.all fun r => r.port.isNone || r.done

/-- KEEPALIVE (R372, R373): an 8-byte read of the status block, while the queue pairs carry no other traffic and one can take it. The
answer to the one before has come by then (log entry 97). -/
def execKeepalive (c : Nat) (s : State) : Result :=
  .next <|
    if s.pwr.life ≠ .ready then s
    else if c = stewardNo then
      if !s.stewardOpen ∨ s.blk 5 0x110 = 0 ∨ s.host.stewardWrites ≠ [] then s
      else
        let s := (s.keptAlive s.host.stewardKeep).emit (.readReq 0xFFFF (s.blk 5 0x110) 8)
        { s with host := { s.host with stewardKeep := some s.stewardPort } }
    else
      let a := s.pg c 0x0B0
      if ¬ (s.ctx c).enabled ∨ (s.ctx c).ring = .orphaned ∨ ¬ (s.ctx c).quietHost then s
      else
        let t := (s.keptAlive (s.ctx c).keepRead).modCtx c fun x => { x with keepRead := none }
        match t.readPort c (hostParts a).1 with
        | some p => (t.emit (.readReq c a 8)).modCtx c fun x => { x with keepRead := some p }
        | none => s

/-! ### Input stalls (R371) -/

/-- Whether an operation of the window waits for host input. -/
def State.waitsInput (s : State) (c pos : Nat) : Bool :=
  match s.winOp c pos with
  | some w => w.wait == some .hostInput
  | none => false

/-- INPUT_READ_RETRY (R371): the unread remainder of the READ that an operation waits for is requested again, and counted as a retry. One
that is held goes out when an allowed queue pair has room for it (R346, R350). At a position without an operation it is the context's keep-alive
read that is retried (R372; log entry 97). -/
def execInputReadRetry (c pos : Nat) (s : State) : Result :=
  .next <|
    let again (a n p : Nat) : State :=
      if !s.portOpen p then s
      else (s.emit (.readReq c a n)).modCtx c fun x => { x with retryCount := satAdd 32 x.retryCount 1 }
    if (s.ctx c).ring = .orphaned then s
    else match s.winOp c pos with
      | none => match (s.ctx c).keepRead with
        | some p => again (s.pg c 0x0B0) 8 p
        | none => s
      | some w =>
        match w.asked with
        | none => s
        | some (a, n) =>
          if w.wait ≠ some .hostInput then s
          else match (w.reads.find? (·.covers (a, n))).bind (·.port) with
            | some p => again a n p
            | none => s.sendReads c

/-- Raise an event of class 0x01 for an operation, at most once (R380). -/
def State.tellStall (s : State) (c pos code payload : Nat) : State :=
  match s.winOp c pos with
  | some w =>
    if w.seen.contains code then s
    else (s.modWin c pos fun v => { v with seen := code :: v.seen }).raiseCtx c (some pos) code payload
  | none => s.raiseCtx c (some pos) code payload

/-- RING_STALLED (R369, R371): a read without progress for HST_STALL_TIME. -/
def execRingStalled (c pos unread : Nat) (s : State) : Result :=
  .next <|
    if ¬ s.waitsInput c pos ∨ (s.ctx c).stalledReads.contains pos then s
    else
      let pay := ((pos % 2 ^ 64) <<< 64) + ((unread % 2 ^ 64) <<< 128)
      let mark (s : State) := s.modCtx c fun x => { x with stalledReads := pos :: x.stalledReads }
      match (s.ctx c).ring with
      | .active => ((mark s).tellStall c pos 0x0103 pay).setRing c .stalled 0x0103
      | .blocked => (mark s).tellStall c pos 0x0103 pay
      | _ => s

/-- RING_RESUMED (R369, R371): a stalled read has completed; the operation may go on. -/
def execRingResumed (c pos : Nat) (s : State) : Result :=
  .next <|
    if ¬ (s.ctx c).stalledReads.contains pos then s
    else
      let s := s.modCtx c fun x => { x with stalledReads := x.stalledReads.filter (· != pos) }
      let pay := (pos % 2 ^ 64) <<< 64
      match (s.ctx c).ring with
      | .stalled => (s.tellStall c pos 0x0104 pay).setRing c .active 0x0104
      | .blocked => s.tellStall c pos 0x0104 pay
      | _ => s

end Sys2Proof.Machine
end

