-- ==== Sys2Proof/Machine/Regs.lean ====
section
/-! DEFINITION. Reading the register space (R461 to R464, R470 to R485), the trouble-log window (R439), the witness record
(R440 to R445) and the measurements (R458). -/

namespace Sys2Proof.Machine

/-- A signed number in `n` bits. -/
def signedBits (n : Nat) (x : Int) : Nat := (x % (2 ^ n : Nat)).toNat

/-! ### The trouble log as bytes (R436) -/

/-- The 64 bytes of a record. -/
def logBytes (r : LogRec) : List Byte :=
  leBytes 8 r.seq ++ leBytes 8 r.datum ++ leBytes 2 r.code ++ leBytes 2 r.context ++ leBytes 1 r.kind ++ leBytes 1 r.flags ++
    leBytes 1 r.origin ++ [0] ++ leBytes 40 r.body

/-- The record in a slot of the window: the newest whose sequence falls there (R435). -/
def State.logSlot (s : State) (slot : Nat) : Option LogRec := s.log.recs.find? fun r => r.seq % 16384 == slot

/-! ### The witness record (R442) -/

/-- State codes of R476. -/
def PortState.code : PortState → Nat
  | .disabled => 0
  | .training => 1
  | .traverse => 2
  | .up => 3
  | .degraded => 4
  | .quarantined => 5
  | .down => 6

/-- Step-state codes of R299. -/
def StepState.code : StepState → Nat
  | .running => 0
  | .bent => 1
  | .armed => 2
  | .inDoubt => 3
  | .voiding => 4
  | .stopped => 5

/-- Reading i (0 to 11 layer, 12 setter die) of a stack. -/
def Stack.temp (x : Stack) (i : Nat) : Int := (alook i x.temps).getD 0

/-- CLK_FCOUNT_RESULT (R414). -/
def Fcount.result (f : Fcount) : Nat :=
  f.count % 2 ^ 40 + (if f.valid then 2 ^ 40 else 0) + (if f.outOfLimits then 2 ^ 41 else 0)

/-- Frequency counter n. -/
def State.fcount (s : State) (n : Nat) : Fcount := (alook n s.pwr.fcount).getD {}

/-- CLK_LOSS (R479). -/
def State.clkLoss (s : State) : Nat :=
  s.pwr.lost.foldl (fun m i => m ||| 2 ^ i) 0 + s.pwr.lostSince.foldl (fun m i => m ||| 2 ^ (32 + i)) 0

/-- PWR_INPUT (R422). -/
def State.pwrInput (s : State) : Nat := s.pwr.mV % 65536 + ((s.pwr.mA % 65536) <<< 16) + ((s.pwr.watts % 65536) <<< 32)

/-- Host port link state: 1 up, with its four lanes (R345). -/
def State.hostUp (s : State) (p : Nat) : Bool := if p = 0 then s.host.up0 else s.host.up1

/-- The 3 KiB snapshot (R442). -/
def State.snapshot (s : State) : List Byte :=
  let temps := (List.range 12).map (s.setter.stack0.temp) ++ (List.range 12).map (s.setter.stack1.temp) ++
    [s.setter.stack0.temp 12, s.setter.stack1.temp 12] ++ (List.range 4).map (fun i => (alook i s.pwr.dieTemps).getD 0) ++
    (List.range 4).map (fun i => (alook (4 + i) s.pwr.dieTemps).getD 0) ++ (List.range 2).map (fun i => (alook (8 + i) s.pwr.dieTemps).getD 0) ++
    (List.range 2).map (fun i => (alook (12 + i) s.pwr.dieTemps).getD 0)
  let body := leBytes 8 s.pwrInput ++ temps.flatMap (fun t => leBytes 2 (signedBits 16 t)) ++
    leBytes 1 s.setter.stack0.level ++ leBytes 1 s.setter.stack1.level ++ leBytes 8 (s.pwr.lost.foldl (fun m i => m ||| 2 ^ i) 0) ++
    (List.range 8).flatMap (fun p => leBytes 4 ((s.port p).st.code + ((s.port p).lanes <<< 8))) ++
    (List.range 2).flatMap (fun p => leBytes 4 (if s.hostUp p then 1 + (15 <<< 8) else 0)) ++
    (List.range 16).flatMap (fun n => leBytes 8 (s.fcount n).result)
  body ++ List.replicate (3072 - body.length) 0

/-- The 16 KiB context table (R442). -/
def State.ctxTable (s : State) : List Byte :=
  (List.range 1024).flatMap fun c =>
    match alook c s.ctxs with
    | none => leBytes 8 0 ++ [0xFF] ++ leBytes 1 0 ++ leBytes 2 0 ++ leBytes 4 0
    | some x => leBytes 8 x.fired ++ leBytes 1 (if x.enabled then x.step.code else 0xFF) ++ leBytes 1 x.ring.code ++ leBytes 2 0 ++
        leBytes 4 x.epoch

/-- A list cut or filled to n bytes. -/
def fitBytes (n : Nat) (bs : List Byte) : List Byte := (List.range n).map fun i => bs.getD i 0

/-- A component entry of a firmware header (R448). -/
def partBytes (p : FwPart) : List Byte :=
  leBytes 2 p.id ++ leBytes 2 0 ++ leBytes 4 p.offset ++ leBytes 4 p.length ++ leBytes 4 0 ++ fitBytes 32 p.digest

/-- Bytes 0 to 1,567 of a firmware header, which its signature and measurement 1 cover (R448, R458). -/
def fwHeader (f : FwSlot) : List Byte :=
  leBytes 4 f.magic ++ leBytes 2 f.version ++ leBytes 1 f.keyIndex ++ leBytes 1 f.stepping ++ leBytes 4 f.securityVersion ++
    leBytes 4 f.bodyLength ++ leBytes 4 f.fwVersion ++ leBytes 4 0 ++ fitBytes 144 (f.components.flatMap partBytes) ++ leBytes 88 0 ++
    fitBytes 1312 f.publicKey

/-- A firmware image (R448): its 4 KiB header, then the body. -/
def fwBytes (f : FwSlot) : List Byte := fwHeader f ++ fitBytes 2420 f.signature.bytes ++ leBytes 108 0 ++ f.body

/-- Digest of component id of an image, as its header names it (R448); zeros where it names none. -/
def fwPart (f : FwSlot) (id : Nat) : List Byte :=
  ((f.components.find? fun p => p.id == id).map fun p => fitBytes 32 p.digest).getD (List.replicate 32 0)

/-- The bytes of a config block before its signature (R450). -/
def cfgBytes (b : CfgSlot) : List Byte :=
  leBytes 4 b.magic ++ leBytes 2 b.version ++ leBytes 1 b.signer ++ leBytes 1 b.keyIndex ++ leBytes 4 b.securityVersion ++
    leBytes 4 b.fwFloor ++ leBytes 8 b.serial ++ leBytes 4 b.entries.length ++ leBytes 4 0 ++
    b.entries.flatMap fun e => leBytes 8 e.1 ++ leBytes 8 e.2

/-- The bytes of an owner record, which R450 names without a layout (log entry 98). -/
def ownerBytes (o : OwnerRec) : List Byte :=
  fitBytes 1312 o.publicKey ++ leBytes 8 o.serial ++ leBytes 8 o.keyIndex ++ fitBytes 2420 o.signature.bytes

/-- The running firmware's slot. -/
def State.fw (s : State) : FwSlot := if s.trust.running = 0 then s.trust.fwA else s.trust.fwB

/-- Digest of measurement 1: the running firmware's header (R458). -/
def State.fwDigest (s : State) : List Byte := Sha3.sha3 (fwHeader s.fw)

/-- Bytes as cells from an offset, zeros left out. -/
def cellsFrom (o : Nat) (bs : List Byte) : List Host.Cell := (bs.mapIdx fun i b => (o + i, b)).filter fun x => x.2 ≠ 0

/-- Start a capture (R441): the SRAM is frozen and its header completed. While one runs, a fatal cause is only counted (R444). -/
def State.capture (s : State) (cause : Nat) : State :=
  match s.log.capture with
  | some w =>
    { s with log := { s.log with capture := some { w with laterCount := w.laterCount + 1,
                                                          laterFirst := if w.laterCount = 0 then cause else w.laterFirst } } }
  | none =>
    let head := cellsFrom 24 (leBytes 8 s.trust.serial ++ leBytes 4 s.fw.securityVersion ++ leBytes 1 s.trust.running ++
      leBytes 1 s.trust.cfgSlot ++ leBytes 1 s.pwr.current ++ leBytes 1 s.dat.st.code) ++ cellsFrom 64 s.fwDigest ++
      cellsFrom 0x400 s.snapshot ++ cellsFrom 0x1000 s.ctxTable
    { s with log := { s.log with
        captureSeq := s.log.captureSeq + 1
        capture := some { cause := cause, captureSeq := s.log.captureSeq, datum := s.datum, head := head, records := s.log.sram } } }

/-- One byte of a witness record (R442), its CRC field zero. -/
def witByte (w : WitRec) (o : Nat) : Byte :=
  let recs := w.records.reverse
  let hdr := leBytes 4 0x57544E53 ++ leBytes 2 1 ++ leBytes 2 w.cause ++ leBytes 8 w.captureSeq ++ leBytes 8 w.datum
  if o < 24 then hdr.getD o 0
  else if 40 ≤ o ∧ o < 64 then
    (leBytes 2 w.laterCount ++ leBytes 2 w.laterFirst ++ leBytes 4 recs.length ++ leBytes 8 ((recs.head?.map (·.seq)).getD 0) ++
      leBytes 8 0).getD (o - 40) 0
  else if o < 0x5000 then Memory.get w.head o
  else match recs[(o - 0x5000) / 64]? with
    | some r => (logBytes r).getD (o % 64) 0
    | none => 0

/-- The 64 KiB of a witness record with its CRC-32C (R442). -/
def witBytes (w : WitRec) : List Byte :=
  let bs := (List.range 65536).map (witByte w)
  bs.take 1020 ++ leBytes 4 (crc32c bs) ++ bs.drop 1024

/-- What the witness SRAM shows (R445): the frozen record of a capture, else the records under header bytes that are open
(log entry 90). -/
def State.sramByte (s : State) (o : Nat) : Byte :=
  match s.log.capture with
  | some w => (witBytes w).getD o 0
  | none =>
    if o < 0x5000 then Config.witnessFree 0 o
    else match s.log.sram.reverse[(o - 0x5000) / 64]? with
      | some r => (logBytes r).getD (o % 64) 0
      | none => 0

/-- One byte of the TRB_WITNESS window (R461): SRAM, then the 16 slots; one that holds no capture reads with its magic field zero (R445). -/
def State.witnessByte (s : State) (o : Nat) : Byte :=
  if o < 0x10000 then s.sramByte o
  else match alook (o / 0x10000 - 1) s.log.slots with
    | some w => (witBytes w).getD (o % 0x10000) 0
    | none => if o % 0x10000 < 4 then 0 else Config.witnessFree (o / 0x10000) (o % 0x10000)

/-! ### Measurements (R458) -/

/-- The module-wide staged registers' addresses in increasing order. -/
def stagedBlockAddrs : List Nat :=
  (List.range 12).flatMap fun k =>
    sortBy (fun a b => decide (a ≤ b)) ((blockRegs k).flatMap fun r => (List.range r.count).map fun i => blockAddr k (r.off + i * r.stride))

/-- The staged registers' addresses of one context page in increasing order. -/
def stagedPageAddrs (c : Nat) : List Nat :=
  sortBy (fun a b => decide (a ≤ b)) (pageRegs.flatMap fun r => (List.range r.count).map fun i => pageAddr c (r.off + i * r.stride))

/-- Digest over the in-force values of every staged register, as of the last commit (R458, index 5). -/
def State.settingsDigest (s : State) : List Byte :=
  let s := { s with regs := s.trust.measured }
  Sha3.sha3 ((stagedBlockAddrs ++ (List.range 1024).flatMap stagedPageAddrs).flatMap fun a => leBytes 8 a ++ leBytes 8 (s.reg a))

/-- Measurement i: version and digest (R458). -/
def State.measure (s : State) (i : Nat) : Nat × List Byte :=
  let zeros : List Byte := List.replicate 32 0
  let cfg := if s.trust.cfgSlot = 0 then s.trust.cfgA else if s.trust.cfgSlot = 1 then s.trust.cfgB else none
  match i with
  | 0 => (0xB0, Config.digestOf 0)
  | 1 => (s.fw.securityVersion, s.fwDigest)
  | 2 => (s.fw.securityVersion, fwPart s.fw 2)
  | 3 => match cfg with
    | some b => (b.securityVersion, Sha3.sha3 (cfgBytes b ++ fitBytes 2420 b.signature.bytes))
    | none => (0, zeros)
  | 4 => (0, (s.trust.owner.map fun o => Sha3.sha3 (ownerBytes o)).getD zeros)
  | 5 => (s.trust.commits, s.settingsDigest)
  | _ => (0, zeros)

/-! ### Values of the registers that are not staged -/

/-- FLUE_COMMIT_STATUS of a bank (R425): while a commit runs, what the one before it left. -/
def Bank.status (b : Bank) (datum : Nat) : Nat :=
  let busy := decide (datum < b.busyUntil)
  let (tag, refused, first) := if busy then b.before else (b.tag, b.refused, b.first)
  tag % 2 ^ 32 + (if busy then 2 ^ 32 else 0) + ((refused % 4096) <<< 33) + ((first % 65536) <<< 48)

/-- FLUE_STATUS (R470). -/
def State.flueStatus (s : State) : Nat :=
  (if s.pwr.life = .ready then 11 else s.pwr.startStep) + (if s.pwr.life = .held then 16 else 0) + (if s.pwr.unconfigured then 32 else 0)

/-- Code of a kiln state (R471). -/
def KilnState.code : KilnState → Nat
  | .idle => 0
  | .running => 1
  | .starving => 2
  | .switching => 3

/-- KLN_STATE_n (R471). -/
def State.klnState (s : State) (n : Nat) : Nat :=
  let x := s.kiln n
  x.st.code + ((x.ctx.getD 0 % 1024) <<< 2) + (if x.ctx.isSome then 4096 else 0)

/-- The hottest layer of a stack and its reading (R473). -/
def Stack.hottest (x : Stack) : Nat × Int :=
  (List.range 12).foldl (fun (b : Nat × Int) i => if x.temp i > b.2 then (i, x.temp i) else b) (0, x.temp 0)

/-- SET_THERMAL_s (R473). -/
def Stack.thermal (x : Stack) : Nat :=
  let (l, t) := x.hottest
  signedBits 16 t + (l <<< 16) + ((if x.tripped then 4 else (100 - x.level) / 25) <<< 20) + (if x.doubled then 2 ^ 23 else 0) +
    (if x.hard then 2 ^ 24 else 0) + (if x.faulty ≠ [] then 2 ^ 25 else 0)

/-- Clear the credit-stall count of a channel; a stall under way counts from now on (R314). -/
def Port.clearStalls (p : Port) (now v : Nat) : Port :=
  { p with stalls := p.stalls.set v 0, stallSince := p.stallSince.set v ((p.stallSince.getD v none).map fun _ => now) }

/-- FAB_PORT_STATUS_p (R476). -/
def Port.status (p : Port) : Nat :=
  let eyes := p.st == .traverse || p.st == .up || p.st == .degraded || p.st == .quarantined
  p.st.code + ((p.lanes % 16) <<< 3) + ((p.reason % 8) <<< 7) + (if eyes then ((p.eyeHeight % 1024) <<< 10) + ((p.eyeWidth % 256) <<< 20) else 0)

/-- DET_DATUM_STATUS (R481). -/
def State.datumStatus (s : State) : Nat :=
  let d := s.dat
  d.st.code + (if d.slew ≠ 0 then 4 else 0) + ((d.port % 8) <<< 3) + (if d.onAlt then 64 else 0) + ((d.hops % 256) <<< 8) +
    (signedBits 32 d.correction <<< 32)

/-- PWR_STATE (R419). -/
def State.pwrState (s : State) : Nat :=
  s.pwr.request % 4 + ((s.pwr.current % 4) <<< 4) + (if s.pwr.transition.isSome then 64 else 0)

/-- A register of a block that is neither staged nor reserved; none for others. -/
def State.blockSpecial (s : State) (k off : Nat) : Option Nat :=
  match k with
  | 0 => if off = 0 ∨ off = 0x18 then some 0 else if off = 8 then some (s.bankS.status s.datum)
         else if off = 0x10 then some (s.bankM.status s.datum) else if off = 0x40 then some s.flueStatus else none
  | 1 => if 0x2000 ≤ off ∧ off < 0x2000 + 48 * 8 ∧ off % 8 = 0 then some (s.klnState ((off - 0x2000) / 8)) else none
  | 2 =>
    if off = 0x28 then some s.setter.stack0.thermal else if off = 0x30 then some s.setter.stack1.thermal
    else if 0x100 ≤ off ∧ off < 0x100 + 26 * 8 ∧ off % 8 = 0 then
      let i := (off - 0x100) / 8
      let x := s.stack (i / 13)
      some (signedBits 16 (x.temp (i % 13)) + (if x.faulty.contains (i % 13) then 65536 else 0))
    else none
  | 3 => if off = 0 then some (s.entriesFree % 2 ^ 23 + ((s.entriesLow % 2 ^ 23) <<< 23)) else none
  | 4 => if 0x140 ≤ off ∧ off < 0x180 ∧ off % 8 = 0 then some (s.port ((off - 0x140) / 8)).status else none
  | 5 =>
    if off = 0x198 then some (Config.mac 0 % 2 ^ 48) else if off = 0x1B8 then some (Config.mac 1 % 2 ^ 48)
    else if 0x400 ≤ off ∧ off < 0xC00 ∧ off % 0x20 = 0x18 then some (s.reg (blockAddr 5 off)) else none
  | 6 =>
    if off = 8 then some s.clkLoss
    else if 0x100 ≤ off ∧ off < 0x100 + 16 * 0x18 ∧ off % 8 = 0 then
      let f := s.fcount ((off - 0x100) / 0x18)
      match (off - 0x100) % 0x18 with
      | 0 => some f.ctrl
      | 8 => some f.result
      | _ => some f.limit
    else none
  | 7 => if off = 0 then some s.pwrState else if off = 8 then some 0 else if off = 0x10 then some s.pwrInput else none
  | 8 => if off = 0 then some (s.log.head % 2 ^ 64) else none
  | 9 =>
    if off < 6 * 0x28 then
      let m := s.measure (off / 0x28)
      let w := off % 0x28 / 8
      some (if w = 0 then m.1 % 2 ^ 32 else ofLeBytes ((m.2.drop (8 * (w - 1))).take 8))
    else if off = 0x100 then some s.trust.serial
    else if off = 0x108 then some (s.trust.running % 256 + ((s.trust.cfgSlot % 256) <<< 8) + ((s.fw.securityVersion % 2 ^ 32) <<< 16))
    else if off = 0x110 then some (s.fw.fwVersion % 2 ^ 32)
    else none
  | 10 => if off = 8 then some (s.datum % 2 ^ 64) else if off = 0x30 then some s.datumStatus else none
  | _ => none

/-- A register of a context page that is not staged, or that reads otherwise than written (R483, R398). -/
def State.pageSpecial (s : State) (c off : Nat) : Option Nat :=
  let x := s.ctx c
  if off = 0 then some (if x.enabled then 1 else 0)
  else if off = 0x008 then some (x.step.code + (if x.loading then 8 else 0) + (if x.enabled then 16 else 0) + (x.ring.code <<< 5))
  else if off = 0x010 then some (x.fired % 2 ^ 64)
  else if off = 0x040 then some (x.epoch % 2 ^ 32 + ((x.firedEpoch % 2 ^ 32) <<< 32))
  else if 0x308 ≤ off ∧ off < 0x328 then some ((x.signature >>> (8 * (off - 0x308))) % 2 ^ 64)
  else if off = 0x328 then some (s.pg c 0x328 % 2 ^ 49 + (if x.launch.isSome then 2 ^ 49 else 0))
  else if 0x400 ≤ off ∧ off < 0x448 ∧ off % 8 = 0 then 
    let w := (off - 0x400) / 8
    some (satAdd 64 ((alook w x.starve).getD 0) (s.starvingNow c w))
  else none

/-! ### Counter space (R485) -/

/-- One row of R485: base, stride in bytes, records. -/
def counterRows : List (Nat × Nat × Nat) :=
  [(0x0, 32, 1024), (0x8000, 8, 24), (0x8100, 16, 2), (0x10000, 16, 1024), (0x14000, 136, 1), (0x14100, 8, 32), (0x14200, 16, 256),
    (0x20000, 16, 32), (0x20200, 64, 8), (0x20400, 8, 1), (0x30000, 64, 2), (0x30100, 16, 1024), (0x34100, 8, 1), (0x50000, 72, 48)]

/-- The row, record and word of an offset in counter space. -/
def counterAt (off : Nat) : Option (Nat × Nat × Nat) :=
  (counterRows.find? fun r => decide (r.1 ≤ off ∧ off < r.1 + r.2.1 * r.2.2)).map fun r =>
    (r.1, (off - r.1) / r.2.1, (off - r.1) % r.2.1 / 8)

/-- Mean and greatest program/erase cycles of a LUN's blocks (R193, R216, R220): 8,192 blocks. -/
def Tier.lunCycles (t : Tier) (lun : Nat) : Nat × Nat :=
  let bs := t.blocks.filter fun b => b.1 / 8192 == lun
  ((bs.map fun b => b.2.cycles).sum / 8192, bs.foldl (fun m b => max m b.2.cycles) 0)

/-- The greatest hearth step, the settled step of the same context (R485: module words; the model keeps h per context, log entry
17). -/
def State.moduleHearth (s : State) : Nat × Nat :=
  s.ctxs.foldl (fun (b : Nat × Nat) x => if x.2.hearth > b.1 then (x.2.hearth, s.settled x.1) else b) (0, 0)

/-- A word of counter space. -/
def State.counter (s : State) (off : Nat) : Nat :=
  match counterAt off with
  | none => 0
  | some (0x0, i, w) =>
    let x := s.chan (i / 512) (i % 512)
    (match w with
     | 0 => x.corrected
     | 1 => x.by1 + (x.by2 <<< 16) + (x.by3 <<< 32) + (x.by4 <<< 48)
     | 2 => x.uncorrectable + (x.addrFaults <<< 16)
     | _ => 0)
  | some (0x8000, i, _) => let l := (alook i s.setter.layers).getD (0, 0); l.1 + (l.2 <<< 32)
  | some (0x8100, d, w) =>
    if w = 0 then (if d = 0 then s.setter.poison0 else s.setter.poison1) else (if d = 0 then s.setter.scrub0 else s.setter.scrub1)
  | some (0x10000, c, w) => if w = 0 then (s.ctx c).missCount else (s.ctx c).missStall
  | some (0x14000, _, w) =>
    let t := s.tier
    (match w with
     | 0 => t.promotions | 1 => t.cleanings | 2 => t.demotions | 3 => t.dropped | 4 => t.sectorsLost | 5 => t.bytesJournal
     | 6 => t.bytesHome | 7 => t.bytesGc | 8 => t.bytesRefire | 9 => t.bytesParity | 10 => t.refirings | 11 => t.capacity
     | 12 => t.spareMiB / 1024 | 13 => t.homes.length | 14 => s.moduleHearth.1 | 15 => s.moduleHearth.2 | _ => s.liveJournal)
  | some (0x14100, ch, _) => let r := (alook ch s.tier.recov).getD (0, 0); r.1 + (r.2 <<< 32)
  | some (0x14200, lun, w) =>
    if w = 0 then (alook lun s.tier.retired).getD 0 else let c := s.tier.lunCycles lun; c.1 % 2 ^ 32 + ((c.2 % 2 ^ 32) <<< 32)
  | some (0x20000, i, w) =>
    let p := s.port (i / 4)
    if w = 0 then p.laneCs.getD (i % 4) 0 else p.laneUcw.getD (i % 4) 0 + (p.laneSync.getD (i % 4) 0 <<< 32)
  | some (0x20200, i, w) =>
    let p := s.port i
    (match w with
     | 0 => p.replays | 1 => p.flitsTx | 2 => p.flitsRx | 3 => p.stallsTo s.datum 0 + (p.stallsTo s.datum 1 <<< 32)
     | 4 => p.stallsTo s.datum 2 + (p.stallsTo s.datum 3 <<< 32) | 5 => p.spares + (p.linkFailures <<< 16) + (p.quarantines <<< 32)
     | _ => 0)
  | some (0x20400, _, _) => s.discards
  | some (0x30000, p, w) =>
    let h := s.host
    (match w with
     | 0 => h.modRead.getD p 0 | 1 => h.modWritten.getD p 0 | 2 => h.hostRead.getD p 0 | 3 => h.hostWritten.getD p 0
     | 4 => h.retrans.getD p 0 + (h.naks.getD p 0 <<< 32) | 5 => h.cnps.getD p 0 | _ => 0)
  | some (0x30100, c, w) =>
    let x := s.ctx c
    if w = 0 then x.rereadCount + (x.retryCount <<< 32) else x.ignoredCount + (x.droppedCount <<< 32)
  | some (0x34100, _, _) => s.host.refused
  | some (0x50000, n, w) =>
    satAdd 64 ((alook w (s.kiln n).starve).getD 0) (if (s.kiln n).starving.map Wait.num = some w then s.starvedCycles n else 0)
  | some _ => 0

/-- Clear the RC fields of a word of counter space (R485). -/
def State.counterClear (s : State) (off : Nat) : State :=
  match counterAt off with
  | some (0x0, i, w) =>
    s.modChan (i / 512) (i % 512) fun x =>
      (match w with
       | 0 => { x with corrected := 0 }
       | 1 => { x with by1 := 0, by2 := 0, by3 := 0, by4 := 0 }
       | 2 => { x with uncorrectable := 0, addrFaults := 0 }
       | _ => x)
  | some (0x8000, i, _) => { s with setter := { s.setter with layers := adel i s.setter.layers } }
  | some (0x8100, d, 0) =>
    { s with setter := if d = 0 then { s.setter with poison0 := 0 } else { s.setter with poison1 := 0 } }
  | some (0x10000, c, w) => s.modCtx c fun x => if w = 0 then { x with missCount := 0 } else { x with missStall := 0 }
  | some (0x14000, _, 3) => s.modTier fun t => { t with dropped := 0 }
  | some (0x14000, _, 4) => s.modTier fun t => { t with sectorsLost := 0 }
  | some (0x14100, ch, _) => s.modTier fun t => { t with recov := adel ch t.recov }
  | some (0x20000, i, w) =>
    s.modPort (i / 4) fun p =>
      if w = 0 then { p with laneCs := p.laneCs.set (i % 4) 0 }
      else { p with laneUcw := p.laneUcw.set (i % 4) 0, laneSync := p.laneSync.set (i % 4) 0 }
  | some (0x20200, i, w) =>
    s.modPort i fun p =>
      (match w with
       | 0 => { p with replays := 0 }
       | 3 => (p.clearStalls s.datum 0).clearStalls s.datum 1
       | 4 => (p.clearStalls s.datum 2).clearStalls s.datum 3
       | 5 => { p with spares := 0, linkFailures := 0, quarantines := 0 }
       | _ => p)
  | some (0x20400, _, _) => { s with discards := 0 }
  | some (0x30000, p, w) =>
    { s with host := (match w with
        | 4 => { s.host with retrans := s.host.retrans.set p 0, naks := s.host.naks.set p 0 }
        | 5 => { s.host with cnps := s.host.cnps.set p 0 }
        | _ => s.host) }
  | some (0x30100, c, w) =>
    s.modCtx c fun x =>
      if w = 0 then { x with rereadCount := 0, retryCount := 0 } else { x with ignoredCount := 0, droppedCount := 0 }
  | some (0x34100, _, _) => { s with host := { s.host with refused := 0 } }
  | some (0x50000, n, w) => (s.countStarve n).modKiln n fun x => { x with starve := adel w x.starve }
  | _ => s

/-! ### Reads -/

/-- A bank's view of a staged register: its written value, else the value in force (R464), with RO `armed` of DET_LAUNCH as it stands
(R398). -/
def State.stagedView (s : State) (b : Bank) (a : Nat) : Nat :=
  let v := (alook a b.written).getD (s.reg a)
  match place a with
  | .page c 0x328 => bits v 0 49 + (if (s.ctx c).launch.isSome then 2 ^ 49 else 0)
  | _ => v

/-- The value in force at an address of the register space, windows left out (R462). -/
def State.regValue (s : State) (a : Nat) : Nat :=
  match place a with
  | .block k off => (s.blockSpecial k off).getD (if (specOf a).isSome then s.reg a else 0)
  | .page c off => (s.pageSpecial c off).getD (if (specOf a).isSome then s.reg a else 0)
  | .counter off => s.counter off
  | _ => 0

/-- A 64-bit word as a reader of a bank sees it (R462, R464, R439, R445). -/
def State.readWord (s : State) (b : Bank) (a : Nat) : Nat :=
  match place a with
  | .blockStaged k off => if (specOf (blockAddr k off)).isSome then s.stagedView b (blockAddr k off) else 0
  | .pageStaged c off => if (specOf (pageAddr c off)).isSome then s.stagedView b (pageAddr c off) else 0
  | .logWindow off =>
    match s.logSlot (off / 64) with
    | some r => ofLeBytes (((logBytes r).drop (off % 64)).take 8)
    | none => 0
  | .witnessWindow off => ofLeBytes ((List.range 8).map fun i => s.witnessByte (off + i))
  | _ => s.regValue a

/-- Clear what a read of a word clears (R7 RC, R474, R483, R485). -/
def State.clearWord (s : State) (a : Nat) : State :=
  match place a with
  | .block 3 0 => { s with entriesLow := s.entriesFree }
  | .page c off =>
    if 0x400 ≤ off ∧ off < 0x448 ∧ off % 8 = 0 then
      ((s.kilnSet c).foldl (fun s k => if (s.kiln k).ctx = some c then s.countStarve k else s) s).modCtx c fun x =>
        { x with starve := adel ((off - 0x400) / 8) x.starve }
    else s
  | .counter off => s.counterClear off
  | _ => s

/-- The bank of a writer (R425). -/
def State.bankOf (s : State) (src : Src) : Bank := if srcMgmt src then s.bankM else s.bankS
/-- Put the bank of a writer. -/
def State.setBank (s : State) (src : Src) (b : Bank) : State := if srcMgmt src then { s with bankM := b } else { s with bankS := b }

/-- The bounds of the block, page, counter area or window that holds an address (R462). -/
def areaOf (a : Nat) : Option (Nat × Nat) :=
  match place a with
  | .block k _ => some (blockAddr k 0, blockAddr k 0x10000)
  | .blockStaged k _ => some (blockAddr k 0, blockAddr k 0x10000)
  | .page c _ => some (pageAddr c 0, pageAddr c 0x2000)
  | .pageStaged c _ => some (pageAddr c 0, pageAddr c 0x2000)
  | .counter off =>
    (counterRows.find? fun r => decide (r.1 ≤ off ∧ off < r.1 + r.2.1 * r.2.2)).map fun r =>
      (0x7001000000 + r.1, 0x7001000000 + r.1 + r.2.1 * r.2.2)
  | .logWindow _ => some (0x7100000000, 0x7100100000)
  | .witnessWindow _ => some (0x7100100000, 0x7100210000)
  | _ => none

/-- Read words from an address on; every RC field of each word returned is cleared (R485). -/
def State.readWords (s : State) (b : Bank) (a n : Nat) : State × List Byte :=
  let bs := (List.range n).flatMap fun i => leBytes 8 (s.readWord b (a + 8 * i))
  ((List.range n).foldl (fun s i => s.clearWord (a + 8 * i)) s, bs)

/-- Whether a source is the steward's live queue pair (R346). -/
def State.isSteward (s : State) (src : Src) : Bool :=
  s.host.qps.any fun q => q.est && !q.closing && q.conn.kind == 1 && q.conn.port == src.via && q.conn.addr == src.addr && q.conn.qpn == src.qpn

/-- Whether a source may read an address now (R462): the steward of a module that is READY; management also in the hold of R407 and while
the module is silent, but no window: those are open to the steward endpoint alone, by its live queue pair (R439, R445). -/
def State.mayRead (s : State) (src : Src) (addr : Nat) : Bool :=
  let windows := match place addr with
    | .logWindow _ => true
    | .witnessWindow _ => true
    | _ => false
  if srcMgmt src then (s.pwr.life == .ready || ((s.pwr.life == .held || s.pwr.life == .silent) && !s.booting)) && !windows
  else s.pwr.life == .ready && (!windows || s.isSteward src)

/-- RC_READ (R7, R485): a read of words of the register space through the steward (via 0 or 1) or management. -/
def execRcRead (src : Src) (addr nwords : Nat) (s : State) : Result :=
  .next <|
    match areaOf addr with
    | none => s
    | some (_, hi) =>
      if !s.mayRead src addr ∨ addr % 8 ≠ 0 ∨ addr + 8 * nwords > hi then s
      else
        let (t, bs) := s.readWords (s.bankOf src) addr nwords
        t.emit (.mgmt 0 bs)

end Sys2Proof.Machine
end

