-- ==== Sys2Proof/Machine/Ports.lean ====
section
/-! DEFINITION. Port states and traverse (R303 to R311): training, checks, link failures, lane sparing; the datum's upstream
(R392 to R395); and the commands PORT_ENABLE, PORT_RETRAIN, PORT_DISABLE, TRAINING_END, TRAINING_TIMEOUT,
TRAINING_PATTERN_RECEIVED, RETRAIN_INTERVAL, LANE_FAILURE, LINK_TIMEOUT, HELLO, HELLO_TIMER, ACK_TIMER, REPLAY_TIMEOUT,
DATUM_ALIGNED, DATUM_HOLDOVER_LIMIT, DATUM_UPSTREAM_CHANGED. -/

namespace Sys2Proof.Machine

/-! ### The datum's upstream (R392 to R395) -/

/-- Whether any context is enabled (R390, R395). -/
def State.anyEnabled (s : State) : Bool := s.enabledCtxs != []

/-- Correct the datum to that of a port's neighbour (R395): in one step with no context enabled, else by a slew, with event 0x0884 above
1 µs. The offsets of all neighbours are held against the corrected datum (R394), which a slew under way has still to reach. -/
def State.correctDatum (s : State) (port : Nat) : State :=
  let corr := (s.port port).offset
  let s := { s with dat := { s.dat with correction := corr }
                    ports := s.ports.map fun (x : Nat × Port) => (x.1, { x.2 with offset := x.2.offset - corr }) }
  if !s.anyEnabled then
    { s.setDatum (((s.datum : Int) + s.dat.slew + corr) % 2 ^ 64).toNat with dat := { s.dat with slew := 0 } }
  else
    let s := { s with dat := { s.dat with slew := s.dat.slew + corr } }
    if corr.natAbs > 1000 then s.raise 0x0884 (signedBits 64 corr <<< 64) else s

/-- The upstream ports of DET_DATUM_UPSTREAM: primary and alternate, where valid (R481). -/
def State.upstream (s : State) : Option Nat × Option Nat :=
  let u := s.blk 10 0x18
  (primaryOf u, alternateOf u)

/-- Whether a port can serve as upstream: UP or DEGRADED (R394). -/
def State.serves (s : State) (p : Option Nat) : Bool :=
  match p with
  | some p => (s.port p).usable
  | none => false

/-- The columns "upstream port neither UP nor DEGRADED" of R394: the alternate takes over with event 0x0880, or neither serves and
an ALIGNED datum enters HOLDOVER with event 0x0881. The hops to the root over the alternate are open (log entry 9). -/
def State.datumPorts (s : State) : State :=
  let (prim, alt) := s.upstream
  let d := s.dat
  if d.st ≠ .aligned ∧ d.st ≠ .holdover then s
  else if s.serves prim then s
  else if s.serves alt then
    (if d.st = .aligned ∧ d.onAlt ∧ alt = some d.port then s
     else
       let p := alt.getD 0
       let (h, s) := s.drawFresh
       let s := { s with dat := { s.dat with st := .aligned, onAlt := true, port := p, hops := h % 256 } }
       (s.raise 0x0880 p).correctDatum p)
  else if d.st = .aligned then
    { s with dat := { s.dat with st := .holdover, since := s.datum } }.raise 0x0881 0
  else s

/-- The primary port is the upstream from now on, `hops` from the root. -/
def State.takeUpstream (s : State) (p hops : Nat) : State :=
  { s with dat := { s.dat with st := .aligned, onAlt := false, port := p, hops := hops % 256 } }

/-- DATUM_ALIGNED (R394, R395): the primary upstream is trained and its neighbour aligned. A change of upstream, from the alternate
back to the primary or to a primary set anew, corrects the datum too. -/
def execDatumAligned (hops : Nat) (s : State) : Result :=
  .next <|
    let (prim, _) := s.upstream
    let p := prim.getD 0
    if s.dat.st = .root ∨ !s.serves prim then s
    else
      let was := s.dat.st
      let moved := s.dat.onAlt || p != s.dat.port
      let s := s.takeUpstream p hops
      if was = .aligned then (if moved then s.correctDatum p else s)
      else (s.raise 0x0883 (signedBits 64 (s.port p).offset <<< 64)).correctDatum p

/-- A commit of DET_DATUM_UPSTREAM (R394, R395, R402): an ALIGNED datum goes over to a new primary that serves; its hops are open (log entry
9). -/
def State.upstreamCommitted (s : State) : State :=
  let (prim, _) := s.upstream
  match prim with
  | some p =>
    if s.dat.st = .aligned ∧ s.serves prim ∧ p ≠ s.dat.port then
      let (h, s) := s.drawFresh
      (s.takeUpstream p h).correctDatum p
    else s.datumPorts
  | none => s.datumPorts

/-- DATUM_HOLDOVER_LIMIT (R394). -/
def execDatumHoldoverLimit (s : State) : Result :=
  .next (if s.dat.st = .holdover then { s with dat := { s.dat with st := .unaligned } }.raise 0x0882 0 else s)

/-- DATUM_UPSTREAM_CHANGED (R394). -/
def execDatumUpstreamChanged (s : State) : Result := .next s.datumPorts

/-! ### Link state -/

/-- Send every packet that waits at a port another way: control packets by their route, data is discarded (R300). -/
def State.reroute (s : State) (p : Nat) (ps : List Packet) : State :=
  ps.foldl (fun s q => if q.vc = 0 then s.sendPacket q else if q.vc = 3 then s else s.discard p q) s

/-- A port's link state as training leaves it: both windows at 0, full credit, nothing held (R297, R301), credit stalls counted so far
(R314). -/
def Port.cleared (x : Port) (now : Nat) : Port :=
  { x with stalls := (List.range 4).map (x.stallsTo now), stallSince := [none, none, none, none],
           txSeq := 0, replay := [], rxSeq := 0, unacked := 0, asking := false, stuck := 0, credits := [64, 16384, 8192, 64],
           freed := [0, 0, 0, 0], waiting := [], partials := [], vc1wait := [], txTurn := 0, rxTurn := 0, recent := [], neighbour := none,
           passed := false, lanes := 0, reason := 0, eyeHeight := 0, eyeWidth := 0 }

/-- A port that carries nothing but HELLO from now on, its link still there (R306, R307, R311): the packets that wait, the contents of the
unacked flits and the partial packets are dropped but for HELLO. The flits keep their numbers, so that the far end can go on acking them
(log entry 88). The buffers of what is dropped are free again (R297). -/
def Port.hushed (x : Port) : Port :=
  let gone := (x.partials.filter (·.1.vc != 3)) ++ x.vc1wait.map fun q => (q, q.slots)
  { x with waiting := x.waiting.filter (·.vc == 3), partials := x.partials.filter (·.1.vc == 3), vc1wait := [],
           freed := gone.foldl (fun l q => modAt l q.1.vc fun n => n + q.2) x.freed,
           replay := x.replay.map fun f => { f with pieces := f.pieces.filter (·.pkt.vc == 3) } }

/-- Put ports off the air into a state, all at once: unacked flits and partial packets are discarded (R306). -/
def State.dropLinks (s : State) (ps : List Nat) (st : PortState) : State :=
  let held := ps.map fun p => (p, (s.port p).waiting)
  let s := ps.foldl (fun s p => s.setPort p { (s.port p).cleared s.datum with st := st }) s
  (held.foldl (fun s (x : Nat × List Packet) => s.reroute x.1 x.2) s).datumPorts

/-- Put one port off the air (R306). -/
def State.dropLink (s : State) (p : Nat) (st : PortState) : State := s.dropLinks [p] st

/-- Links that fail at once (R303, R306): DOWN, event 0x0502 for each, and the jobs with a route over one. Causes as in R502. -/
def State.linksDown (s : State) (ps : List Nat) (cause : Nat) : State :=
  let s := (ps.foldl (fun s p => s.modPort p fun x => { x with linkFailures := satAdd 16 x.linkFailures 1 }) s).dropLinks ps .down
  ps.foldl (fun s p => (s.raise 0x0502 (p + (6 <<< 8) + (cause <<< 16))).routeLost p) s

/-- A link failure (R303, R306). -/
def State.linkDown (s : State) (p cause : Nat) : State := s.linksDown [p] cause

/-- Whether a port's SerDes runs: the module is READY and in no safe state (R415, R423, R424), the flue die's reference is there, and the
module is not in DEEP (R418). -/
def State.portRuns (s : State) (p : Nat) : Bool := s.pwr.life == .ready && !s.pwr.lost.contains (1 + p / 4) && s.pwr.current != 2

/-- Start training (R307): patterns on all four lanes, every lane afresh (R305). A port that cannot run stays DOWN. -/
def State.startTraining (s : State) (p : Nat) : State :=
  if s.portRuns p then (s.dropLink p .training).emit (.lanes p 1) else s.dropLink p .down

/-- Whether the port's link is in a state that has lanes trained. -/
def Port.linked (x : Port) : Bool := x.usable || x.st == .traverse || x.st == .quarantined

/-- Whether the port carries a route of an enabled job (R305). -/
def State.carriesJob (s : State) (p : Nat) : Bool := s.enabledCtxs.any fun c => s.carriesRoute c p

/-- The column "Enable or retrain" of R307. -/
def State.trainPort (s : State) (p : Nat) : State :=
  let x := s.port p
  if x.st = .training then s
  else if x.usable ∧ s.carriesJob p then s.raise 0x0509 (p + (1 <<< 8))
  else s.startTraining p

/-- The column "Disable" of R307. -/
def State.disablePort (s : State) (p : Nat) : State :=
  let x := s.port p
  if x.st = .disabled then s
  else if x.usable ∧ s.carriesJob p then s.raise 0x0509 (p + (2 <<< 8))
  else (s.dropLink p .disabled).emit (.lanes p 0)

def execPortEnable (p : Nat) (s : State) : Result := .next (if s.pwr.life ≠ .ready then s else s.trainPort p)
def execPortRetrain (p : Nat) (s : State) : Result := .next (if s.pwr.life ≠ .ready then s else s.trainPort p)
def execPortDisable (p : Nat) (s : State) : Result := .next (if s.pwr.life ≠ .ready then s else s.disablePort p)

/-- Number of lanes in a mask. -/
def laneCount (m : Nat) : Nat := ((List.range 4).filter fun i => m.testBit i).length

/-- Training ends with fewer than three lanes (R307). -/
def State.trainingFailed (s : State) (p lanes : Nat) : State := (s.dropLink p .down).raise 0x0505 (p + ((lanes % 16) <<< 8))

/-- TRAINING_END (R307, R393): TRAVERSE on 4 or 3 lanes, DOWN with fewer. -/
def execTrainingEnd (p lanes eyeHeight eyeWidth : Nat) (offset : Int) (delay : Nat) (s : State) : Result :=
  .next <|
    if (s.port p).st ≠ .training then s
    else if laneCount lanes < 3 then s.trainingFailed p lanes
    else s.modPort p fun x => { x with st := .traverse, lanes := lanes % 16, eyeHeight := eyeHeight, eyeWidth := eyeWidth, offset := offset,
                                        delay := delay }

/-- TRAINING_TIMEOUT (R307): 150 ms with fewer than three lanes trained. -/
def execTrainingTimeout (p lanes : Nat) (s : State) : Result :=
  .next <| if (s.port p).st ≠ .training ∨ laneCount lanes ≥ 3 then s else s.trainingFailed p lanes

/-- TRAINING_PATTERN_RECEIVED (R307): the link is lost, and the port enters TRAINING at once. -/
def execTrainingPatternReceived (p : Nat) (s : State) : Result :=
  .next <|
    let x := s.port p
    if x.linked then (s.linkDown p 6).startTraining p
    else if x.st = .down then s.startTraining p
    else s

/-- RETRAIN_INTERVAL (R307): a DOWN port retrains by itself, unless the interval is 0. -/
def execRetrainInterval (p : Nat) (s : State) : Result :=
  .next <| if (s.port p).st = .down ∧ s.blk 4 0x28 ≠ 0 then s.startTraining p else s

/-- LINK_TIMEOUT (R303): no flit for FAB_LINK_TIMEOUT. -/
def execLinkTimeout (p : Nat) (s : State) : Result := .next (if (s.port p).linked then s.linkDown p 2 else s)

/-! ### Replay (R301) -/

/-- Send every unacked flit again, in order, and count one replay; the eighth without progress is a link failure (R301, R303). -/
def State.replay (s : State) (p : Nat) : State :=
  let x := s.port p
  let s := s.setPort p { x with replays := satAdd 32 x.replays 1, replaysEver := x.replaysEver + 1, stuck := x.stuck + 1 }
  if x.stuck + 1 ≥ 8 then s.linkDown p 1
  else x.replay.foldl (fun s f => s.sendFlit p 0 f.seq 0 f.hdr.credits f.pieces) s

/-- REPLAY_TIMEOUT (R301): the oldest unacked flit has waited FAB_REPLAY_TIMEOUT. -/
def execReplayTimeout (p : Nat) (s : State) : Result :=
  .next <| if (s.port p).linked ∧ (s.port p).replay ≠ [] then s.replay p else s

/-- ACK_TIMER (R301): an idle flit when data flits wait for an ack, or freed slots for their report (R296). -/
def execAckTimer (p : Nat) (s : State) : Result :=
  .next <|
    let x := s.port p
    if ¬ x.linked ∨ (x.unacked = 0 ∧ x.freed.all (· == 0)) then s else s.sendBare p 1 0

/-! ### Lane sparing (R304) -/

/-- Drop to three lanes: event 0x0501, the port runs DEGRADED, every unacked flit is sent again. -/
def State.spare (s : State) (p lane : Nat) (found : Bool) : State :=
  let x := s.port p
  let mask := x.lanes % 16 ^^^ 2 ^ lane
  let s := s.setPort p { x with lanes := mask, spares := satAdd 16 x.spares 1, st := if x.st = .up then .degraded else x.st, txTurn := 0,
                                rxTurn := 0 }
  let s := if x.usable then s.markDegraded else s
  let s := if found then s.sendBare p 3 mask else s
  let s := s.raise 0x0501 (p + (lane <<< 8) + ((if found then 1 else 0) <<< 16))
  if x.replay = [] then s else s.replay p

/-- A lane fails (R304, R307): spared on four lanes, a link failure on three. -/
def State.failLane (s : State) (p lane : Nat) : State :=
  let x := s.port p
  if !x.linked || !x.lanes.testBit lane then s
  else if laneCount x.lanes ≤ 3 then s.linkDown p 3
  else s.spare p lane true

/-- Whether a lane has reached FAB_LANE_UCW_LIMIT or FAB_LANE_CS_LIMIT within the last millisecond (R304). -/
def State.laneOver (s : State) (p lane : Nat) : Bool :=
  let mine := (s.port p).recent.filter fun x => x.2.1 == lane && decide (s.datum < x.1 + 1000000)
  decide ((mine.map (·.2.2.2)).sum ≥ s.blk 4 0x18 ∨ (mine.map (·.2.2.1)).sum ≥ s.blk 4 0x20)

/-- The lanes that have reached a limit fail (R304). -/
def State.failLanes (s : State) (p : Nat) : State :=
  ((List.range 4).filter fun i => (s.port p).lanes.testBit i && s.laneOver p i).foldl (fun s i => s.failLane p i) s

/-- LANE_FAILURE (R303, R304, R307): lanes lose sync, two or more at once a link failure; or a lane has reached an error limit. -/
def execLaneFailure (p lane sync : Nat) (s : State) : Result :=
  .next <|
    let x := s.port p
    if ¬ x.linked then s
    else
      let s := s.setPort p { x with laneSync := x.laneSync.mapIdx fun i n => if sync.testBit i then satAdd 16 n 1 else n }
      if laneCount sync ≥ 2 then s.linkDown p 4
      else if sync ≠ 0 then ((List.range 4).filter sync.testBit).foldl (fun s i => s.failLane p i) s
      else if s.laneOver p lane then s.failLane p lane
      else s

/-! ### Traverse (R309 to R311) -/

/-- What R311 decides. -/
inductive Check where
  | bad (reason : Nat)
  | stay
  | pass
deriving DecidableEq, Repr

/-- R309: versions of two ends are compatible; this end sends 0x0203 and 0x0200. -/
def compatible (version least : Nat) : Bool := version / 256 == 2 && decide (0x0203 ≥ least ∧ version ≥ 0x0200)

/-- The rules of R311 over the neighbour's HELLO, in order. -/
def State.checkRules (s : State) (p : Nat) (body : PBody) : Check :=
  match body with
  | .hello ident hport _ version least grid _ _ _ =>
    let map := s.blk 4 (0x180 + 8 * p)
    if ident = s.trust.serial then .bad 1
    else if !compatible version least then .bad 2
    else if !map.testBit 17 then .bad 3
    else if !grid.testBit 15 then .stay
    else if s.gridValid ∧ grid % 2 ^ 14 = s.gridRef then .bad 5
    else if grid % 2 ^ 14 ≠ bits map 0 14 ∨ hport ≠ bits map 14 3 then .bad 4
    else .pass
  | _ => .stay

/-- Whether a HELLO reports check passed (R309). -/
def helloPassed (body : PBody) : Bool :=
  match body with
  | .hello _ _ _ _ _ _ _ _ status => status.testBit 0
  | _ => false

/-- Identity and grid of a HELLO. -/
def helloId (body : PBody) : Nat × Nat :=
  match body with
  | .hello ident _ _ _ _ grid _ _ _ => (ident, grid)
  | _ => (0, 0)

/-- Payload of 0x0503 (R502). -/
def quarantinePayload (p reason : Nat) (body : PBody) : Nat :=
  match body with
  | .hello ident hport _ version _ grid _ _ status =>
    p + (reason <<< 8) + ((grid % 65536) <<< 16) + ((hport % 256) <<< 32) + ((status % 256) <<< 40) + ((version % 65536) <<< 48) +
      ((ident % 2 ^ 64) <<< 64)
  | _ => p + (reason <<< 8)

/-- Both checks have passed: UP on 4 lanes, DEGRADED on 3; event 0x0504 (R307). -/
def State.portUp (s : State) (p : Nat) : State :=
  let s := s.modPort p fun x => { x with st := if laneCount x.lanes = 4 then .up else .degraded, reason := 0 }
  let s := if s.anyDegraded then s.markDegraded else s
  (s.raise 0x0504 (p + (((s.port p).lanes % 16) <<< 8))).pump p

/-- Check a port's neighbour (R311, R307). -/
def State.checkPort (s : State) (p : Nat) : State :=
  let x := s.port p
  match x.neighbour with
  | none => s
  | some h =>
    if ¬ x.linked ∨ s.trust.serial = 0 ∨ (x.st = .traverse ∧ ¬ s.gridValid) then s
    else match s.checkRules p h.body with
      | .bad r =>
        if x.st = .quarantined then s.setPort p { x with reason := r, passed := false }
        else
          let y := if x.usable then x.hushed else x
          let s := s.setPort p { y with st := .quarantined, reason := r, passed := false, quarantines := satAdd 16 x.quarantines 1 }
          let s := s.raise 0x0503 (quarantinePayload p r h.body)
          if x.usable then ((s.reroute p (x.waiting.filter (·.vc != 3))).routeLost p).datumPorts else s
      | .stay =>
        if x.usable then
          let y := x.hushed
          let s := s.setPort p { y with st := .traverse, passed := false }
          (((s.raise 0x0502 (p + (2 <<< 8) + (7 <<< 16))).reroute p (x.waiting.filter (·.vc != 3))).routeLost p).datumPorts
        else s.setPort p { x with passed := false }
      | .pass =>
        let s := s.setPort p { x with passed := true }
        if !x.usable ∧ helloPassed h.body then s.portUp p else s

/-- Receive a HELLO on a port (R311). A check that a QUARANTINED port has passed holds for the neighbour that it checked, and no other
(R307). -/
def State.hello (s : State) (p : Nat) (h : Packet) : State :=
  let x := s.port p
  match x.st with
  | .traverse => (s.setPort p { x with neighbour := some h }).checkPort p
  | .quarantined =>
    let same : Bool := match x.neighbour with
      | some o => helloId o.body == helloId h.body
      | none => false
    let s := s.setPort p { x with neighbour := some h, passed := x.passed && same }
    if x.passed ∧ same ∧ helloPassed h.body then s.portUp p else s
  | .up | .degraded =>
    let s := s.setPort p { x with neighbour := some h }
    let same : Bool := match x.neighbour with
      | some o => helloId o.body == helloId h.body
      | none => false
    if same then s else s.checkPort p
  | _ => s

/-- HELLO (R309, R311). -/
def execHello (port : Nat) (p : Packet) (s : State) : Result :=
  .next (if p.type ≠ 0x10 ∨ s.pwr.life ≠ .ready then s else s.hello port p)

/-- The HELLO that a port sends (R309). -/
def State.myHello (s : State) (p : Nat) : Packet :=
  let x := s.port p
  let map := s.blk 4 (0x180 + 8 * p)
  let grid := if s.gridValid then s.gridRef + 2 ^ 15 else 0
  let expect := bits map 0 14 + (if map.testBit 17 then 2 ^ 15 else 0)
  let status := (if x.passed then 1 else 0) + (if x.st = .quarantined then 2 else 0) + ((x.reason % 8) <<< 2)
  { dest := 0, src := if s.gridValid then s.gridRef else 0, vc := 3, type := 0x10, slots := 1, hops := 0, job := 0,
    body := .hello s.trust.serial p x.lanes 0x0203 0x0200 grid expect (bits map 14 3) status }

/-- HELLO_TIMER (R309). -/
def execHelloTimer (port : Nat) (s : State) : Result :=
  .next (if (s.port port).linked ∧ s.pwr.life = .ready then s.toPort port (s.myHello port) else s)

end Sys2Proof.Machine
end

