-- ==== Sys2Proof/Machine/Commit.lean ====
section
/-! DEFINITION. Staged configuration (R425 to R428, R464 to R469): commits, enabling and disabling contexts, launches, and the
commands FLUE_COMMIT, HELD_COMMIT, CONTEXT_ENABLE, CONTEXT_DISABLE, LAUNCH_ARM, LAUNCH_CANCEL, LAUNCH_RELEASE. -/

namespace Sys2Proof.Machine

/-- Why a group is refused: event code (0 for none), the context it concerns, payload. -/
structure Bad where
  event : Nat
  ctx : Option Nat := none
  payload : Nat := 0
deriving DecidableEq, Repr

/-- The first failing check of a list. -/
def firstBad (l : List (Option Bad)) : Option Bad := l.findSome? id

/-- A check. -/
def check (ok : Bool) (b : Bad) : Option Bad := if ok then none else some b

/-! ### The memory of a die (R504) -/

/-- Frames of a die that the home map holds (R199). -/
def State.mapOn (s : State) (d : Nat) : Nat := (s.tier.mapFrames.filter fun f => bits f 39 1 == d).length

/-- Free module frames of die d above number n. -/
def State.freeAbove (s : State) (d n : Nat) : Nat :=
  75497471 - n - ((s.frames d).held.filter (n < ·)).length - ((s.placedOn d).map fun x => x.2 - max x.1 (n + 1)).sum

/-- Whether a range lies over memory that the module holds (R504): a frame it has taken, or one of the free frames that its shadow reserve
would take next. -/
def State.overHeld (s : State) (r : Nat × Nat) : Bool :=
  let d := bits r.1 39 1
  let (lo, hi) := frameSpan r
  decide (r.2 ≠ 0) && isDie r.1 && ((s.frames d).held.any (fun f => decide (lo ≤ f ∧ f < hi)) ||
    (let n := s.freeFrom d (hi - 1)
     decide (lo ≤ n) && decide (s.freeAbove d n < (s.frames d).reserve)))

/-- Whether a die keeps enough module memory: 6 % for the reserve, and the home map (R231, R504). -/
def State.dieShort (s : State) (d : Nat) : Bool := decide (s.placedFrames d + 4529848 + s.mapOn d > 75497472)

/-- Whether two ranges meet. -/
def meet (a b : Nat × Nat) : Bool := decide (a.2 ≠ 0 ∧ b.2 ≠ 0 ∧ a.1 < b.1 + b.2 ∧ b.1 < a.1 + a.2)

/-- Whether a range meets a page pool (R263). -/
def State.meetsPool (s : State) (r : Nat × Nat) : Bool := (List.range 8).any fun p => meet r (s.poolRange p)

/-- No range of a list may meet a page pool (R263). -/
def State.poolsBad (s : State) (rs : List (Nat × Nat)) : Option Bad := check (!(rs.any s.meetsPool)) { event := 0 }

/-- The memory check of R504 over ranges that a commit places: `before` is the state it finds, s the one with its values. -/
def State.rangesBad (s before : State) (rs : List (Nat × Nat)) : Option Bad :=
  check (!(rs.any before.overHeld || s.dieShort 0 || s.dieShort 1)) { event := 0 }

/-- Memory that software places or gives up leaves or returns to the free parcel pool (R263, R504). -/
def State.withdraw (s before : State) : State :=
  let f0 := s.frames0
  let f1 := s.frames1
  { s with frames0 := { f0 with pool := f0.pool + before.placedFrames 0 - s.placedFrames 0 },
           frames1 := { f1 with pool := f1.pool + before.placedFrames 1 - s.placedFrames 1 } }

/-! ### The member list (R317) and the save area (R80) -/

/-- First entry that repeats an earlier one. -/
def firstDup : List Nat → List Nat → Nat → Option Nat
  | _, [], _ => none
  | seen, x :: rest, i => if seen.contains x then some i else firstDup (x :: seen) rest (i + 1)

/-- Event 0x0547 of a context's member list (R317, R502). -/
def State.listBad (s : State) (c : Nat) : Option Bad :=
  let g := s.grids c
  let r := s.rank c
  let bad (i cause : Nat) : Option Bad := some { event := 0x0547, ctx := some c, payload := i % 65536 + (cause <<< 16) }
  match firstDup [] g 0 with
  | some i => bad i 1
  | none =>
    if r ≥ g.length ∨ g.getD r 0 ≠ s.gridRef then bad r 2
    else if s.enabledCtxs.any fun d => d != c && s.job d == s.job c then bad 0 3
    else none

/-- Event 0x06C2: the save area meets another context's (R80). -/
def State.saveBad (s : State) (c : Nat) : Option Bad :=
  let mine := (s.pg c 0x058, s.saveBytes c)
  check (!(s.setCtxs.any fun d => d != c && decide (s.pg d 0x058 ≠ 0) && meet mine (s.pg d 0x058, s.saveBytes d)))
    { event := 0x06C2, ctx := some c }

/-! ### Enabling and disabling (R468) -/

/-- The checks of a commit that sets enable, in turn (R263, R468, R504). -/
def State.enableBad (s : State) (c : Nat) : Option Bad :=
  firstBad
    [check (s.kilnSet c != []) { event := 0, ctx := some c },
     check (decide (s.pg c 0x058 ≠ 0)) { event := 0x06C2, ctx := some c },
     s.saveBad c, s.listBad c,
     check (decide (s.pg c 0x018 ≠ 0 ∧ s.pg c 0x020 ≠ 0)) { event := 0, ctx := some c },
     s.poolsBad ((s.pg c 0x058, s.saveBytes c) :: s.leafBlocks c), s.rangesBad s (s.leafBlocks c)]

/-- A newly enabled context (R468): STOPPED, F = 0, E = 0, positions kept; STRICT and the signature as in force (R427). -/
def State.enableNow (s : State) (c : Nat) : State :=
  let t := (s.setReg (pageAddr c 0) 1).modCtx c fun x =>
    { x with enabled := true, loading := false, step := .stopped, fired := 0, epoch := 0, firedEpoch := 0, attempt := 0, fresh := true,
             fetchPos := x.retirePos, conesFetched := 0, ring := .active, ringReason := 0, lastSwitch := s.datum, lastBend := s.datum,
             replaysAt := s.allReplays, degraded := s.anyDegraded, strict := (s.blk 10 0).testBit 0,
             treeDigest := treeDigest (s.grids c), statusDirty := true }
  (t.modCtx c fun x => { x with signature := t.signatureNow c }).withdraw s

/-- Raise the event of a refusal, if it has one. -/
def State.raiseBad (s : State) (b : Bad) : State :=
  if b.event = 0 then s
  else match b.ctx with
    | some c => s.raiseCtx c none b.event b.payload
    | none => s.raise b.event b.payload

/-- The outcome of a commit that clears enable, by the context's state (R468). -/
def State.disableCtx (s : State) (c : Nat) : State :=
  let x := s.ctx c
  if ¬ x.enabled then s
  else if x.loading then s.disableNow c
  else match x.step with
    | .stopped => s.disableNow c
    | .running => (s.abortStep c (s.rank c) 0).modCtx c fun x => { x with disableAfter := true }
    | _ => s.modCtx c fun x => { x with disableAfter := true }

/-- CONTEXT_ENABLE (R468): the checks over the values in force; the first that fails raises its event. -/
def execContextEnable (c : Nat) (s : State) : Result :=
  .next <|
    if (s.ctx c).enabled ∨ s.pwr.life ≠ .ready then s
    else match s.enableBad c with
      | some b => s.raiseBad b
      | none => s.enableNow c

/-- CONTEXT_DISABLE (R468). -/
def execContextDisable (c : Nat) (s : State) : Result := .next (if s.pwr.life ≠ .ready then s else s.disableCtx c)

/-! ### Launches (R398, R399) -/

/-- Arm a launch of a step at datum count L (R399); event 0x0885 with its cause otherwise. In SLEEP the module goes to RUN first
(R420). -/
def State.launchArm (s : State) (c step l : Nat) : State :=
  let x := s.ctx c
  let refuse (cause : Nat) := s.raiseCtx c none 0x0885 cause
  if s.pwr.current = 2 then refuse 4
  else if ¬ x.enabled ∨ x.loading ∨ x.step ≠ .stopped ∨ step % 2 ^ 48 ≠ s.step c % 2 ^ 48 then refuse 1
  else if s.dat.st ≠ .aligned ∧ s.dat.st ≠ .root then refuse 2
  else if l < s.datum + s.blk 10 0x28 * 1000 then refuse 3
  else
    let s := if s.pwr.current = 1 then s.wake else s
    s.modCtx c fun x => { x with launch := some (s.step c, l) }

/-- LAUNCH_ARM (R398, R399): a commit of DET_LAUNCH with arm = 1. -/
def execLaunchArm (c step l : Nat) (s : State) : Result :=
  .next <|
    if s.pwr.life ≠ .ready then s
    else ((s.setReg (pageAddr c 0x328) (step % 2 ^ 48 + 2 ^ 48)).setReg (pageAddr c 0x330) (l % 2 ^ 64)).launchArm c step l

/-- LAUNCH_CANCEL (R398, R399): a commit of DET_LAUNCH with arm = 0. -/
def execLaunchCancel (c : Nat) (s : State) : Result :=
  .next (if s.pwr.life ≠ .ready then s else (s.setReg (pageAddr c 0x328) (bits (s.pg c 0x328) 0 48)).cancelLaunch c)

/-- LAUNCH_RELEASE (R399): at L the context runs step F + 1; event 0x0886 when its first descriptor has not been fetched. -/
def execLaunchRelease (c : Nat) (s : State) : Result :=
  .next <|
    let x := s.ctx c
    match x.launch with
    | none => s
    | some (_, l) =>
      if s.datum < l ∨ ¬ x.enabled ∨ x.step ≠ .stopped ∨ s.pwr.life ≠ .ready then s
      else
        let s := s.modCtx c fun x => { x with launch := none, step := .running, fresh := false, lostRanks := [], statusDirty := true }
        if x.fetchPos ≤ x.retirePos then s.raiseCtx c none 0x0886 (s.step c <<< 64) else s

/-! ### The checks of a commit (R426, R463, R466, R467) -/

/-- Whether a register with an effect may be committed in the state of its context (R467). -/
def State.effectOk (s : State) (c : Nat) (e : Eff) : Bool :=
  let x := s.ctx c
  match e with
  | .commit => true
  | .firing => true
  | .disabled _ => !x.enabled
  | .stopped _ => !x.enabled || (x.step == .stopped && !x.loading)
  | .ring _ => !x.enabled || x.ring == .orphaned
  | .tallyRing _ => !x.enabled || x.ring == .orphaned || x.tallies.any fun t => t.tooBig && !t.written

/-- Event of a D field committed in another state. -/
def Eff.event : Eff → Nat
  | .commit => 0
  | .firing => 0
  | .disabled e => e
  | .stopped e => e
  | .ring e => e
  | .tallyRing e => e

/-- Payload of a refusal of one register: the value for 0x0102 cause 4, else nothing (R502). -/
def regPayload (event v : Nat) : Nat := if event = 0x0102 then (4 <<< 16) + ((v % 2 ^ 64) <<< 64) else 0

/-- The checks of one written register. -/
def State.regBad (s : State) (a v : Nat) : Option Bad :=
  match specOf a with
  | none => none
  | some r =>
    let c := pageCtx a
    if r.bad v then some { event := r.event, ctx := c, payload := regPayload r.event v }
    else match c with
      | some k => if s.effectOk k r.eff then none else some { event := r.eff.event, ctx := c, payload := regPayload r.eff.event v }
      | none => none

/-- Checks that reach over several registers of a group: `s` is the state before the commit, `t` the state with the values. -/
def State.crossBad (s t : State) (g : Nat) (ws : List (Nat × Nat)) : Option Bad :=
  let wrote (a : Nat) : Bool := ws.any fun x => x.1 == a
  let ctxs := (ws.filterMap fun x => pageCtx x.1).eraseDups
  let dirs : List (Nat × Nat) := ctxs.flatMap fun c =>
    (if wrote (pageAddr c 0x018) ∨ wrote (pageAddr c 0x020) then [(t.pg c 0x018, 8 * t.pg c 0x020)] else []) ++
    (if wrote (pageAddr c 0x028) ∨ wrote (pageAddr c 0x030) then [(t.pg c 0x028, t.pg c 0x030)] else [])
  match g with
  | 0 => firstBad ((ctxs.map fun c =>
      if (s.ctx c).enabled ∧ wrote (pageAddr c 0x038) then t.listBad c else none) ++
      [t.poolsBad dirs, t.rangesBad s (dirs ++ ctxs.flatMap fun c =>
        if wrote (pageAddr c 0x038) ∧ t.pg c 0x038 ≠ 0 then [(t.pg c 0x038, 64 + 2 * t.members c)] else [])])
  | 1 =>
    let pools := (List.range 8).filter fun p => wrote (blockAddr 1 (0x100 + 0x10 * p)) || wrote (blockAddr 1 (0x108 + 0x10 * p))
    -- a save area is placed anew, or grows with the kiln set or the resident size
    let saved (c : Nat) : Bool := t.pg c 0x058 != 0 && (wrote (pageAddr c 0x048) || wrote (pageAddr c 0x050) || wrote (pageAddr c 0x058))
    let others (p : Nat) : List (Nat × Nat) := ((List.range 8).filter (· != p)).map t.poolRange ++
      (t.setCtxs.flatMap fun c => (t.ctxRanges c).take 3) ++ t.enabledCtxs.flatMap t.leafBlocks
    firstBad
      ((ctxs.map fun c => check (!(wrote (pageAddr c 0x048) && (s.ctx c).enabled) || t.pg c 0x048 != 0) { event := 0, ctx := some c }) ++
       [check (!(wrote (blockAddr 1 0) && s.openSeqs != [])) { event := 0x0708 }] ++
       (pools.map fun p => check (s.openSeqs.all fun q => s.seqPool q != p) { event := 0x0708, payload := p }) ++
       (pools.map fun p => check (t.pool p).ok { event := 0 }) ++
       (pools.map fun p => check (!((others p).any (meet (t.poolRange p)))) { event := 0 }) ++
       (ctxs.map fun c => if saved c then t.saveBad c else none) ++
       (ctxs.map fun c => if saved c then t.poolsBad [(t.pg c 0x058, t.saveBytes c)] else none) ++
       [t.rangesBad s ((if wrote (blockAddr 1 0) ∧ t.blk 1 0 ≠ 0 then [(t.blk 1 0, 25952256)] else []) ++ pools.map t.poolRange ++
         ctxs.flatMap fun c => (t.ctxRanges c).drop 2)])
  | 4 => firstBad
      (((List.range 8).map fun p =>
        let v := t.blk 4 (0x100 + 8 * p)
        check (!wrote (blockAddr 4 (0x100 + 8 * p)) ||
          (!(v.testBit 2 && bits v 0 2 == 0) && (bits v 0 2 != 3 || [2, 3, 6, 7].contains p))) { event := 0 }) ++
       [t.rangesBad s (if wrote (blockAddr 4 0x38) ∧ t.blk 4 0x38 ≠ 0 then [(t.blk 4 0x38, 16 * 16384)] else [])])
  | 5 => firstBad
      ([check (!((wrote (blockAddr 5 0x138) || wrote (blockAddr 5 0x130)) && decide (t.blk 5 0x138 * 1000 ≤ t.blk 5 0x130)))
          { event := 0x0102, payload := regPayload 0x0102 (t.blk 5 0x138) }] ++
       ((List.range 64).map fun w =>
         let o := 0x400 + 0x20 * w
         let ctl := t.blk 5 (o + 0x10)
         let c := bits ctl 2 10
         check (!(wrote (blockAddr 5 o) || wrote (blockAddr 5 (o + 8)) || wrote (blockAddr 5 (o + 0x10))) ||
           !(ctl.testBit 0 && ctl.testBit 1) ||
           decide (t.pg c 0x028 ≤ t.blk 5 o ∧ t.blk 5 o + t.blk 5 (o + 8) ≤ t.pg c 0x028 + t.pg c 0x030)) { event := 0 }) ++
       (ctxs.flatMap fun c => (List.range 16).map fun w =>
         let o := 0x100 + 0x20 * w
         let len := t.pg c (o + 8)
         check (!(wrote (pageAddr c (o + 8)) || wrote (pageAddr c (o + 0x10))) || !(t.pg c (o + 0x10)).testBit 36 ||
           decide (4096 ≤ len ∧ len % 4096 = 0)) { event := 0, ctx := some c }) ++
       (ctxs.flatMap fun c => (t.ringSettings c).map fun (r : Nat × Nat × Nat × Bool) =>
         check (!(wrote (pageAddr c r.1) || wrote (pageAddr c r.2.1)) || t.ringPlaced c r.1 r.2.2.1 r.2.2.2)
           { event := 0x0102, ctx := some c, payload := regPayload 0x0102 (t.pg c r.1) }))
  | 11 => check (decide (t.blk 11 0x10 < t.blk 11 0x18) || !(wrote (blockAddr 11 0x10) || wrote (blockAddr 11 0x18))) { event := 0 }
  | _ => none

/-- Put a group's values into a state for the checks, whatever their effect. -/
def State.tentative (s : State) (ws : List (Nat × Nat)) : State :=
  ws.foldl (fun s x => s.setReg x.1 (((specOf x.1).map fun r => r.keep x.2).getD x.2)) s

/-- Whether a written register is FLUE_CTX_CONTROL of some context. -/
def isEnableReg (a : Nat) : Bool :=
  match place a with
  | .page _ 0 => true
  | _ => false

/-- The enables of one commit, each checked beside those before it (R317, R468). -/
def State.enablesBad (t : State) : List Nat → Option Bad
  | [] => none
  | c :: rest => match t.enableBad c with
    | some b => some b
    | none => (t.modCtx c fun x => { x with enabled := true }).enablesBad rest

/-- The check of one group against its chapters' rules (R426). Group 0 comes last, its enable checks with it (R465, R468). -/
def State.groupBad (s t : State) (g : Nat) (ws : List (Nat × Nat)) : Option Bad :=
  firstBad ((ws.map fun x => s.regBad x.1 x.2) ++ [s.crossBad t g ws] ++
    [if g = 0 then t.enablesBad ((ws.filter fun x => isEnableReg x.1 && x.2.testBit 0).filterMap fun x =>
        (pageCtx x.1).filter fun c => !(s.ctx c).enabled) else none])

/-! ### Applying a group (R426, R427) -/

/-- Whether a context adopts a firing field at its commit (R427). -/
def State.adoptsNow (s : State) (c : Nat) : Bool := let x := s.ctx c; !x.enabled || x.loading || x.step == .stopped

/-- Put one committed register into force, or into the pending set of its context (R427, R467). -/
def State.applyReg (s : State) (a v : Nat) : State :=
  match specOf a, pageCtx a with
  | some r, some c =>
    if r.eff = .firing ∧ ¬ s.adoptsNow c then
      s.modCtx c fun x => { x with pendingRegs := x.pendingRegs.filter (fun y => y.1 != a) ++ [(a, r.keep v)] }
    else if isEnableReg a then s
    else (s.modCtx c fun x => { x with pendingRegs := x.pendingRegs.filter fun y => y.1 != a }).setReg a (r.keep v)
  | some r, none => s.setReg a (r.keep v)
  | none, _ => s

/-- What a commit of a port's control does (R305, R307, R476): the port stays where it is when R305 refuses. -/
def State.portControl (s : State) (p : Nat) : State :=
  let a := blockAddr 4 (0x100 + 8 * p)
  let v := s.reg a
  let s := s.setReg a (v - (if v.testBit 3 then 8 else 0))
  if !v.testBit 2 then s.disablePort p
  else if (s.port p).st = .disabled ∨ v.testBit 3 then s.trainPort p
  else s

/-- Whether DET_DATUM_ROOT names this module. -/
def State.isRoot (s : State) : Bool := (s.blk 10 0x10).testBit 15 && s.gridValid && bits (s.blk 10 0x10) 0 14 == s.gridRef

/-- The columns "root committed as this module" and "root setting moved away" of R394; a root counts freely (R392). -/
def State.rootCommitted (s : State) : State :=
  if s.isRoot then { s with dat := { s.dat with st := .root, onAlt := false, hops := 0, slew := 0 } }
  else if s.dat.st = .root then { s with dat := { s.dat with st := .unaligned } }
  else s

/-- A commit of outbound windows may take a ring that the module writes out of its window, with event 0x0105, or put it back (R356). -/
def State.recheckRings (s : State) (c : Nat) : State :=
  if ¬ (s.ctx c).enabled then s
  else match (s.ringSettings c).find? fun r => r.2.2.2 && s.pg c r.1 != 0 && !s.ringInWindow c (s.pg c r.1) r.2.2.1 with
    | some r => s.outOfWindow c (s.pg c r.1) r.2.2.1
    | none => s.modCtx c fun x => { x with ringOut := false }

/-- What a committed register sets in motion beside its value; `before` is the state before the commit. -/
def State.afterReg (s before : State) (a : Nat) : State :=
  match place a with
  | .block 4 off =>
    if 0x100 ≤ off ∧ off < 0x140 then s.portControl ((off - 0x100) / 8)
    else if 0x180 ≤ off ∧ off < 0x1C0 then s.checkPort ((off - 0x180) / 8)
    else if off = 0 then ((List.range 8).foldl (fun s p => s.checkPort p) s).rootCommitted
    else s
  | .block 5 off =>
    if 0x400 ≤ off ∧ off < 0xC00 then
      let (k, s) := s.drawFresh
      s.setReg (blockAddr 5 (off / 0x20 * 0x20 + 0x18)) (k % 2 ^ 32)
    else if 0x100 ≤ off ∧ off ≤ 0x118 ∧ s.host.stewardHold = 1 then { s with host := { s.host with stewardHold := 2 } }
    else s
  | .block 2 off => if (off = 0x8 ∨ off = 0x10) ∧ s.reg a ≠ before.reg a then s.newWindow else s
  | .block 10 off => if off = 0x10 then s.rootCommitted else if off = 0x18 then s.upstreamCommitted else s
  | .page c off =>
    if off = 0x038 then s.modCtx c fun x => { x with treeDigest := treeDigest (s.grids c), lostRanks := [] }
    else if 0x100 ≤ off ∧ off < 0x300 then (s.recheckRings c).resumeHost c
    else s
  | _ => s

/-- Contexts that adopt at once take STRICT and their policies now, and their signature with them (R388, R427). -/
def State.refreshIdle (s : State) : State :=
  { s with ctxs := s.ctxs.map fun (e : Nat × Ctx) =>
      if s.adoptsNow e.1 then
        let t := s.setCtx e.1 { e.2 with strict := (s.blk 10 0).testBit 0 }
        (e.1, { e.2 with strict := (s.blk 10 0).testBit 0, signature := t.signatureNow e.1 })
      else e }

/-- The written registers of a bank that a commit selects from group g (R464). -/
def Bank.selected (b : Bank) (v g : Nat) : List (Nat × Nat) :=
  b.written.filter fun x => match specOf x.1 with
    | some r => r.group == g && (match pageCtx x.1 with
        | some c => v.testBit 26 || bits v 16 10 == c
        | none => true)
    | none => false

/-- Decide every selected group in the order FLUE_ values, then groups 1 to 11, then FLUE_ with its enables: the refusals by group,
on a state `t` that gathers the values of the groups that pass. -/
def State.commitFaults (s : State) (b : Bank) (v : Nat) : List (Nat × Bad) :=
  let sel (g : Nat) := if v.testBit g then b.selected v g else []
  let flue := (sel 0).filter fun x => !isEnableReg x.1
  let t0 := if (flue.all fun x => (s.regBad x.1 x.2).isNone) then s.tentative flue else s
  let (t, bad) := ((List.range 11).map (· + 1)).foldl (fun (acc : State × List (Nat × Bad)) g =>
    let ws := sel g
    if ws = [] then acc
    else
      let t := acc.1.tentative ws
      match s.groupBad t g ws with
      | some e => (acc.1, acc.2 ++ [(g, e)])
      | none => (t, acc.2)) (t0, [])
  if sel 0 = [] then bad
  else match s.groupBad (t.tentative flue) 0 (sel 0) with
    | some e => bad ++ [(0, e)]
    | none => bad

/-- Launches that a commit of DET_ registers asks for (R399). -/
def State.launches (s : State) (ws : List (Nat × Nat)) : State :=
  ((ws.filterMap fun x => match place x.1 with
    | .page c 0x328 => some c
    | .page c 0x330 => some c
    | _ => none).eraseDups).foldl (fun s c =>
      let w := s.pg c 0x328
      if w.testBit 48 then s.launchArm c (bits w 0 48) (s.pg c 0x330) else s.cancelLaunch c) s

/-- The written registers that a commit applies: those of the groups that pass, FLUE_ last (R465). -/
def Bank.passing (b : Bank) (v : Nat) (bad : List (Nat × Bad)) : List (Nat × Nat) :=
  let sel (g : Nat) := if v.testBit g ∧ (bad.all fun e => e.1 != g) then b.selected v g else []
  ((List.range 11).map (· + 1) ++ [0]).flatMap sel

/-- Apply the registers that pass (R426 to R428, R465 to R468): each group as a whole, enables last. `tell` raises what the refused
groups raise. -/
def State.applyAll (s : State) (ws : List (Nat × Nat)) (tell : State → State) : State :=
  let before := s
  let s := ws.foldl (fun s x => s.applyReg x.1 x.2) s
  let s := ((ws.map (·.1)).filter fun a => !isEnableReg a).foldl (fun s a => s.afterReg before a) s
  let s := s.withdraw before
  let s := tell s.refreshIdle
  let s := (ws.filter fun x => isEnableReg x.1).foldl (fun s x =>
    match pageCtx x.1 with
    | some c =>
      if x.2.testBit 0 then (if (s.ctx c).enabled then s else s.enableNow c) else s.disableCtx c
    | none => s) s
  let s := s.launches ws
  { s with trust := { s.trust with commits := (s.trust.commits + 1) % 2 ^ 32, measured := s.regs } }

/-- The log record of a commit (R436, R437): kind 3. -/
def State.logCommit (s : State) (src : Src) (tag refused first v : Nat) : State :=
  s.record 3 first 0xFFFF 0 (sourceBody src (tag + (refused <<< 33) + (first <<< 48)) (v % 2 ^ 64))

/-- The mask of refused groups. -/
def refusedMask (bad : List (Nat × Bad)) : Nat := bad.foldl (fun m e => m ||| 2 ^ e.1) 0

/-- Carry out a commit (R425 to R428, R464 to R468): the groups that pass, then the status and the log record. -/
def State.commit (s : State) (src : Src) (v : Nat) : State :=
  let b := s.bankOf src
  let bad := s.commitFaults b v
  let ws := b.passing v bad
  let s := s.applyAll ws fun s => bad.foldl (fun s e => s.raiseBad e.2) s
  let (k, s) := s.drawFresh
  let b' : Bank := { b with
    before := (b.tag, b.refused, b.first)
    written := b.written.filter fun x => !(ws.any fun y => y.1 == x.1)
    tag := bits v 32 32
    refused := refusedMask bad
    first := (bad.head?.map fun e => e.2.event).getD 0
    busyUntil := s.datum + k % 10001 }
  (s.setBank src b').logCommit src b'.tag b'.refused b'.first v

/-- The other bank of a source. -/
def State.otherBank (s : State) (src : Src) : Bank := if srcMgmt src then s.bankS else s.bankM

/-- The commit that a source's bank holds runs. -/
def State.runHeld (s : State) (src : Src) : State :=
  match (s.bankOf src).held with
  | none => s
  | some (from_, v) => (s.setBank src { s.bankOf src with held := none, second := false }).commit from_ v

/-- A source of the other bank: all that tells the banks apart. -/
def otherSrc (src : Src) : Src := if srcMgmt src then { src with via := 0 } else { src with via := 2 }

/-- The commit that the other bank holds, where it reached flue die 0 first, runs before one of this bank: commits are serialised in the order
in which they come (R428), and the time that a commit takes is open up to 10 µs (log entry 99). -/
def State.commitsBefore (s : State) (src : Src) : State :=
  if (s.bankOf src).held.isSome ∧ ¬ (s.bankOf src).second then s else s.runHeld (otherSrc src)

/-- A write to FLUE_COMMIT (R428): held while the bank is busy, or until the module is READY (log entry 99); discarded with event 0x080C when
one is held already. -/
def State.commitWrite (s : State) (src : Src) (v : Nat) : State :=
  let b := s.bankOf src
  if b.held.isSome then s.raise 0x080C (if srcMgmt src then 1 else 0)
  else if s.datum < b.busyUntil ∨ s.pwr.life ≠ .ready then
    s.setBank src { b with held := some (src, v), second := (s.otherBank src).held.isSome }
  else (s.commitsBefore src).commit src v

/-- FLUE_COMMIT (R425, R437): the write enters the log as a register write too. -/
def execFlueCommit (src : Src) (v : Word) (s : State) : Result :=
  .next <|
    if !s.takesWrite src then s
    else (s.record 2 0 0xFFFF 0 (sourceBody src (blockAddr 0 0) v.toNat)).commitWrite src v.toNat

/-- HELD_COMMIT (R428): the held commit of a bank (0 steward, 1 management) runs once the bank is no longer busy. -/
def execHeldCommit (bank : Nat) (s : State) : Result :=
  .next <|
    let b := if bank = 0 then s.bankS else s.bankM
    match b.held with
    | none => s
    | some (src, _) =>
      if s.datum < b.busyUntil ∨ s.pwr.life ≠ .ready then s else (s.commitsBefore src).runHeld src

end Sys2Proof.Machine
end

