-- ==== Sys2Proof/Machine/Memory.lean ====
section
/-! DEFINITION. Bonded memory commands (R161 to R192): BURST_READ, BURST_WRITE, PATROL_SCRUB_READ, CE_WINDOW_END, REFRESH,
REFRESH_INTERVAL_RESTORE, LAYER_TEMPERATURE_SAMPLE, THROTTLE_EVALUATION, SETTER_ADDER_UPDATE, ORDER_KEY_CLOSE; and the fatal
stops of R182 and R424. -/

namespace Sys2Proof.Machine

/-- BURST_READ (R167 to R175). -/
def execBurstRead (addr : Nat) (behalf : Behalf) (noise : Noise) (s : State) : Result :=
  .next <|
    let a := addr / 64 * 64
    if s.pwr.life ≠ .ready then s
    else if !inMemory a 64 then s.reserved behalf false addr
    else if !s.serving a then s
    else match s.burst a noise .read with
      | (s, .data _) => s
      | (s, .poisoned _) => s.abortFor behalf 0x0303 (poisonPayload a (behalfPos behalf))

/-- BURST_WRITE (R162, R175): a whole burst gets a fresh code; a partial one is read, merged and written, and not applied to poison. -/
def execBurstWrite (addr mask : Nat) (img : List Byte) (behalf : Behalf) (s : State) : Result :=
  .next <|
    let a := addr / 64 * 64
    if s.pwr.life ≠ .ready then s
    else if !inMemory a 64 then s.reserved behalf true addr
    else if !s.serving a then s
    else if mask % 2 ^ 64 = 2 ^ 64 - 1 then s.poke a ((List.range 64).map fun i => img.getD i 0)
    else match s.burst a [] .writeBack with
      | (s, .data old) => s.poke a ((List.range 64).map fun i => if mask.testBit i then img.getD i 0 else old.getD i 0)
      | (s, .poisoned _) => s.abortFor behalf 0x0303 (poisonPayload a (behalfPos behalf))

/-- First address of a die's memory, and its end. -/
def dieStart (d : Nat) : Nat := d * 2 ^ 39
def dieEnd (d : Nat) : Nat := dieStart d + 0x4800000000

/-- Add the burst at `a` to rising disjoint ranges. -/
def addRange (a : Nat) : List (Nat × Nat) → List (Nat × Nat)
  | [] => [(a, a + 64)]
  | (lo, hi) :: rest =>
    if a + 64 < lo then (a, a + 64) :: (lo, hi) :: rest
    else if a + 64 = lo then (a, hi) :: rest
    else if a < hi then (lo, hi) :: rest
    else if a = hi then (match rest with
      | (lo', hi') :: more => if lo' = a + 64 then (lo, hi') :: more else (lo, a + 64) :: rest
      | [] => [(lo, a + 64)])
    else (lo, hi) :: addRange a rest

/-- A burst counts as read in the present scrub pass of its die; when every burst has been, the pass is complete (R171, R176). -/
def State.scrubbed (s : State) (a : Nat) : State :=
  let d := bits a 39 1
  let x := s.setter
  let l := addRange a (if d = 0 then x.scrubbed0 else x.scrubbed1)
  let done := l == [(dieStart d, dieEnd d)]
  let l := if done then [] else l
  let n := if done then 1 else 0
  { s with setter := if d = 0 then { x with scrubbed0 := l, scrub0 := (x.scrub0 + n) % 2 ^ 32 }
                     else { x with scrubbed1 := l, scrub1 := (x.scrub1 + n) % 2 ^ 32 } }

/-- PATROL_SCRUB_READ (R176, R169, R173): corrects, writes back or poisons. Each burst is read once in a pass: one that the present pass
has read already is left alone. Not in SLEEP or DEEP (R418). -/
def execPatrolScrubRead (addr : Nat) (noise : Noise) (s : State) : Result :=
  .next <|
    let a := addr / 64 * 64
    let seen := (if bits a 39 1 = 0 then s.setter.scrubbed0 else s.setter.scrubbed1).any fun r => decide (r.1 ≤ a ∧ a < r.2)
    if s.pwr.life ≠ .ready ∨ s.pwr.current ≠ 0 ∨ !isDie a ∨ !s.serving a ∨ seen then s
    else (s.burst a noise .scrub).1.scrubbed a

/-- CE_WINDOW_END (R172). -/
def execCeWindowEnd (s : State) : Result := .next s.newWindow

/-- REFRESH (R177): a channel of a stack that is not in self-refresh. -/
def execRefresh (die ch : Nat) (s : State) : Result :=
  .next <|
    if s.pwr.life = .off ∨ die ≥ 2 ∨ ch ≥ 512 ∨ (s.stack die).selfRefresh then s
    else s.modChan die ch fun x => { x with refreshed := s.datum }

/-- REFRESH_INTERVAL_RESTORE (R177): 3.9 µs again after 10 ms with every layer at 82 degrees or below. -/
def execRefreshIntervalRestore (die : Nat) (s : State) : Result :=
  .next <|
    let x := s.stack die
    match x.coolSince with
    | some t =>
      if x.doubled ∧ s.datum ≥ t + 10000000 then
        (s.modStack die fun x => { x with doubled := false }).raise 0x0A01 (die + (3900 <<< 32))
      else s
    | none => s

/-! ### Fatal stops (R182, R415, R424) -/

/-- The pin THERM_N is low: a stack or a die is tripped (R488). -/
def State.thermLow (s : State) : Bool := s.setter.stack0.tripped || s.setter.stack1.tripped || s.pwr.tripped != []

/-- Whether a source of the system class is lost now (R415). -/
def State.sourceLost (s : State) : Bool := s.pwr.lost.any fun i => i == 0 || decide (i ≥ 5)

/-- Whether something keeps the module silent: a system-class source, a tripped stack or die. -/
def State.stillSilent (s : State) : Bool := s.sourceLost || s.thermLow || s.pwr.failing

/-- The safe state of a system-class loss (R415): every lane idle, both stacks in self-refresh, the datum in HOLDOVER; a root keeps its
state while its own clock runs (R392, R394). A module that is READY is silent from then on; one held in start-up stays held (R407, R449). -/
def State.goSilent (s : State) : State :=
  let s := { s with host := { s.host with up0 := false, up1 := false, paused0 := false, paused1 := false } }
  let s := (List.range 8).foldl (fun s p =>
    let x := s.port p
    if x.st = .disabled then s else (s.setPort p { x.cleared s.datum with st := .down }).emit (.lanes p 0)) s
  let s := (s.modStack 0 fun x => { x with selfRefresh := true }).modStack 1 fun x => { x with selfRefresh := true }
  let hold : Bool := s.dat.st == .aligned || (s.dat.st == .root && s.sourceLost)
  let s := if hold then { s with dat := { s.dat with st := .holdover, since := s.datum } }.raise 0x0881 0 else s
  { s with pwr := { s.pwr with life := if s.pwr.life = .ready then .silent else s.pwr.life, recovery := none } }

/-- Recovery in place may begin (R416) when nothing keeps the module silent. -/
def State.mayRecover (s : State) (cause : Nat) : State :=
  if s.pwr.life = .silent ∧ s.pwr.recovery = none ∧ !s.stillSilent then { s with pwr := { s.pwr with recovery := some cause } } else s

/-! ### Temperatures and throttling (R179 to R183) -/

/-- A throttle step: event and entry for the firing record (R181, R245). Kinds: 0 soft, 1 hard. -/
def State.throttle (s : State) (die kind : Nat) : State :=
  let l := (s.stack die).level
  let s := { s with setter := { s.setter with throttles := s.setter.throttles ++ [(s.datum, die, l, kind)] } }
  s.raise (if kind = 1 then 0x0A03 else 0x0A02) (die + (l <<< 8))

/-- Hard throttle begins (R180). -/
def State.hardThrottle (s : State) (die : Nat) : State :=
  if (s.stack die).hard then s
  else (s.modStack die fun x => { x with hard := true, level := min x.level 50 }).throttle die 1

/-- Event 0x0A04 and what follows a trip (R182). -/
def State.trip (s : State) (die layer : Nat) (t : Int) : State :=
  let s := s.modStack die fun x => { x with tripped := true, selfRefresh := true }
  ((s.raise 0x0A04 (die + (layer <<< 8) + (signedBits 16 t <<< 16))).capture 0x0A04).goSilent

/-- THROTTLE_EVALUATION (R181), every 1 ms for each stack. -/
def execThrottleEvaluation (die : Nat) (s : State) : Result :=
  .next <|
    if s.pwr.life = .off ∨ die ≥ 2 then s
    else
      let x := s.stack die
      let hot := x.hottest.2
      let soft : Int := 4 * (s.blk 2 0x20 : Nat)
      let hard := x.hard && !(decide (hot < 400) && x.faulty.isEmpty)
      let s := s.modStack die fun y => { y with hard := hard, prev := hot }
      if hot ≥ soft ∧ hot ≥ x.prev - 2 ∧ x.level > 25 then
        (s.modStack die fun y => { y with level := y.level - 25 }).throttle die 0
      else if hot < soft - 12 ∧ x.level < 100 ∧ ¬ (hard ∧ x.level ≥ 50) then
        (s.modStack die fun y => { y with level := y.level + 25 }).throttle die 0
      else s

/-! ### Setter adders (R184 to R186) -/

/-- SETTER_ADDER_UPDATE (R184 to R186): applied at once with STRICT clear or when every lower key of its domain is closed, else held;
an update that finds no domain or no room in the store is not accepted. -/
def execSetterAdderUpdate (u : AdderUpdate) (s : State) : Result :=
  .next <|
    if s.pwr.life ≠ .ready then s
    else if u.addr % 64 ≠ 0 ∨ !isDie u.addr then s.reserved (some (u.ctx, u.pos)) true u.addr
    else if !s.serving u.addr then s
    else if !(s.ctx u.ctx).strict then s.applyAdder u
    else match s.openDomain u.domain with
      | none => s
      | some s =>
        let d := s.domain u.domain
        if u.key ≤ d.closed then s.applyAdder u
        else if s.storeFull u then s
        else s.setDomain { d with held := d.held ++ [u] }

/-- ORDER_KEY_CLOSE (R186): the held updates that no open lower key bars are applied in increasing key. Closing key 2^32 - 1 closes the
domain (log entry 19). -/
def execOrderKeyClose (domain key : Nat) (s : State) : Result :=
  .next <|
    if s.pwr.life ≠ .ready then s
    else match s.openDomain domain with
      | none => s
      | some s =>
        let s := s.closeKeys domain (key + 1)
        if (s.domain domain).closed ≥ 2 ^ 32 then s.dropDomain domain else s

end Sys2Proof.Machine
end

