-- ==== Sys2Proof/Machine/Tier.lean ====
section
/-! DEFINITION. The flash tier (R193 to R222): promotion, demand misses, cleaning, demotion, the journal, garbage collection, wear,
lost sectors and channels, and PREFETCH_ANNOUNCE. -/

namespace Sys2Proof.Machine

/-- Whether the tier works: mounted, the module running in RUN, write protect not asserted. -/
def State.tierRuns (s : State) : Bool :=
  s.tier.mounted && s.pwr.life == .ready && s.pwr.current == 0 && !s.tier.writeProtect && !s.pwr.failing

/-- The full step number of an entry's 28-bit step, at or below F. -/
def State.fullStep (s : State) (c e : Nat) : Nat :=
  let f := (s.ctx c).fired
  f - (f + 2 ^ 28 - e % 2 ^ 28) % 2 ^ 28

/-- Whether a parcel has a shadow, a migration. -/
def State.shadowed (s : State) (c p : Nat) : Bool := (alook p (s.ctx c).shadows).isSome
/-- Whether a parcel is under migration. -/
def State.migrating (s : State) (c p : Nat) : Bool := (s.ctx c).migrations.any fun m => m.parcel == p
/-- Whether an announcement holds a parcel (R205). -/
def State.announced (s : State) (c p : Nat) : Bool := (s.ctx c).announces.any fun a => a.parcels.contains p

/-! ### Promotion and demand misses (R201, R206) -/

/-- Bring a parcel that resides only on flash into DRAM and switch its plat entry (R201); none when no frame is free. -/
def State.promote (s : State) (c p : Nat) : Option State :=
  match s.firedEntry c p, alook (homeKey c p) s.tier.homes with
  | some e, some h =>
    if e.where_ ≠ 2 ∨ e.lost ∨ h.lost then none
    else (s.takePool s.poolDie).map fun (f, s) =>
      let s := s.poke f (imageBytes h.image)
      let s := s.setPlatEntry c p { where_ := 1, frame := f, step := e.step }
      s.modTier fun t => { t with promotions := (t.promotions + 1) % 2 ^ 64, lastUse := aset (homeKey c p) s.datum t.lastUse,
                                  promoq := t.promoq.filter (· != homeKey c p) }
  | _, _ => none

/-- A demand-missed parcel is there (R206): the miss is counted with its stall, and operations go on once they miss nothing more. -/
def State.missLanded (s : State) (c parcel stall : Nat) : State :=
  s.modCtx c fun x =>
    let left := x.missing.filter (· != parcel)
    { x with missing := left, missedAt := adel parcel x.missedAt, missCount := satAdd 32 x.missCount 1
             missStall := satAdd 64 x.missStall stall, stepMisses := (x.stepMisses.1 + 1, x.stepMisses.2 + stall)
             window := if left = [] then x.window.map fun w => if w.wait = some .demandMiss then { w with wait := none } else w
                       else x.window }

/-- A parcel under migration, or with a shadow, keeps its location (R201): a demand-missed copy of it serves the step alone (R206). -/
def State.lend (s : State) (c p : Nat) : Option State :=
  match s.firedEntry c p, alook (homeKey c p) s.tier.homes with
  | some e, some h =>
    if e.where_ ≠ 2 ∨ e.lost ∨ h.lost then none
    else (s.takePool s.poolDie).map fun (f, s) =>
      (s.poke f (imageBytes h.image)).modCtx c fun x => { x with lent := aset p f x.lent }
  | _, _ => none

/-- PROMOTION (R201, R205): a queued promotion lands; with a shadow or a migration the copy is released unused. One that operations wait
for is a demand miss too, its stall counted from the miss (R206). -/
def execPromotion (c parcel : Nat) (s : State) : Result :=
  .next <|
    let key := homeKey c parcel
    let x := s.ctx c
    if !s.tierRuns || !s.tier.promoq.contains key then s
    else if s.shadowed c parcel || s.migrating c parcel then s.modTier fun t => { t with promoq := t.promoq.filter (· != key) }
    else match s.promote c parcel with
      | none => s
      | some t => if x.missing.contains parcel then t.missLanded c parcel (s.datum - (alook parcel x.missedAt).getD s.datum) else t

/-- DEMAND_MISS (R206): the promotion that operations wait for lands; it is counted with its stall. -/
def execDemandMiss (c parcel stall : Nat) (s : State) : Result :=
  .next <|
    if s.pwr.life ≠ .ready ∨ ¬ s.tier.mounted ∨ ¬ (s.ctx c).missing.contains parcel then s
    else match (if s.shadowed c parcel || s.migrating c parcel then s.lend c parcel else s.promote c parcel) with
      | none => s
      | some s => s.missLanded c parcel stall

/-! ### Cleaning and demotion (R202) -/

/-- Whether the refill of the shadow reserve finds a die's pool short (R231). -/
def State.refillShort (s : State) : Bool :=
  s.refilling && (decide (4529848 - s.frames0.reserve > s.frames0.pool) || decide (4529848 - s.frames1.reserve > s.frames1.pool))

/-- Whether demotion runs: below TIER_FREE_LOW, until TIER_FREE_HIGH (R202), and for a refill that finds the pool short (R231). -/
def State.demotes (s : State) : Bool :=
  decide (s.freePool < s.blk 11 0x10) || (s.demoting && decide (s.freePool < s.blk 11 0x18)) || s.refillShort

/-- Whether the tier engine may demote a parcel's copy (R202). -/
def State.demotable (s : State) (c p : Nat) : Bool :=
  match s.platEntry c p with
  | none => false
  | some e =>
    let recent := match alook (homeKey c p) s.tier.placed with
      | some n => decide ((s.ctx c).fired < n + s.blk 11 0x20)
      | none => false
    e.where_ == 1 && !s.shadowed c p && !s.migrating c p && !s.announced c p && !recent &&
      (alook p (s.ctx c).firedShadows).isNone

/-- The parcels of a context that have a DRAM copy, as its leaf blocks show them. -/
def State.dramParcels (s : State) (c : Nat) : List Nat :=
  (s.validLots c).flatMap fun lot =>
    let leaf := bits (s.lotEntry c (512 * lot)) 12 28 * 4096
    s.mem.filterMap fun x =>
      if leaf ≤ x.1 ∧ x.1 < leaf + 4096 ∧ (x.1 - leaf) % 8 = 0 ∧ x.2.toNat % 4 = 1 then some (512 * lot + (x.1 - leaf) / 8) else none

/-- Whether a copy is clean (R200): a readable home, and nothing has changed it since. -/
def State.cleanCopy (s : State) (c p : Nat) : Bool :=
  (alook (homeKey c p) s.tier.homes).any (fun h => !h.lost) && (alook (homeKey c p) s.tier.dirtySince).isNone

/-- Datum of the last use of a copy; 0 for one not used since it stands in the tier's records. -/
def Tier.usedAt (t : Tier) (key : Nat) : Nat := (alook key t.lastUse).getD 0

/-- Whether the tier engine would take another copy out of DRAM first: one used less recently that it may demote, clean or to be cleaned for it
(R202, R215). -/
def State.olderCopy (s : State) (c p : Nat) : Bool :=
  s.enabledCtxs.any fun d => (s.dramParcels d).any fun q =>
    decide (s.tier.usedAt (homeKey d q) < s.tier.usedAt (homeKey c p)) && s.demotable d q && (s.cleanCopy d q || s.mayHome d q)

/-- Whether a dirty copy is the one to be cleaned now (R202): in increasing dirty-since order, or the next one to be demoted. -/
def State.cleansNow (s : State) (c p d : Nat) : Bool :=
  ((s.tier.dirtySince.filter fun x => x.1 / 2 ^ 33 == c).all fun x => decide (d ≤ x.2)) ||
    (s.demotes && s.demotable c p && !s.olderCopy c p)

/-- CLEANING (R202): a dirty copy's fired contents go to a new home. -/
def execCleaning (c parcel loc : Nat) (s : State) : Result :=
  .next <|
    let key := homeKey c parcel
    match alook key s.tier.dirtySince, s.platEntry c parcel with
    | some d, some e =>
      if !s.tierRuns || e.where_ != 1 || (alook parcel (s.ctx c).firedShadows).isSome || !s.cleansNow c parcel d then s
      else if !s.mayHome c parcel then s.checkFull
      else
        let (s, bs) := s.readFrame e.frame
        (match bs with
         | none => s
         | some bs =>
           let s := s.setHome c parcel (s.fullStep c e.step) bs (loc % 2 ^ 33)
           let s := s.setPlatEntry c parcel { e with dirty := false }
           ((((s.modTier fun t => { t with cleanings := (t.cleanings + 1) % 2 ^ 64 }).checkFull).settleJournal).raiseHearth c).weighJournal)
    | _, _ => s

/-- DEMOTION (R202): the least recently used clean copy leaves DRAM. -/
def execDemotion (c parcel : Nat) (s : State) : Result :=
  .next <|
    let key := homeKey c parcel
    match s.platEntry c parcel with
    | some e =>
      if !s.tierRuns || !s.demotes || !s.demotable c parcel || !s.cleanCopy c parcel || s.olderCopy c parcel then s
      else
        let s := (s.givePool e.frame).setPlatEntry c parcel { where_ := 2, step := e.step }
        s.modTier fun t => { t with demotions := (t.demotions + 1) % 2 ^ 64, lastUse := adel key t.lastUse, placed := adel key t.placed }
    | none => s

/-! ### The journal (R207 to R211) -/

/-- Mode 1 of R211: journalling stops when the backlog exceeds its limit; records that wait for the journal only are released (R249). -/
def State.backlogStop (s : State) : State :=
  if s.blk 11 0x40 = 1 ∧ s.backlogOver ∧ ¬ s.tier.stopped then
    let s := (s.modTier fun t => { t with stopped := true }).raise 0x040A (1 + ((s.moduleHearth.1 % 2 ^ 64) <<< 64))
    s.enabledCtxs.foldl State.releaseTallies s
  else s

/-- Whether an item fits the journal ring of 256 GiB behind the oldest item kept (R195). -/
def Tier.fits (t : Tier) (i : JItem) : Bool := decide (i.offset + i.bytes ≤ (t.journal.head?.map (·.offset)).getD 0 + 256 * 2 ^ 30)

/-- JOURNAL_FLUSH (R208, R209): the journal stream is programmed as far as a context's items up to a step need, in the pages given, each in
its first fresh sectors, or where there is room; the stripes that hold those items are closed (R196); h rises. A sector that the flush
finds partly filled is programmed again when more of the stream has come (log entry 95). -/
def execJournalFlush (c step : Nat) (pages : List Nat) (s : State) : Result :=
  .next <|
    if !s.tierRuns || s.tier.stopped then s
    else
      let now := s.tier.journal.filter fun i => i.ctx == c && decide (i.step ≤ step) && s.tier.fits i && !i.durable
      let upto := now.foldl (fun m i => max m (i.offset + i.bytes)) s.tier.programmed
      let first := s.tier.programmed / 4096
      let ks := ((List.range (ceilDiv upto 4096 - first)).map fun k => first + k) ++
        (now.flatMap fun i => i.sectors.filter fun k => decide (k < first) && !s.tier.streamHolds i k)
      let s := (ks.eraseDups.foldl (fun (acc : State × List Nat) k =>
        let t := acc.1.tier
        match acc.2.dropWhile fun l => !t.fresh l with
        | l :: rest => (acc.1.programStream k upto l, rest)
        | [] => (acc.1.programStream k upto (t.room (blockOf (pages.headD 0))), [])) (s, pages.flatMap pageSectors)).1
      let s := s.modTier fun t => (((now.flatMap JItem.sectors).filterMap fun k => (alook k t.stream).map fun y => stripeOf y.1).eraseDups).foldl Tier.closeStripe t
      (((s.settleJournal).raiseHearth c).noteJournaled c).weighJournal.backlogStop

/-- JOURNAL_RESUME (R211): in mode 1, with no dirty copy left, h is the last fired step and journalling goes on. -/
def execJournalResume (s : State) : Result :=
  .next <|
    if !s.tierRuns || !s.tier.stopped || s.tier.dirtySince != [] then s
    else
      let s := s.enabledCtxs.foldl (fun s c => s.modCtx c fun x => { x with hearth := x.fired, rebase := none }) s
      let s := s.modTier fun t => { t with stopped := false, journal := [], stream := [], programmed := t.journalEnd, raised := false }
      s.raise 0x040A (2 + ((s.moduleHearth.1 % 2 ^ 64) <<< 64))

/-! ### Wear and capacity (R215 to R217) -/

/-- A page program ends (R196): it has brought the journal stream up to a byte, in the page's fresh sectors; those of its sectors that
nothing came into hold none. -/
def State.pageProgrammed (s : State) (loc upto : Nat) : State :=
  let first := s.tier.programmed / 4096
  let upto := min upto s.tier.journalEnd
  let n := if upto ≤ s.tier.programmed then 0 else ceilDiv upto 4096 - first
  let places := (pageSectors loc).filter s.tier.fresh
  let s := ((List.range n).zip places).foldl (fun s x => s.programStream (first + x.1) upto x.2) s
  ((loc :: pageSectors loc).eraseDups.filter fun l => (alook l s.tier.flash).isNone).foldl (fun s l => s.programmed l { kind := 0xFF }) s

/-- FLASH_PROGRAM_DONE (R196, R215, R216): a page program at a location, or an erase of its block, ends; a failure retires the block. A
program may have brought the journal stream up to a byte. One in flight at a power-fail warning still ends, until write protect is
asserted, and its stripe's parity is written with it (R212). -/
def execFlashProgramDone (loc : Nat) (erase ok : Bool) (upto : Nat) (s : State) : Result :=
  .next <|
    if !s.tier.mounted || s.pwr.life == .off || s.tier.writeProtect then s
    else if reservedBlock (blockOf loc) then s
    else if !ok then s.retire (blockOf loc) (if erase then 2 else 1)
    else if erase then (if s.tier.liveIn (blockOf loc) = [] then s.eraseBlock (blockOf loc) else s)
    else
      let s := s.pageProgrammed loc upto
      (if s.pwr.failing then s.modTier Tier.sealJournal else s).settleJournal

/-- Journal sectors whose items all belong to steps at or below the settled steps are garbage (R209). -/
def State.reclaim (s : State) : State :=
  s.modTier fun t =>
    let kept := t.journal.filter fun i => decide (i.step > s.settled i.ctx)
    { t with journal := kept, stream := t.stream.filter fun y => decide (t.programmed / 4096 ≤ y.1) || kept.any fun i => i.sectors.contains y.1 }

/-- GARBAGE_COLLECTION (R209): journal items at or below the settled step of their context are reclaimed; the block's live sectors are
moved and the block is erased. -/
def execGarbageCollection (block : Nat) (s : State) : Result :=
  .next (if !s.tierRuns || reservedBlock block then s else (((s.reclaim).moveBlock block).eraseBlock block).settleJournal)

/-- Whether a block's data is older than TIER_REFIRE_AGE of powered time (R217). -/
def State.aged (s : State) (b : Nat) : Bool :=
  !reservedBlock b && (s.tier.block b).written.any fun t => decide (s.poweredTime > t + s.blk 11 0x48 * 86400000000000)

/-- Whether a block is due for re-firing (R217). -/
def State.refireDue (s : State) (b : Nat) : Bool :=
  let x := s.tier.block b
  !reservedBlock b && (x.refire || decide (x.reads ≥ 100000) || s.aged b)

/-- RE_FIRING (R217): every live sector of a due block is rewritten to a fresh block. -/
def execReFiring (block fresh : Nat) (s : State) : Result :=
  .next (if !s.tierRuns || !s.refireDue block then s else (s.refire block fresh).settleJournal)

/-- The retention survey of a mount (R213, R217): one page of each block that aged before power-off is read, and those that show a load at or
above TIER_LOAD_THRESHOLD, or reach 100,000 reads, are re-fired before the mount completes. -/
def State.survey (s : State) (loads : List (Nat × Nat)) : State :=
  loads.foldl (fun s x =>
    if !s.aged x.1 then s
    else
      let s := s.modTier fun t => t.modBlock x.1 fun b => { b with reads := b.reads + 1 }
      if min x.2 32 ≥ s.blk 11 0x50 ∨ (s.tier.block x.1).reads ≥ 100000 then
        let (f, s) := s.drawFresh
        s.refire x.1 (f % 2097152)
      else s) s

/-! ### Sector reads (R214) -/

/-- Event 0x0403, once per channel per minute (R214). -/
def State.recovered (s : State) (ch : Nat) : State :=
  let due := match alook ch s.tier.recovTold with
    | some t => decide (s.datum ≥ t + 60000000000)
    | none => true
  if due then
    let r := (alook ch s.tier.recov).getD (0, 0)
    (s.modTier fun t => { t with recovTold := aset ch s.datum t.recovTold }).raise 0x0403 (r.1 + (r.2 <<< 32) + (ch <<< 64))
  else s

/-- A sector that cannot be recovered (R214): a home is marked lost; a journal sector of a step above the settled step lowers h. A DRAM
copy of a lost home no longer equals its home: it is dirty (R200; log entry 86). -/
def State.loseSector (s : State) (loc : Nat) (journal : Option Nat) : State :=
  let s := s.modTier fun t => { t with sectorsLost := satAdd 32 t.sectorsLost 1 }
  match journal with
  | some off =>
    let hit (i : JItem) : Bool := decide (i.offset < off + 4096 ∧ off < i.offset + i.bytes)
    let items := s.tier.journal.filter fun i => hit i && decide (i.step > s.settled i.ctx)
    let s := s.modTier fun t => { t with journal := t.journal.map fun i => if hit i then { i with lost := true } else i }
    items.foldl (fun s i =>
      if (s.ctx i.ctx).hearth ≥ i.step then
        (s.modCtx i.ctx fun x => { x with hearth := i.step - 1 }).raise 0x0404
          (3 + (i.ctx <<< 16) + (((i.step - 1) % 2 ^ 64) <<< 128))
      else s) s
  | none => match s.tier.homes.find? fun h => h.2.loc == loc with
    | none => s
    | some (key, h) =>
      let c := key / 2 ^ 33
      let p := key % 2 ^ 33
      let s := s.modTier fun t => { t with homes := aset key { h with lost := true } t.homes }
      let s := match s.platEntry c p with
        | some e =>
          if e.where_ = 2 then s.setPlatEntry c p { e with lost := true }
          else if e.where_ = 1 ∧ (alook key s.tier.dirtySince).isNone then
            (s.setPlatEntry c p { e with dirty := true }).modTier fun t => { t with dirtySince := aset key (s.fullStep c e.step) t.dirtySince }
          else s
        | none => s
      s.raise 0x0404 (1 + (c <<< 16) + (p <<< 64))

/-- The sector that a stripe's other pages give (R214): exclusive-or of all of them and the parity; none when one of them fails. -/
def rebuiltSector (others : List (Option (List Byte))) : Option (List Byte) :=
  if others ≠ [] ∧ others.all Option.isSome then some (xorPages (others.filterMap id)) else none

/-- SECTOR_READ_DONE (R197, R214, R217): a read of a sector ends. The package has answered each of its attempts, the first and those of
the 8 level sets, and where all fail the other pages of the stripe; a sector on a channel out of service is read from its stripe at once
(R218), and an open stripe gives nothing. The load is counted out of 32 (R194). -/
def execSectorReadDone (r : SectorRead) (s : State) : Result :=
  .next <|
    if !s.tier.mounted || s.pwr.life == .off then s
    else
      let ch := bits r.loc 0 5
      let b := blockOf r.loc
      let s := s.modTier fun t => t.modBlock b fun x =>
        { x with reads := x.reads + 1, refire := x.refire || decide (min r.eccLoad 32 ≥ s.blk 11 0x50) || decide (x.reads + 1 ≥ 100000) }
      let out := !s.tier.serves ch
      let rebuilding := s.tier.lostChannels.any fun x => x.1 != ch && !x.2 && s.tier.stripeUses (stripeOf r.loc) x.1
      let tries := if out then [] else r.tries.take 9
      let retries := tries.findIdx (s.tier.readGood r.loc)
      let failed := retries ≥ tries.length
      let rebuilt := failed && !rebuilding && (alook (stripeOf r.loc) s.tier.stripes).isNone && s.tier.readGood r.loc (rebuiltSector r.others)
      if !failed && retries == 0 then s
      else
        let n := (alook ch s.tier.recov).getD (0, 0)
        let again := if failed then tries.length - 1 else retries
        let s := s.modTier fun t => { t with recov := aset ch (satAdd 32 n.1 again, satAdd 32 n.2 (if rebuilt then 1 else 0)) t.recov }
        let s := s.recovered ch
        let s := if failed && !rebuilt then s.loseSector r.loc r.journal else s
        if failed && !out then s.retire b 3 else s

/-! ### Channels (R218) -/

/-- CHANNEL_LOST (R218). -/
def execChannelLost (ch : Nat) (s : State) : Result := .next (if s.pwr.life = .off then s else s.loseChannel ch)

/-- CHANNEL_REBUILD_DONE (R218): every stripe that used the channel is rewritten as one of 31 channels, its live sectors in fresh stripes, at
1,024 GiB of spare. The writes are counted as those of garbage collection (R220; log entry 93). -/
def execChannelRebuildDone (ch : Nat) (s : State) : Result :=
  .next <|
    if s.tier.lostChannels.contains (ch, false) && s.pwr.life == .ready then
      let (x, s) := s.drawFresh
      let ls := s.tier.live.filter fun l => s.tier.stripeUses (stripeOf l) ch
      let s := s.moveAll ls (s.tier.nextBlock (x % 2097152))
      ((s.modTier fun t =>
        { t with lostChannels := t.lostChannels.map fun x => if x.1 = ch then (ch, true) else x
                 bytesGc := (t.bytesGc + ls.length * 4096) % 2 ^ 64 }).useSpare 1048576).settleJournal
    else s

/-! ### PREFETCH_ANNOUNCE (R204, R205) -/

/-- Parcels whose DRAM copy is neither held nor shadowed nor under migration: what could still be freed (R205). -/
def State.freeable (s : State) : Nat :=
  (s.enabledCtxs.map fun c => ((s.validLots c).flatMap fun lot => (List.range 512).filter fun i =>
    let p := lot * 512 + i
    match s.platEntry c p with
    | some e => e.where_ == 1 && !s.shadowed c p && !s.migrating c p && !s.announced c p
    | none => false).length).sum

/-- Parcels that announcements hold, over the module. -/
def State.heldParcels (s : State) : Nat := (s.ctxs.map fun x => ((x.2.announces.flatMap (·.parcels)).eraseDups).length).sum

/-- The announced parcels that are taken, in list order, up to the first limit reached (R205): how many may still be held, and how many
frames can still be found. A promotion needs a frame; a copy that is now held can no longer be freed for one. -/
def announceTake : Nat → Nat → (Nat → Bool) → List Nat → List Nat
  | _, _, _, [] => []
  | limit, free, frees, p :: rest =>
    if limit = 0 ∨ (frees p ∧ free = 0) then []
    else p :: announceTake (limit - 1) (if frees p then free - 1 else free) frees rest

/-- The body of a PREFETCH_ANNOUNCE (R204, R205). Parcels never written, lost or outside the directory, and those that it names again, are not
held and enter no count (DESIGN CHOICE, log entry 110). -/
def announceBody : Op Unit := do
  let n ← fld 24 4
  let flags ← fld 28 4
  let table ← fld 32 8
  let rows ← fld 40 8
  let list ← fld 48 8
  let delta := bits flags 0 5
  let ranges := flags.testBit 5
  need (1 ≤ n ∧ n ≤ 2 ^ 31) 24
  need (bits flags 7 3 ≤ 4) 28 7
  need (bits flags 10 22 = 0) 28 10
  if ranges then
    need (table = 0) 32
    need (rows = 0) 40
  else
    checkAddr table 32 { scratch := false, resident := false }
    need (table % 4096 = 0) 32
    need (1 ≤ rows ∧ rows * 2 ^ bits flags 7 3 ≤ 2 ^ 39) 40
  checkAddr list 48 noKilnHost
  needZero 56 72
  needEv (decide (1 ≤ delta ∧ delta ≤ (← getS).blk 11 0x0)) 0x040C
  let parcels ← if ranges then (do
      let lb ← rd list (16 * n)
      return (List.range n).flatMap fun i => (List.range (numAt lb (16 * i + 8) 8)).map fun j => numAt lb (16 * i) 8 + j)
    else (do
      let w := if flags.testBit 6 then 8 else 4
      let lb ← rd list (w * n)
      return ((List.range n).map fun i => numAt lb (w * i) w).filterMap fun r =>
        if r < rows then some ((table + r * 2 ^ bits flags 7 3 * 64) / 4096) else none)
  parcels.eraseDups.forM touchEntry
  let r ← get
  let known := parcels.eraseDups.filter fun p => match r.s.firedEntry r.c p with
    | some e => e.where_ == 1 || (e.where_ == 2 && !e.lost)
    | none => false
  let inDram (p : Nat) : Bool := ((r.s.firedEntry r.c p).map fun e => e.where_ == 1).getD false
  let fresh := known.filter fun p => !r.s.announced r.c p
  let limit := r.s.blk 11 0x8 - r.s.heldParcels
  let frees (p : Nat) : Bool := !inDram p || (!r.s.shadowed r.c p && !r.s.migrating r.c p)
  let taken := announceTake limit (r.s.freePool + r.s.freeable - r.s.tier.promoq.length) frees fresh
  let held := (known.filter fun p => r.s.announced r.c p) ++ taken
  let queued := taken.filter fun p => !inDram p
  let dropped := fresh.length - taken.length
  let step := r.s.step r.c
  onS fun s =>
    let s := s.modCtx r.c fun x => { x with announces := x.announces ++ [{ target := step + delta, by_ := step, parcels := held }] }
    s.modTier fun t => { t with promoq := t.promoq ++ (queued.map (homeKey r.c)).filter fun k => !t.promoq.contains k,
                                dropped := satAdd 32 t.dropped dropped }
  if dropped > 0 then report 0x0402 (dropped % 2 ^ 32 + ((r.pos % 2 ^ 64) <<< 64))
  modify fun q => { q with own := [(held.filter inDram).length, (held.filter fun p => !inDram p).length, dropped] }

/-- PREFETCH_ANNOUNCE (R204, R205). -/
def execPrefetchAnnounce (a : OpArg) (s : State) : Result := opCmd a s 0x60 announceBody

end Sys2Proof.Machine
end

