-- ==== Sys2Proof/Machine/Firing.lean ====
section
/-! DEFINITION. The firing commands (R232 to R252, R107, R155): CONE, CONE_BEND, CHECK_LINE, BENT, ABORT, FIRE, VOID, HEARTBEAT,
HEARTBEAT_TIMER, LOST, DIGEST, MEMBER_LOST, SWITCH, COMMIT_WALK, ROLLBACK_COMPLETE, TALLY_HELD, AUTOMATIC_CHECK_LINE,
SHADOW_RESERVE_REFILL. -/

namespace Sys2Proof.Machine

/-! ### CONE (R233) -/

/-- The queue-table record of a queue id (R97). -/
structure QueueRec where
  peer : Nat
  recv : Bool
  slots : Nat
  slotBytes : Nat
  base : Nat
deriving DecidableEq, Repr

/-- Read a record; none without a table, beyond 64 ids, or where slot_count is 0 (no record). -/
def State.queueRec (s : State) (c id : Nat) : Option QueueRec :=
  let t := s.pg c 0x078
  let a := t + 32 * id
  let n := s.memNat (a + 3) 1
  if t = 0 ∨ id ≥ 64 ∨ n = 0 ∨ n > 64 then none
  else some { peer := s.memNat a 2, recv := s.memNat (a + 2) 1 = 1, slots := n, slotBytes := s.memNat (a + 4) 4, base := s.memNat (a + 8) 8 }

/-- Read a queue-table record on behalf of the step (R174). -/
def touchQueue (id : Nat) : Op Unit := do
  let r ← get
  let t := r.s.pg r.c 0x078
  if t = 0 ∨ id ≥ 64 then return () else touchMod (t + 32 * id) 32

/-- The counts of a queue end in the step (R98). -/
def Ctx.queue (x : Ctx) (id : Nat) : QueueEnd := (x.queues.find? fun q => q.id == id).getD { id := id }

/-- Put a queue end. -/
def Ctx.setQueue (x : Ctx) (q : QueueEnd) : Ctx := { x with queues := x.queues.filter (fun r => r.id != q.id) ++ [q] }

/-- A queue with a send that is not yet released, as this end sees it (R99). -/
def unbalanced (q : QueueEnd) : Bool :=
  decide (q.sends > q.credits) || q.arrived.any (fun a => decide (a.1 ≥ q.releases)) || decide (q.recvs > q.releases)

/-- Step 1 of R233: every queue balanced. -/
def coneQueues : Op Unit := do
  (((← get).s.ctx (← opCtx)).queues).forM fun q => touchQueue q.id
  let r ← get
  match (r.s.ctx r.c).queues.find? fun q => match r.s.queueRec r.c q.id with
      | some rec => if rec.recv then unbalanced { q with sends := 0, credits := 0 } else decide (q.sends > q.credits)
      | none => false with
  | some q => throw (.stop 0x06C4 (q.id + (4 <<< 8) + ((r.pos % 2 ^ 64) <<< 64)))
  | none => return ()

/-- The code that fires for one carried group (R107), given the fired code and the step's effects on it. -/
def carriedFires (fired : Nat) (ws : List CarriedWrite) : Nat :=
  match (sortBy (fun a b => decide (a.pos ≤ b.pos)) (ws.filter fun w => w.kind == 2)).getLast? with
  | some w => w.code
  | none =>
    let conv := ws.any fun w => w.kind == 0 || w.kind == 1
    let sat := ws.any fun w => w.kind == 1
    if fired = 0xFF ∧ conv then (if sat then 0x80 else 0x7F)
    else if sat then (if fired = 0xFE then 0xFE else fired + 1)
    else fired

/-- Write back the carried codes of the step (R107). -/
def coneCarried : Op Unit := do
  let r ← get
  let ws := (r.s.ctx r.c).carried
  ((ws.map (·.addr)).eraseDups).forM fun a => do
    let fired := ofLeBytes (← rdAsFired a 1)
    let new := carriedFires fired (ws.filter fun w => w.addr == a)
    if new = fired then return () else wrNat a 1 new

/-- Step 2 of R233: the dirty records of each migration, as the step leaves them (R155). -/
def coneMigrations : Op Unit := do
  let r ← get
  (r.s.ctx r.c).migrations.forM fun m => do
    if m.dirty = 0 then return ()
    else
      let now ← rdParcel m.parcel 0 4096
      let recs := (List.range 64).filter fun i => m.dirty.testBit i
      if m.dest = 2 then
        let img := recs.foldl (fun img i => Memory.putBytes img (64 * i) ((now.drop (64 * i)).take 64)) m.image
        onS fun s => s.modCtx r.c fun x =>
          { x with migrations := x.migrations.map fun k => if k.parcel = m.parcel then { k with image := img } else k }
      else recs.forM fun i => wrMod (m.frame + 64 * i) ((now.drop (64 * i)).take 64)

/-- Step 3 of R233: the tally record, held and queued to the journal (R208, R249). A read that meets poison aborts the step; the
record's interval closes here (log entry 24). The CONE waits for frames of the free parcel pool when it is short. -/
def coneTally : Op Unit := do
  (((← get).s.ctx (← opCtx)).shadows).forM fun e => touchEntry e.1
  let r ← get
  match r.s.tallyItems r.c with
  | (s, none) => do
    putS s
    let frames := (s.ctx r.c).shadows.flatMap fun (e : Nat × Shadow) => e.2.frame :: e.2.old.toList
    let at_ := ((s.upsets.find? fun u => u.2 == Symbols.poison && frames.any fun f => decide (f ≤ u.1 ∧ u.1 < f + 4096)).map (·.1)).getD 0
    throw (.abort 0x0303 (poisonPayload at_ 0))
  | (s, some items) =>
    let n := s.step r.c
    let bytes := s.tallyRecord r.c s.datum items
    match s.takeTally (ceilDiv bytes.length 4096) with
    | none => throw (.wait .other)
    | some (fs, s) =>
      let s := s.modCtx r.c fun x => { x with tallies := x.tallies ++ [{ step := n, bytes := bytes, frames := fs }], bendDatum := s.datum }
      putS ((s.journal r.c 1 n bytes).backlogStop)

/-- The watch records that the step updated, read on behalf of the step (R114, R174): those whose run meets the threshold are reported at
the firing. -/
def coneWatches : Op Unit := do
  let ws := ((← getS).ctx (← opCtx)).watches
  let told ← ws.filterMapM fun a => do
    let bs ← rdParcel (a / 4096) (a % 4096) 8
    let threshold := numAt bs 0 2
    let run := numAt bs 4 4
    return if threshold ≠ 0 ∧ run ≠ 0 ∧ run % threshold = 0 then some (a, run) else none
  let c ← opCtx
  onS fun s => s.modCtx c fun x => { x with quiet := told }

/-- Steps 1 to 3 of R233. -/
def coneBody : Op Unit := do
  needZero 24 104
  coneQueues
  coneCarried
  coneMigrations
  coneWatches
  coneTally

/-- A CONE stopped or refused (R233, R365): outcome, with the event code in payload bytes 2 to 3 when stopped. -/
def State.failCone (s : State) (c : Nat) (w : WinOp) (outcome code payload : Nat) : State :=
  let s := (s.raiseCtx c (some w.pos) code payload).dropWin c w.pos
  (s.completeCone c w.pos (w.desc.field 4 4) outcome w.step (if outcome = 2 then code <<< 16 else 0)).ringBlock c code

/-- CONE (R233): steps 1 to 3; then the step waits for CONE_BEND. A step that a read of the firing machinery voids completes its CONE
as voided (R233, R502). -/
def execCone (a : OpArg) (s : State) : Result :=
  .next <|
    match s.winOp a.ctx a.pos with
    | none => s
    | some w =>
      if w.st ≠ .running ∨ opcodeOf w.desc ≠ 0x62 ∨ s.pwr.life ≠ .ready ∨ (s.ctx a.ctx).coneAt.isSome then s
      else
        let r : Run := { s := s, c := a.ctx, pos := a.pos, d := w.desc, hin := a.hin }
        match coneBody.run r with
        | (.ok (), r) => r.s.modCtx a.ctx fun x => { x with coneAt := some (a.pos, s.datum, w.desc.field 4 4) }
        | (.error (.refuse code payload), _) => s.failCone a.ctx w 1 code payload
        | (.error (.stop code payload), r) => r.s.failCone a.ctx w 2 code payload
        | (.error (.abort code payload), r) =>
          let s := r.s.modCtx a.ctx fun x => { x with coneAt := some (a.pos, s.datum, w.desc.field 4 4) }
          s.settleOp a.ctx w (.error (.abort code (if code = 0x0303 then payload % 2 ^ 128 else payload)), { r with s := s })
        | (.error x, r) => s.settleOp a.ctx w (.error x, r)

/-- Whether the tally record of the previous step is delivered (step 4 of R233). -/
def State.prevDelivered (s : State) (c : Nat) : Bool :=
  (s.ctx c).tallies.all fun t => decide (t.step ≥ s.step c) || t.delivered

/-- Bend the cone (step 5 of R233, R239). -/
def State.bend (s : State) (c : Nat) : State :=
  (s.modCtx c fun x => { x with step := .bent, selfBent := true, statusDirty := true }).passBent c

/-- CONE_BEND (R233 steps 4 and 5, R211): in mode 0 the backlog holds the firing, with event 0x0409 once; in mode 1 journalling stops. -/
def execConeBend (a : OpArg) (s : State) : Result :=
  .next <|
    let c := a.ctx
    let x := s.ctx c
    match x.coneAt with
    | none => s
    | some (pos, _, _) =>
      if pos ≠ a.pos ∨ x.step ≠ .running ∨ s.pwr.life ≠ .ready ∨ !s.prevDelivered c then s
      else if s.backlogOver ∧ ¬ s.tier.stopped ∧ s.blk 11 0x40 = 0 then
        (if x.backTold then s
         else (s.modCtx c fun x => { x with backTold := true }).raiseCtx c none 0x0409 ((s.tier.backlog <<< 64) + (s.step c <<< 128)))
      else ((s.backlogStop).modCtx c fun x => { x with backTold := false }).bend c

/-- TALLY_HELD (R261): step 4 of R233 has waited 10 ms for delivery; the wait continues. -/
def execTallyHeld (c : Nat) (s : State) : Result :=
  .next <|
    let x := s.ctx c
    match x.coneAt with
    | some (_, t, _) =>
      if x.step ≠ .running ∨ x.heldTold ∨ s.prevDelivered c ∨ s.datum < t + 10000000 then s
      else (s.modCtx c fun x => { x with heldTold := true }).raiseCtx c none 0x0608 (s.step c <<< 64)
    | none => s

/-! ### Receiving control packets (R234, R299) -/

/-- A control packet of R299 for an enabled context of this module: context, step, datum, originating rank, event, sender's rank,
digest, context field. -/
def State.control (s : State) (p : Packet) (ty : Nat) : Option (Nat × Nat × Nat × Nat × Nat × Nat × Nat × Nat) :=
  if s.pwr.life ≠ .ready ∨ p.type ≠ ty ∨ ¬ s.isMine p then none
  else match p.body, s.ctxOfJob p.job with
    | .control step datum orig event rank _ digest cx, some c => some (c, step, datum, orig, event, rank, digest, cx)
    | _, _ => none

/-- A control packet for another grid reference is forwarded (R300). -/
def State.passOn (s : State) (p : Packet) (ty : Nat) : State :=
  if s.pwr.life = .ready ∧ p.type = ty ∧ ¬ s.isMine p then s.forward 0 p else s

/-- BENT from a child (R234). -/
def execBent (p : Packet) (s : State) : Result :=
  .next <| match s.control p 1 with
    | none => s.passOn p 1
    | some (c, step, _, _, _, rank, _, _) =>
      if step < s.step c ∨ (s.ctx c).bentFrom.contains (rank, step) then s
      else (s.modCtx c fun x => { x with bentFrom := x.bentFrom ++ [(rank, step)] }).passBent c

/-- The leader holds an ABORT before it has sent FIRE: VOID to every member, and its own step is voided (R234, R235). -/
def State.leaderVoid (s : State) (c orig code : Nat) : State :=
  ((s.beginVoid c orig code).ctlDown c .void (s.step c) 0 orig code).modCtx c fun x => { x with voidSent := true }

/-- An ABORT that arrives from a child (R234, R235): another member passes it toward the leader and stays as it is; the leader sends VOID
unless it has sent FIRE, and its own step is voided, in doubt before it stops (R239). -/
def State.abortArrives (s : State) (c orig code : Nat) : State :=
  let x := s.ctx c
  if x.step = .armed ∨ x.loading then s
  else if s.rank c ≠ 0 then s.sendCtl c (treeParent (s.rank c)) .abort (s.step c) 0 orig code 0 0 0
  else
    let void (s : State) : State := (s.ctlDown c .void (s.step c) 0 orig code).modCtx c fun x => { x with voidSent := true }
    match x.step with
    | .running => s.leaderVoid c orig code
    | .bent => s.leaderVoid c orig code
    | .inDoubt => (s.modCtx c fun x => { x with stopAfter := true }).leaderVoid c orig code
    | .voiding => if x.voidSent then s else void s
    | .stopped => if x.voidSent then s else void s
    | .armed => s

def execAbort (p : Packet) (s : State) : Result :=
  .next <| match s.control p 2 with
    | none => s.passOn p 2
    | some (c, step, _, orig, code, _, _, _) => if step ≠ s.step c then s else s.abortArrives c orig code

/-- FIRE (R236, R237, R239): passed on to the children; a step that is RUNNING or VOIDING cannot meet it. -/
def execFire (p : Packet) (s : State) : Result :=
  match s.control p 3 with
  | none => .next (s.passOn p 3)
  | some (c, step, d, _, _, _, _, _) =>
    if step ≠ s.step c ∨ (s.ctx c).loading then .next s
    else
      let down (s : State) : State := s.ctlDown c .fire step d 0 0
      match (s.ctx c).step with
      | .running => .refused (.cannotOccur "FIRE")
      | .voiding => .refused (.cannotOccur "FIRE")
      | .armed => .next s
      | .stopped => .next s
      | .bent =>
        if s.datum > d then .next ((down s).fireLate c d)
        else .next ((down s).modCtx c fun x => { x with fireD := some d, step := .armed })
      | .inDoubt =>
        let s := (down s).modCtx c fun x => { x with stopAfter := true }
        if s.datum > d then .next (s.fireLate c d) else .next (s.switchAt c d)

/-- VOID (R234, R239, R241): passed on to the children; an ARMED step cannot meet it. -/
def execVoid (p : Packet) (s : State) : Result :=
  match s.control p 4 with
  | none => .next (s.passOn p 4)
  | some (c, step, _, orig, code, _, _, _) =>
    if step ≠ s.step c ∨ (s.ctx c).loading then .next s
    else
      let down (s : State) : State := s.ctlDown c .void step 0 orig code
      match (s.ctx c).step with
      | .running => .next ((down s).beginVoid c orig code)
      | .bent => .next ((down s).beginVoid c orig code)
      | .armed => .refused (.cannotOccur "VOID")
      | .inDoubt => .next (((down s).modCtx c fun x => { x with stopAfter := true }).beginVoid c orig code)
      | .voiding => .next (down s)
      | .stopped => .next s

/-- HEARTBEAT (R234): it shows that the neighbour lives; MEMBER_LOST is the command of its absence. -/
def execHeartbeat (p : Packet) (s : State) : Result := .next (s.passOn p 5)

/-- HEARTBEAT_TIMER (R234): F and the state on a tree link that has carried no other message for 1 ms. -/
def execHeartbeatTimer (c rank : Nat) (s : State) : Result :=
  .next <|
    if s.pwr.life ≠ .ready ∨ ¬ (s.ctx c).enabled ∨ ¬ (s.treeLinks c).contains rank then s
    else s.sendCtl c rank .heartbeat (s.ctx c).fired 0 0 0 (s.ctx c).step.code 0 0

/-- A loss is applied once per rank: noted, spread on the tree links but one, and the column of R239 (R234). -/
def State.applyLoss (s : State) (c r : Nat) (except : Option Nat) : State :=
  ((s.modCtx c fun x => { x with lostRanks := x.lostRanks ++ [r] }).spreadLoss c r except).loseMember c r

/-- MEMBER_LOST (R234): this member finds a neighbour in the tree lost itself; event 0x0605. -/
def execMemberLost (c rank : Nat) (s : State) : Result :=
  .next <|
    let x := s.ctx c
    if s.pwr.life ≠ .ready ∨ ¬ x.enabled ∨ x.lostRanks.contains rank ∨ ¬ (s.treeLinks c).contains rank then s
    else (s.raiseCtx c none 0x0605 rank).applyLoss c rank none

/-- LOST (R234): the first that names a rank. -/
def execLost (p : Packet) (s : State) : Result :=
  .next <| match s.control p 7 with
    | none => s.passOn p 7
    | some (c, _, _, r, _, rank, _, _) => if (s.ctx c).lostRanks.contains r then s else s.applyLoss c r (some rank)

/-! ### Switch, walk, rollback (R236, R241) -/

/-- SWITCH (R236): the datum has reached D. -/
def execSwitch (c : Nat) (s : State) : Result :=
  .next <|
    let x := s.ctx c
    match x.fireD with
    | some d => if x.step = .armed ∧ s.datum ≥ d ∧ s.pwr.life = .ready then s.switchAt c d else s
    | none => s

/-- COMMIT_WALK (R236). -/
def execCommitWalk (c : Nat) (s : State) : Result := .next (if s.pwr.life = .ready then s.walk c else s)

/-- ROLLBACK_COMPLETE (R241). -/
def execRollbackComplete (c : Nat) (s : State) : Result :=
  .next (if (s.ctx c).step = .voiding ∧ s.pwr.life = .ready then s.finishVoid c else s)

/-- Fill a die's reserve up to 6 % from its free parcel pool (R231). -/
def Frames.refill (f : Frames) : Frames :=
  let k := min (4529848 - f.reserve) f.pool
  { f with reserve := f.reserve + k, pool := f.pool - k }

/-- SHADOW_RESERVE_REFILL (R231): each die's reserve up to 6 % from its free parcel pool. A refill that finds the pool short goes on while
the tier engine can demote. -/
def execShadowReserveRefill (s : State) : Result :=
  .next <|
    if s.pwr.life ≠ .ready then s
    else
      let s := { s with frames0 := s.frames0.refill, frames1 := s.frames1.refill }.watchPool
      let full := decide (4529848 ≤ s.frames0.reserve) && decide (4529848 ≤ s.frames1.reserve)
      let more := s.tier.mounted && s.enabledCtxs.any fun c => (s.dramParcels c).any fun p => s.demotable c p
      { s with refilling := !full && more }

/-! ### Check lines (R250 to R252) -/

/-- The body of a CHECK_LINE (R251). -/
def checkLineBody : Op Unit := do
  let n ← fld 24 4
  let list ← fld 32 8
  let out ← fld 40 8
  need (1 ≤ n ∧ n ≤ 65536) 24
  needZero 28 4
  checkAddr list 32 { resident := false }
  checkAddr out 40 { resident := false }
  needZero 48 80
  let lb ← rd list (16 * n)
  let ps := (List.range n).flatMap fun i => (List.range (numAt lb (16 * i + 8) 8)).map fun j => numAt lb (16 * i) 8 + j
  let contents ← ps.mapM fun p => do return (p, ← rdFired p 0 4096)
  wr out (leBytes 16 (checkDigest contents))

/-- CHECK_LINE (R251). -/
def execCheckLine (a : OpArg) (s : State) : Result := opCmd a s 0x61 checkLineBody

/-- How many of the digests of a list equal one. -/
def countEq (ds : List (Nat × Nat)) (v : Nat) : Nat := (ds.filter fun d => d.2 == v).length

/-- The digest held by most members, or rank 0's on a tie (R252). -/
def majority (ds : List (Nat × Nat)) : Nat :=
  let best := ds.foldl (fun m d => max m (countEq ds d.2)) 0
  let tops := (ds.filterMap fun d => if countEq ds d.2 = best then some d.2 else none).eraseDups
  match tops with
  | [v] => v
  | _ => (alook 0 ds).getD 0

/-- Event 0x0607 on this member, and on those below it: R299 names no message for it, so a DIGEST that carries the event goes down the
control tree with the first differing rank and how many differ (R252; log entry 25). -/
def State.tellMismatch (s : State) (c step first count : Nat) : State :=
  let s := s.raiseCtx c none 0x0607 (count % 2 ^ 32 + ((first % 65536) <<< 32) + (c <<< 48) + ((step % 2 ^ 64) <<< 64))
  (treeChildren (s.rank c) (s.members c)).foldl (fun s r => s.sendCtl c r .digest step 0 first 0x0607 0 count 0) s

/-- The leader compares the digests of a step once it has all of them (R252). -/
def State.compareDigests (s : State) (c step : Nat) : State :=
  let ds := ((s.ctx c).digests.filter fun d => d.2.1 == step).map fun d => (d.1, d.2.2)
  if ds.length < s.members c then s
  else
    let v := majority ds
    let bad := sortBy (fun a b => decide (a ≤ b)) ((ds.filter fun d => d.2 != v).map (·.1))
    let s := s.modCtx c fun x => { x with digests := x.digests.filter fun d => d.2.1 != step }
    match bad with
    | [] => s
    | r :: _ => s.tellMismatch c step r bad.length

/-- Take a digest at the leader. -/
def State.holdDigest (s : State) (c rank step v : Nat) : State :=
  if (s.ctx c).digests.any fun d => d.1 == rank && d.2.1 == step then s
  else (s.modCtx c fun x => { x with digests := x.digests ++ [(rank, step, v)] }).compareDigests c step

/-- AUTOMATIC_CHECK_LINE (R252): the digest of the checked lots as fired, to the leader through the control tree. -/
def execAutomaticCheckLine (c : Nat) (s : State) : Result :=
  .next <|
    let x := s.ctx c
    match x.checkDue with
    | [] => s
    | (n, v) :: rest =>
      if s.pwr.life ≠ .ready ∨ ¬ x.enabled then s
      else
        let s := s.modCtx c fun x => { x with checkDue := rest }
        if s.rank c = 0 then s.holdDigest c 0 n v
        else s.sendCtl c (treeParent (s.rank c)) .digest n 0 0 0 0 v c

/-- DIGEST (R252): the leader holds it; another member passes it up the tree, or down it the mismatch that its parent tells. -/
def execDigest (p : Packet) (s : State) : Result :=
  .next <| match s.control p 6 with
    | none => s.passOn p 6
    | some (c, step, _, orig, event, rank, v, _) =>
      if s.rank c = 0 then s.holdDigest c rank step v
      else if event = 0x0607 then if rank = treeParent (s.rank c) then s.tellMismatch c step orig v else s
      else s.sendPacket { p with dest := s.gridOf c (treeParent (s.rank c)), src := s.gridRef, hops := 0 }

end Sys2Proof.Machine
end

