-- ==== Sys2Proof/Machine/Collectives.lean ====
section
/-! DEFINITION. The collective commands (R317 to R341): ALL_REDUCE, REDUCE_SCATTER, ALL_GATHER, EXCHANGE, PERMUTE, BROADCAST, READY,
DATA, FINISH, COLLECTIVE_WAIT_LONG; and the pipeline queues (R97 to R102, R330): QUEUE_SEND, QUEUE_RECV, QUEUE_RELEASE, QUEUE_DATA,
QUEUE_CREDIT. -/

namespace Sys2Proof.Machine

/-! ### Operations -/

/-- A collective operation: it starts once, and each command carries it on (R328, R329). -/
def collBodyOp : Op Bool := do
  let r ← get
  if ((r.s.ctx r.c).coll r.pos).isNone then collStart
  collPass

/-- A collective command: its operation, when its opcode is the one named. -/
def collCmd (a : OpArg) (s : State) (opc : Nat) : State :=
  match s.winOp a.ctx a.pos with
  | none => s
  | some w => if opcodeOf w.desc = opc then s.runColl a.ctx a.pos a.hin collBodyOp else s

/-- ALL_REDUCE (R323, R324). -/
def execAllReduce (a : OpArg) (s : State) : Result := .next (collCmd a s 0x40)
/-- REDUCE_SCATTER (R323, R324). -/
def execReduceScatter (a : OpArg) (s : State) : Result := .next (collCmd a s 0x41)
/-- ALL_GATHER (R323, R325). -/
def execAllGather (a : OpArg) (s : State) : Result := .next (collCmd a s 0x42)
/-- EXCHANGE (R326). -/
def execExchange (a : OpArg) (s : State) : Result := .next (collCmd a s 0x43)
/-- PERMUTE (R327, R334). -/
def execPermute (a : OpArg) (s : State) : Result := .next (collCmd a s 0x44)
/-- BROADCAST (R323, R325). -/
def execBroadcast (a : OpArg) (s : State) : Result := .next (collCmd a s 0x45)

/-- COLLECTIVE_WAIT_LONG (R338): event 0x0543 once for a wait, naming the first peer that is awaited and for what. -/
def execCollectiveWaitLong (c pos : Nat) (s : State) : Result :=
  .next <|
    match s.winOp c pos, (s.ctx c).coll pos with
    | some w, some k =>
      match k.awaits with
      | some (rank, what) =>
        if w.told then s
        else (s.modWin c pos fun v => { v with told := true }).raiseCtx c (some pos) 0x0543
          (k.who rank + (what <<< 40) + ((pos % 2 ^ 64) <<< 128))
      | none => s
    | _, _ => s

/-! ### Packets (R329 to R331, R337) -/

/-- How a packet's step and attempt stand to the context's own, modulo 16 (R331). -/
inductive Age where
  | behind | current | ahead
deriving DecidableEq, Repr

/-- R331. Packets of an attempt that is being voided are behind (R338). -/
def State.age (s : State) (c step attempt : Nat) : Age :=
  let x := s.ctx c
  let ds := (step + 16 - s.step c % 16) % 16
  let da := (attempt + 16 - x.attempt % 16) % 16
  if ds = 0 then (if da = 0 then (if x.step = .voiding then .behind else .current) else if da < 8 then .ahead else .behind)
  else if ds < 8 then .ahead else .behind

/-- Discard a packet that is behind (R331): counted, with event 0x0546 at most once per port per millisecond. The port is the primary
of the route toward its sender. -/
def State.stalePacket (s : State) (c : Nat) (p : Packet) : State :=
  let port := (primaryOf (s.route p.src)).getD 0
  let tell (s : State) (n : Nat) : State := s.raiseCtx c none 0x0546 (min n (2 ^ 32 - 1) + (port <<< 32))
  match (s.port port).stale with
  | some (t, n) =>
    if s.datum < t + 1000000 then s.modPort port fun x => { x with stale := some (t, n + 1) }
    else tell (s.modPort port fun x => { x with stale := some (s.datum, 0) }) (n + 1)
  | none => tell (s.modPort port fun x => { x with stale := some (s.datum, 0) }) 1

/-- A data packet for this module: its context and the sender's job rank. -/
def State.jobPacket (s : State) (p : Packet) : Option (Nat × Nat) :=
  (s.ctxOfJob p.job).bind fun c => ((List.range (s.members c)).find? fun k => s.gridOf c k == p.src % 2 ^ 14).map fun k => (c, k)

/-- A data packet of type `ty`, as this module meets it: forwarded when it is for another, discarded when no context here holds its
job or its sender is no member (R298, R300); else `f`. -/
def State.onData (s : State) (p : Packet) (ty : Nat) (f : Nat → Nat → Result) : Result :=
  if s.pwr.life ≠ .ready ∨ p.type ≠ ty then .next s
  else if ¬ s.isMine p then .next (s.forward 0 p)
  else match s.jobPacket p with
    | none => .next (s.discard ((primaryOf (s.route p.src)).getD 0) p)
    | some (c, k) => f c k

/-- The collective in flight of a tag and sequence. -/
def Ctx.collOf (x : Ctx) (tag seq : Nat) : Option Coll := x.colls.find? fun k => k.tag == tag && k.seq == seq

/-- The pass of a collective that a READY has met: the lag of its sender is noted first (R340). -/
def readyPass (rank start : Nat) : Op Bool := do
  noteLag rank ((start : Int) - (← getColl).start)
  collPass

/-- Carry a collective on after a packet. -/
def State.carryOn (s : State) (c : Nat) (k : Coll) : State := s.runColl c k.pos [] collPass

/-- Whether a READY has neither a collective to meet nor one of the 64 records: it waits in the buffer of VC1 (R329). -/
def State.readyWaits (s : State) (p : Packet) : Bool :=
  p.type == 0x20 && s.isMine p &&
    match s.jobPacket p, p.body with
    | some (c, _), .ready seq tag attempt step _ _ _ _ _ =>
      decide ((s.ctx c).earlyReady.length ≥ 64) &&
        (match s.age c step attempt with
         | .behind => false
         | .ahead => true
         | .current => ((s.ctx c).collOf tag seq).isNone)
    | _, _ => false

/-- READY (R329 to R331, R337, R340). One that must wait does so at the port of the route toward its sender. -/
def execReady (p : Packet) (s : State) : Result :=
  s.onData p 0x20 fun c rank =>
    if s.readyWaits p then
      .next (s.modPort ((primaryOf (s.route p.src)).getD 0) fun x => { x with vc1wait := x.vc1wait ++ [p] })
    else match p.body with
    | .ready seq tag attempt step epoch opcode sendBytes recvBytes start =>
      let e : EarlyReady := { tag := tag, seq := seq, rank := rank, opcode := opcode, sendBytes := sendBytes, recvBytes := recvBytes,
                              start := start, epoch := epoch, step := step, attempt := attempt }
      let keep (s : State) : State := s.modCtx c fun x => { x with earlyReady := x.earlyReady ++ [e] }
      match s.age c step attempt with
      | .behind => .next (s.stalePacket c p)
      | .ahead => .next (keep s)
      | .current =>
        match (s.ctx c).collOf tag seq with
        | none => .next (keep s)
        | some k =>
          match s.matchReady c k e with
          | .ok s => .next (s.runColl c k.pos [] (readyPass rank start))
          | .error (code, payload) => .next (s.runColl c k.pos [] (throw (.abort code payload)))
    | _ => .next s

/-- DATA (R329, R331, R337). -/
def execData (p : Packet) (s : State) : Result :=
  s.onData p 0x21 fun c rank =>
    match p.body with
    | .data seq tag attempt step epoch offset payload =>
      match s.age c step attempt with
      | .behind => .next (s.stalePacket c p)
      | .ahead => .refused (.cannotOccur "DATA")
      | .current =>
        match (s.ctx c).collOf tag seq with
        | none => .next s
        | some k =>
          if epoch ≠ k.epoch then
            .next (s.runColl c k.pos [] (throw (.abort 0x0540 (k.who rank + (epoch <<< 64) + (k.epoch <<< 96)))))
          else
            let s := s.modColl c k.pos fun k =>
              { k.modPeer rank (fun q =>
                  { q with got := q.got + payload.length, buf := Memory.putBytes q.buf offset payload,
                           marks := q.marks ++ [(q.got + payload.length, k.clock)] }) with clock := k.clock + 1 }
            .next (s.carryOn c k)
    | _ => .next s

/-- FINISH (R329, R331). -/
def execFinish (p : Packet) (s : State) : Result :=
  s.onData p 0x22 fun c rank =>
    match p.body with
    | .finish seq tag attempt step _ _ =>
      match s.age c step attempt with
      | .behind => .next (s.stalePacket c p)
      | .ahead => .refused (.cannotOccur "FINISH")
      | .current =>
        match (s.ctx c).collOf tag seq with
        | none => .next s
        | some k => .next ((s.modColl c k.pos fun k => k.modPeer rank fun q => { q with finGot := true }).carryOn c k)
    | _ => .next s

/-! ### Tray accesses of the queue engine (R164, R312) -/

/-- The tray slot that a tray address names when it is not this module's own (R164, R312). -/
def State.trayOf (s : State) (a : Nat) : Option Nat :=
  if bits a 40 3 = s.gridRef % 8 then none else some (bits a 40 3)

/-- Payload of 0x0507 (R502). -/
def trayPayload (slot : Nat) (read : Bool) (cause a : Nat) : Nat := slot % 256 + ((if read then 1 else 0) <<< 8) + (cause <<< 16) + (a <<< 64)

/-- A refused tray access on behalf of a step counts as a collective abort: the step is not fired and the job stops (R312, R306). -/
def State.trayAbort (s : State) (job : Nat) : State :=
  match s.ctxOfJob job with
  | some c =>
    if (s.ctx c).step = .running ∧ ¬ (s.ctx c).loading then
      (s.abortStep c (s.rank c) 0x0507).modCtx c fun x => { x with stopAfter := true }
    else s
  | none => s

/-- Write bytes to a module of the tray by a tray-access packet; with the route's port neither UP nor DEGRADED the access is not performed
(R312). -/
def State.trayWrite (s : State) (c slot a : Nat) (bs : List Byte) : State :=
  let dest := s.gridRef / 8 * 8 + slot
  match s.portTo dest false with
  | none => (s.raise 0x0507 (trayPayload slot false 1 a)).trayAbort (s.job c)
  | some _ =>
    s.sendPacket { dest := dest, src := s.gridRef, vc := 1, type := 0x1A, slots := ceilDiv (16 + bs.length) 64, hops := 0, job := s.job c,
                   body := .tray a bs.length bs }

/-! ### Pipeline queues (R97 to R102) -/

/-- The record of the queue that a queue operation names, or event 0x06C4 (R98): cause 2 without a record, 3 against its direction. -/
def queueOp (recv : Bool) : Op (Nat × QueueRec) := do
  let r ← get
  let id ← fld 24 1
  let bad (cause : Nat) : Stop := .refuse 0x06C4 (id + (cause <<< 8) + ((r.pos % 2 ^ 64) <<< 64))
  needZero 25 7
  touchQueue id
  match r.s.queueRec r.c id with
  | none => throw (bad 2)
  | some q => if q.recv = recv then return (id, q) else throw (bad 3)

/-- The counts of the queue end. -/
def getQueue (id : Nat) : Op QueueEnd := do
  let r ← get
  return (r.s.ctx r.c).queue id

/-- Change the counts of the queue end. -/
def onQueue (id : Nat) (f : QueueEnd → QueueEnd) : Op Unit := do
  let r ← get
  onS fun s => s.modCtx r.c fun x => x.setQueue (f (x.queue id))

/-- A queue packet to a job rank (R330). -/
def State.queuePacket (s : State) (c rank type slots : Nat) (body : PBody) : State :=
  s.sendPacket { dest := s.gridOf c rank, src := s.gridRef, vc := 2, type := type, slots := slots, hops := 0, job := s.job c, body := body }

/-- The packets of one send: a send below slot_bytes ends with a packet shorter than the largest (log entry 20). -/
def cutSend (bs : List Byte) (slotBytes : Nat) : List (Nat × List Byte) :=
  cutStream bs ++ (if bs.length < slotBytes ∧ bs.length % maxPayload = 0 then [(bs.length, [])] else [])

/-- QUEUE_SEND (R98): fills the next slot on the peer and takes a credit; waits without one. Body: queue id at 24, source at 32,
bytes at 40 (log entry 20). -/
def queueSendBody : Op Unit := do
  let (id, q) ← queueOp false
  let src ← fld 32 8
  let n ← fld 40 8
  let r ← get
  checkAddr src 32 { resident := false }
  needZero 48 80
  if n > q.slotBytes then throw (.refuse 0x06C4 (id + (1 <<< 8) + ((r.pos % 2 ^ 64) <<< 64)))
  let e ← getQueue id
  if e.sends ≥ e.credits + q.slots then throw (.wait .queueCredit)
  let bs ← rd src n
  onS fun s => (cutSend bs q.slotBytes).foldl (fun s x =>
    s.queuePacket r.c q.peer 0x28 (dataSlots x.2.length)
      (.queueData id ((s.ctx r.c).attempt % 16) (s.step r.c % 16) (e.sends % 65536) x.1 x.2)) s
  onQueue id fun e => { e with sends := e.sends + 1 }

def execQueueSend (a : OpArg) (s : State) : Result := opCmd a s 0x48 queueSendBody

/-- Address of the slot of a receive or release number (R98). -/
def QueueRec.slot (q : QueueRec) (n : Nat) : Nat := q.base + n % q.slots * q.slotBytes

/-- QUEUE_RECV (R98): waits until the next slot has fully arrived, and completes with its address, its two halves as the operation's
own counts. -/
def queueRecvBody : Op Unit := do
  let (id, q) ← queueOp true
  needZero 32 96
  let e ← getQueue id
  if (alook e.recvs e.sizes).isNone then throw (.wait .queueArrival)
  onQueue id fun e => { e with recvs := e.recvs + 1 }
  let a := q.slot e.recvs
  modify fun r => { r with own := [a % 2 ^ 32, a / 2 ^ 32 % 2 ^ 32] }

def execQueueRecv (a : OpArg) (s : State) : Result := opCmd a s 0x49 queueRecvBody

/-- QUEUE_RELEASE (R98): the credit of the next slot returns to the sender. -/
def queueReleaseBody : Op Unit := do
  let (id, q) ← queueOp true
  needZero 32 96
  let e ← getQueue id
  let r ← get
  onS fun s => s.queuePacket r.c q.peer 0x29 1
    (.queueCredit id ((s.ctx r.c).attempt % 16) (s.step r.c % 16) (e.releases % 65536) 1)
  onQueue id fun e => { e with releases := e.releases + 1 }

def execQueueRelease (a : OpArg) (s : State) : Result := opCmd a s 0x4A queueReleaseBody

/-- Put the bytes of a queue packet into its slot; a poisoned or reserved burst aborts the step (R240). A slot in another module of the tray
is reached by a tray access (R312). -/
def State.putSlot (s : State) (c base offset : Nat) (bs : List Byte) : State :=
  let a := bits base 0 40 + offset
  match s.trayOf base with
  | none => s.engineOp c (wrMod a bs)
  | some slot => s.trayWrite c slot a bs

/-- QUEUE_DATA (R98, R330): into its slot; a packet that ends the send makes the slot full. -/
def execQueueData (p : Packet) (s : State) : Result :=
  s.onData p 0x28 fun c rank =>
    match p.body with
    | .queueData id attempt step number offset payload =>
      match s.age c step attempt with
      | .behind => .next (s.stalePacket c p)
      | .ahead => .refused (.cannotOccur "QUEUE_DATA")
      | .current =>
        let s := s.engineOp c (touchQueue id)
        match s.queueRec c id with
        | none => .next (s.discard ((primaryOf (s.route p.src)).getD 0) p)
        | some q =>
          if !q.recv ∨ q.peer ≠ rank then .next (s.discard ((primaryOf (s.route p.src)).getD 0) p)
          else
            let e := (s.ctx c).queue id
            let n := e.releases + (number + 65536 - e.releases % 65536) % 65536
            let have_ := (alook n e.arrived).getD 0 + payload.length
            let full := decide (payload.length < maxPayload ∨ have_ ≥ q.slotBytes)
            let s := s.putSlot c (q.slot n) offset payload
            .next (s.modCtx c fun x => x.setQueue
              { e with arrived := aset n have_ e.arrived, sizes := if full then aset n have_ e.sizes else e.sizes })
    | _ => .next s

/-- QUEUE_CREDIT (R98, R330). -/
def execQueueCredit (p : Packet) (s : State) : Result :=
  s.onData p 0x29 fun c _ =>
    match p.body with
    | .queueCredit id attempt step _ credits =>
      match s.age c step attempt with
      | .behind => .next (s.stalePacket c p)
      | .ahead => .refused (.cannotOccur "QUEUE_CREDIT")
      | .current => .next (s.modCtx c fun x => x.setQueue { x.queue id with credits := (x.queue id).credits + credits })
    | _ => .next s

end Sys2Proof.Machine
end

