-- ==== Sys2Proof/Machine/StepControl.lean ====
section
/-! DEFINITION. FLUE_STEP_CONTROL (R243) and what its actions do: STEP_ABORT, RESOLVE_TO_FIRE, RESOLVE_TO_VOID, LOAD, SEAL,
RESTORE_FROM_HEARTH (R238, R240, R255, R256, R210). -/

namespace Sys2Proof.Machine

/-! ### The hearth image (R207, R210) -/

/-- The tally record of a step as the journal holds it, and whether its fired marker follows: those of the last attempt (R208), durable and
not lost. -/
def Tier.recordOf (t : Tier) (c n : Nat) : Option (List Byte) × Bool :=
  let good := (t.attempt c n).filter fun i => i.durable && !i.lost
  ((good.find? fun i => i.type == 1).map (·.body), good.any fun i => i.type == 2)

/-- The parcel items of a record's bytes (R246): parcel, encoding, body. -/
def parseItems : Nat → List Byte → List (Nat × Nat × List Byte)
  | 0, _ => []
  | k + 1, bs =>
    if bs.length < 8 then []
    else
      let h := ofLeBytes (bs.take 8)
      let len := bits h 35 13
      (bits h 0 33, bits h 33 2, (bs.drop 8).take len) :: parseItems k (bs.drop (8 + (len + 7) / 8 * 8))

/-- The items of a whole tally record (R244 to R246). -/
def recordItems (r : List Byte) : List (Nat × Nat × List Byte) :=
  parseItems (ofLeBytes ((r.drop 56).take 4)) (r.drop (192 + 16 * ofLeBytes ((r.drop 132).take 4)))

/-- Apply an XOR body to contents (R247). -/
def applyXor (old body : List Byte) : List Byte :=
  let mask := ofLeBytes (body.take 8)
  ((List.range 64).foldl (fun (acc : List Byte × List Byte) i =>
    let g := (old.drop (64 * i)).take 64
    if !mask.testBit i then (acc.1, acc.2 ++ g)
    else
      let bm := ofLeBytes (acc.1.take 8)
      let (rest, out) := (List.range 64).foldl (fun (a : List Byte × List Byte) j =>
        let x := g.getD j 0
        if bm.testBit j then (a.1.tail, a.2 ++ [x ^^^ a.1.headD 0]) else (a.1, a.2 ++ [x])) (acc.1.drop 8, [])
      (rest, acc.2 ++ out)) (body.drop 8, [])).2

/-- Apply one item of fired step n to a parcel whose home is older (R210). A lost home stays lost under an item that changes only some of its
bytes (R214). With no frame free the parcel goes to a new home; where the user capacity leaves none, it is lost (R214, R215). -/
def State.applyItem (s : State) (c n : Nat) (it : Nat × Nat × List Byte) : State :=
  let (p, enc, body) := it
  let key := homeKey c p
  let old : Bool := match alook key s.tier.homes with
    | some h => decide (h.step < n)
    | none => true
  match s.platEntry c p with
  | none => s
  | some e =>
    if e.where_ ≠ 1 ∧ (¬ old ∨ (e.lost ∧ enc = 1)) then s
    else
      let new := if enc = 1 then applyXor (s.firedBytes c p) body else body
      let done (s : State) (f : Nat) : State :=
        let s := s.engineWrite c f new
        let s := s.modTier fun t => { t with dirtySince := if (alook key t.dirtySince).isSome then t.dirtySince else aset key n t.dirtySince,
                                             lastUse := aset key s.datum t.lastUse }
        s.setPlatEntry c p { where_ := 1, dirty := true, frame := f, step := n % 2 ^ 28 }
      if e.where_ = 1 then done s e.frame
      else match s.takePool s.poolDie with
        | some (f, s) => done s f
        | none =>
          if s.mayHome c p then
            let (loc, s) := s.freshLoc
            ((s.setHome c p n new loc).checkFull).setPlatEntry c p { where_ := 2, step := n % 2 ^ 28 }
          else (s.checkFull).setPlatEntry c p { e with lost := true }

/-- Restore a context's state from its hearth image to step r (R210): homes, then the records of fired steps in order. -/
def State.restoreTo (s : State) (c r : Nat) : State :=
  let s := s.walk c
  let s := (s.platFrames c).foldl (fun s f => s.givePool f) s
  let s := s.modTier fun t =>
    { t with dirtySince := dropCtx c t.dirtySince, lastUse := dropCtx c t.lastUse, placed := dropCtx c t.placed }
  let s := (s.validLots c).foldl (fun s lot => s.engineWrite c (bits (s.lotEntry c (512 * lot)) 12 28 * 4096) (List.replicate 4096 0)) s
  let s := (s.tier.homes.filter fun h => h.1 / 2 ^ 33 == c).foldl (fun s h =>
    s.setPlatEntry c (h.1 % 2 ^ 33) { where_ := 2, lost := h.2.lost, step := h.2.step % 2 ^ 28 }) s
  let steps := sortBy (fun a b => decide (a ≤ b)) ((s.tier.journal.filter fun i => i.ctx == c && i.type == 1 && decide (i.step ≤ r)).map (·.step)).eraseDups
  steps.foldl (fun s n =>
    match s.tier.recordOf c n with
    | (some rec, fired) => if fired ∨ n = r then (recordItems rec).foldl (fun s it => s.applyItem c n it) s else s
    | (none, _) => s) s

/-! ### The actions (R243) -/

/-- The value of FLUE_STEP_CONTROL that names a context, an action and a step. -/
def stepWord (c action step : Nat) : Nat := c % 1024 + (action <<< 10) + ((step % 2 ^ 48) <<< 16)

/-- The records of a write of v to FLUE_STEP_CONTROL (R437). -/
def State.logStep (s : State) (src : Src) (v : Nat) : State :=
  (s.record 2 0 0xFFFF 0 (sourceBody src (blockAddr 0 0x18) v)).record 4 0 (v % 1024) 0 (sourceBody src 0 v)

/-- Whether the step field names the context's current step. -/
def State.stepMatches (s : State) (c step : Nat) : Bool := step % 2 ^ 48 == s.step c % 2 ^ 48

/-- Action 1: abort, in RUNNING only (R240, R241). -/
def State.actAbort (s : State) (c step : Nat) : State :=
  let x := s.ctx c
  if x.enabled ∧ x.step = .running ∧ s.stepMatches c step then s.abortStep c (s.rank c) 0 else s

/-- Action 2: a member in doubt switches on the resolution, then STOPPED (R238, R239). D is the datum of the resolution. -/
def State.actFire (s : State) (c step : Nat) : State :=
  let x := s.ctx c
  if x.enabled ∧ x.step = .inDoubt ∧ s.stepMatches c step then
    (s.modCtx c fun x => { x with stopAfter := true }).switchAt c s.datum
  else s

/-- Action 3: a member in doubt voids its step, then STOPPED (R238, R241). -/
def State.actVoid (s : State) (c step : Nat) : State :=
  let x := s.ctx c
  if x.enabled ∧ x.step = .inDoubt ∧ s.stepMatches c step then
    (s.modCtx c fun x => { x with stopAfter := true }).beginVoid c (s.rank c) 0x0603
  else s

/-- Action 4: a STOPPED context enters LOADING; its launch is cancelled and its sequences are closed (R255, R399, R270). -/
def State.actLoad (s : State) (c : Nat) : State :=
  let x := s.ctx c
  if x.enabled ∧ x.step = .stopped ∧ ¬ x.loading then
    (((s.cancelLaunch c).closeSeqs c).modCtx c fun x => { x with loading := true, fresh := false, statusDirty := true }).settleKilns c
  else s

/-- Set F; operations already fetched belong to the steps that follow it. -/
def State.setFired (s : State) (c f : Nat) : State :=
  s.modCtx c fun x => { x with fired := f, loading := false, fresh := false, statusDirty := true,
                               window := x.window.map fun w => { w with step := w.step - x.fired + f } }

/-- What a seal at f means to the hearth image (R209; log entry 84): steps beyond f are no fired steps, their items are dead and a copy that
was dirty since one of them is dirty since f; from a step above h the hearth step goes on once every copy dirty since it is cleaned. -/
def State.sealHearth (s : State) (c f : Nat) : State :=
  let s := s.modTier fun t =>
    { t with journal := t.journal.filter fun i => i.ctx != c || decide (i.step ≤ f),
             dirtySince := t.dirtySince.map fun x => if x.1 / 2 ^ 33 = c then (x.1, min x.2 f) else x }
  (s.modCtx c fun x => { x with hearth := min x.hearth f, rebase := if f > x.hearth then some f else none }).raiseHearth c

/-- Action 5: seal (R255); event 0x0609 when F falls. -/
def State.actSeal (s : State) (c step : Nat) : State :=
  let x := s.ctx c
  if x.enabled ∧ x.step = .stopped then
    let f := step % 2 ^ 48
    let t := if f = x.fired ∧ ¬ x.loading then s.setFired c f else (s.setFired c f).sealHearth c f
    if f < x.fired then t.raiseCtx c none 0x0609 (((x.fired % 2 ^ 64) <<< 64) + (f <<< 128)) else t
  else s

/-- Action 6: restore from the hearth image (R256); event 0x060A with h when it cannot reach the step. -/
def State.actRestore (s : State) (c step : Nat) : State :=
  let x := s.ctx c
  if x.enabled ∧ x.step = .stopped then
    let r := step % 2 ^ 48
    let next : Bool := match s.tier.recordOf c r with
      | (some _, fired) => r == x.hearth + 1 && !fired
      | (none, _) => false
    if r = x.hearth ∨ next then
      let t := ((s.closeSeqs c).restoreTo c r).setFired c r
      if next then t.journal c 2 r [] else t
    else s.raiseCtx c none 0x060A ((x.hearth % 2 ^ 64) <<< 64)
  else s

/-- One write of FLUE_STEP_CONTROL, by its action. -/
def State.stepAct (s : State) (c action step : Nat) : State :=
  match action with
  | 1 => s.actAbort c step
  | 2 => s.actFire c step
  | 3 => s.actVoid c step
  | 4 => s.actLoad c
  | 5 => s.actSeal c step
  | 6 => s.actRestore c step
  | _ => s

/-- A write of v to FLUE_STEP_CONTROL: recorded with its source, then acted on when the module is READY (R243). -/
def State.stepWrite (s : State) (src : Src) (v : Nat) : State :=
  let s := s.logStep src v
  if s.pwr.life = .ready then s.stepAct (v % 1024) (bits v 10 3) (bits v 16 48) else s

/-- A command that writes FLUE_STEP_CONTROL with a context, an action and a step (R243). -/
def State.stepControl (s : State) (src : Src) (c action step : Nat) : State :=
  if !s.takesWrite src then s
  else
    let s := s.logStep src (stepWord c action step)
    if s.pwr.life = .ready then s.stepAct c action step else s

def execStepAbort (src : Src) (c step : Nat) (s : State) : Result := .next (s.stepControl src c 1 step)
def execResolveToFire (src : Src) (c step : Nat) (s : State) : Result := .next (s.stepControl src c 2 step)
def execResolveToVoid (src : Src) (c step : Nat) (s : State) : Result := .next (s.stepControl src c 3 step)
def execLoad (src : Src) (c step : Nat) (s : State) : Result := .next (s.stepControl src c 4 step)
def execSealCtx (src : Src) (c step : Nat) (s : State) : Result := .next (s.stepControl src c 5 step)
def execRestoreFromHearth (src : Src) (c step : Nat) (s : State) : Result := .next (s.stepControl src c 6 step)

end Sys2Proof.Machine
end

