-- ==== Sys2Proof/Machine/Power.lean ====
section
/-! DEFINITION. Start-up, resets, clocks and power (R405 to R424, R440 to R455): REQUEST_RUN, REQUEST_SLEEP, REQUEST_DEEP,
POWER_STATE_CHANGE_DONE, WARM_RESET, FULL_RESET, CLK_FCOUNT_CTRL, FCOUNT_GATE_END, POWER_ON, POWER_FAIL_WARNING, INPUT_VOLTAGE,
POWER_STAGE_STOP, CLOCK_LOST, CLOCK_RETURNED, RECOVERED_IN_PLACE, WATCHDOG, DIE_TEMPERATURE_SAMPLE, WITNESS_CAPTURED. -/

namespace Sys2Proof.Machine

/-- The record of a register write through the steward endpoint or the management interface (R437). -/
def State.logWrite (s : State) (src : Src) (addr v : Nat) : State :=
  s.record 2 0 ((pageCtx (inForceAddr addr)).getD 0xFFFF) 0 (sourceBody src addr v)

/-! ### Power states (R418 to R420) -/

/-- Change the power fields. -/
def State.modPwr (s : State) (f : Power → Power) : State := { s with pwr := f s.pwr }

/-- The conditions of R419 for SLEEP (1) or DEEP (2). -/
def State.mayLower (s : State) (st : Nat) : Bool :=
  s.enabledCtxs.all fun c =>
    let x := s.ctx c
    let stopped := x.step == .stopped && !x.loading
    (stopped || x.window.isEmpty) && x.launch.isNone && (st != 2 || (stopped && x.ring != .orphaned))

/-- A request of PWR_STATE (R419, R420): held during a transition; DEEP to SLEEP goes through RUN; 3 is ignored. -/
def State.powerRequest (s : State) (r : Nat) : State :=
  if r ≥ 3 then s
  else
    let s := s.modPwr fun p => { p with request := r }
    if s.pwr.transition.isSome then s.modPwr fun p => { p with heldReq := some r }
    else if r = s.pwr.current then s
    else if r = 0 then s.modPwr fun p => { p with transition := some 0 }
    else if r = 1 ∧ s.pwr.current = 2 then s.modPwr fun p => { p with transition := some 0, heldReq := some 1 }
    else if s.mayLower r then s.modPwr fun p => { p with transition := some r }
    else s.raise 0x0809 r

/-- A write of PWR_STATE. -/
def State.writePwrState (s : State) (src : Src) (v : Nat) : State :=
  let s := s.logWrite src (blockAddr 7 0) v
  if s.pwr.life = .ready then s.powerRequest (v % 4) else s

def execRequestRun (src : Src) (s : State) : Result := .next (if s.takesWrite src then s.writePwrState src 0 else s)
def execRequestSleep (src : Src) (s : State) : Result := .next (if s.takesWrite src then s.writePwrState src 1 else s)
def execRequestDeep (src : Src) (s : State) : Result := .next (if s.takesWrite src then s.writePwrState src 2 else s)

/-- Kilns and shelves cleared (R405, R416, R418); their starve counts stay. -/
def State.clearKilns (s : State) : State :=
  { s with kilns := s.kilns.map fun (k : Nat × Kiln) => (k.1, { starve := k.2.starve }), mem := s.mem.filter fun x => !isShelf x.1 }

/-- The enabled ports. -/
def State.enabledPorts (s : State) : List Nat := (List.range 8).filter fun p => (s.port p).st != .disabled

/-- Every enabled port off at once: electrical idle. -/
def State.portsOff (s : State) : State :=
  let ps := s.enabledPorts
  if ps = [] then s else ps.foldl (fun s p => s.emit (.lanes p 0)) (s.dropLinks ps .down)

/-- Every enabled port trains (R307). -/
def State.retrainPorts (s : State) : State :=
  (List.range 8).foldl (fun s p => if (s.port p).st = .disabled then s else s.startTraining p) s

/-- Both stacks in self-refresh (R178). -/
def State.stacksRest (s : State) : State :=
  (s.modStack 0 fun x => { x with selfRefresh := true }).modStack 1 fun x => { x with selfRefresh := true }

/-- Both stacks out of self-refresh and recalibrated, but for one that is tripped (R416, R420, R182). -/
def State.stacksWake (s : State) : State :=
  (s.modStack 0 fun x => { x with selfRefresh := x.tripped }).modStack 1 fun x => { x with selfRefresh := x.tripped }

/-- The wheel clock stops or runs again (R418): the starve cycles up to a stop are counted, and none of the time without it (R86). -/
def State.gateWheels (s : State) (runs : Bool) : State :=
  if runs then { s with kilns := s.kilns.map fun (k : Nat × Kiln) => (k.1, { k.2 with counted := s.datum }) }
  else (s.kilns.map (·.1)).foldl State.countStarve s

/-- POWER_STATE_CHANGE_DONE (R418, R420): event 0x0808, then the request held during the transition. -/
def State.powerDone (s : State) (st : Nat) : State :=
  let old := s.pwr.current
  let s := if old = 0 then s.gateWheels false else s
  let s := s.modPwr fun p => { p with current := st, transition := none }
  let s := if st = 0 then s.gateWheels true else s
  let s :=
    if st = 2 then
      let t := (s.clearKilns.portsOff).stacksRest
      { t with host := { t.host with up1 := false } }
    else if old = 2 then s.stacksWake
    else s
  let s := s.raise 0x0808 st
  let s := if old = 2 ∧ st = 0 then s.retrainPorts else s
  match s.pwr.heldReq with
  | some r => (s.modPwr fun p => { p with heldReq := none }).powerRequest r
  | none => s

def execPowerStateChangeDone (s : State) : Result :=
  .next <| match s.pwr.transition with
    | some st => if s.pwr.life = .ready then s.powerDone st else s
    | none => s

/-! ### The boot chain (R447 to R455) -/

/-- Firmware slot n. -/
def State.fwSlot (s : State) (n : Nat) : FwSlot := if n = 0 then s.trust.fwA else s.trust.fwB

/-- The first check of R449 that an image fails; 0 when it passes. Component offsets count from the start of the image (log entry 98). -/
def fwCheck (keys : List (List Byte)) (f : FwSlot) : Nat :=
  if f.magic ≠ 0x46573254 ∨ f.version ≠ 1 ∨ f.stepping ≠ 0xB0 then 1
  else if keys[f.keyIndex]? ≠ some (Sha3.sha3 f.publicKey) then 2
  else if !f.signature.valid then 3
  else if f.components.all fun p => fitBytes 32 p.digest == Sha3.sha3 ((f.body.drop (p.offset - 4096)).take p.length) then 0
  else 4

/-- The check that firmware slot n fails as the boot ROM reads it (R447, R449): without flash channel 0 its first half is missing, without
channel 1 its second, which begins after 4 MiB (log entry 98). -/
def State.slotFault (s : State) (n : Nat) : Nat :=
  let f := s.fwSlot n
  if !s.tier.serves 0 then 1
  else
    let k := fwCheck s.trust.romDigests f
    if k = 0 ∧ !s.tier.serves 1 ∧ f.body.length + 4096 > 4194304 then 4 else k

/-- Whether a copy of block 2 of the boot area can be read: the first good one of channels 0 and 1 (R447). -/
def State.block2Reads (s : State) : Bool := [0, 1].any fun ch => s.tier.serves ch && !s.trust.badCopies.contains ch

/-- Block 2 is written on both channels, by way of the rewrite area (R447): both copies are good again. -/
def State.writeBlock2 (s : State) (f : Trust → Trust) : State := { s with trust := { f s.trust with badCopies := [], rewritten := true } }

/-- The boot ROM's choice of a slot (R449): the selected one, then the other; none passes, boot recovery. Where no copy of block 2 reads, slot A
stands first (log entry 98). -/
def State.bootFw (s : State) : State × Bool :=
  let a := if s.block2Reads then s.trust.selector % 2 else 0
  let b := 1 - a
  let run (s : State) (n : Nat) : State := { s with trust := { s.trust with running := n } }
  if s.slotFault a = 0 then (run s a, true)
  else
    let s := s.romEvent 0x0901 (a + (s.slotFault a <<< 8))
    if s.slotFault b = 0 then (run s b, true)
    else
      let s := (s.romEvent 0x0901 (b + (s.slotFault b <<< 8))).romEvent 0x0902 0
      (s.modPwr fun p => { p with life := .recovery, startStep := 4, holdEvent := 0x0902 }, false)

/-- Whether the format and the signature of a config block hold (R450): 1 to 3,900 entries, signed by a vendor key or by the owner's, whose
record must be enrolled. -/
def State.cfgSigned (s : State) (b : CfgSlot) : Bool :=
  b.magic == 0x43463254 && b.version == 1 && decide (0 < b.entries.length ∧ b.entries.length ≤ 3900) && b.signature.valid &&
    ((b.signer == 0 && decide (b.keyIndex < 4)) || (b.signer == 1 && s.trust.owner.isSome))

/-- The first reason for which a config slot is refused (R451), in the causes of 0x0903; 0 for none. -/
def State.cfgCause (s : State) (slot : Option CfgSlot) : Nat :=
  match slot with
  | none => 1
  | some b =>
    if !s.cfgSigned b then 1
    else if b.serial ≠ 0 ∧ b.serial ≠ s.trust.serial then 2
    else if b.fwFloor > s.fw.securityVersion then 3
    else if b.entries.any fun e => (specOf e.1).isNone then 4
    else 0

/-- What a config slot reads as: nothing where no copy of block 2 reads (R447). -/
def State.cfgSlot (s : State) (n : Nat) : Option CfgSlot :=
  if s.block2Reads then (if n = 0 then s.trust.cfgA else s.trust.cfgB) else none

/-- Apply a config block as one commit of every group (R451, R437): a group that fails raises event 0x0903. -/
def State.applyCfg (s : State) (slot : Nat) (b : CfgSlot) : State :=
  let bank : Bank := { written := b.entries.foldl (fun l e => aset e.1 (e.2 % 2 ^ 64) l) [] }
  let v := 0x4000FFF
  let bad := s.commitFaults bank v
  let s := s.applyAll (bank.passing v bad) fun s => bad.foldl (fun s e => s.raise 0x0903 (slot + (e.1 <<< 8) + (5 <<< 16))) s
  let s := { s with trust := { s.trust with cfgSlot := slot } }
  s.logCommit selfSrc 0 (refusedMask bad) ((bad.head?.map fun e => e.2.event).getD 0) v

/-- Step 5 of R406: config slot A, then B; both refused, the module starts unconfigured (R451). -/
def State.loadCfg (s : State) : State :=
  let refuse (s : State) (n c : Nat) : State := s.raise 0x0903 (n + (0xFF <<< 8) + (c <<< 16))
  match s.cfgCause (s.cfgSlot 0), s.cfgSlot 0 with
  | 0, some b => s.applyCfg 0 b
  | c, _ =>
    let s := refuse s 0 c
    match s.cfgCause (s.cfgSlot 1), s.cfgSlot 1 with
    | 0, some b => s.applyCfg 1 b
    | c, _ =>
      let s := refuse s 1 c
      { s with pwr := { s.pwr with unconfigured := true }, trust := { s.trust with cfgSlot := 255 } }

/-! ### Cold start (R405 to R408) -/

/-- The log-start record (R435, R436). -/
def State.logStart (s : State) (cause : Nat) : State :=
  s.record 6 0 0xFFFF 0 (cause + (s.log.durable.getD (2 ^ 64 - 1) <<< 64))

/-- A slot's two stripes, whose parity lies on channel 0 (R196, R443). -/
def slotStripes (k : Nat) : List Nat := [stripeOf (sectorOf (slotBlock k 0) 0), stripeOf (sectorOf (slotBlock k 0) 128)]

/-- The slot's data pages: channels 1, 2 and 3 of the first stripe, channel 1 of the second (R443). -/
def slotPages (k : Nat) : List Nat :=
  match slotStripes k with
  | [m, n] => [stripePage m 1, stripePage m 2, stripePage m 3, stripePage n 1]
  | _ => []

/-- A capture is programmed into its slot (R443): 16 sectors of kind 6, and both stripes closed early. -/
def State.programSlot (s : State) (w : WitRec) : State :=
  let k := w.captureSeq % 16
  let bs := witBytes w
  let s := (((slotPages k).flatMap pageSectors).zip (List.range 16)).foldl (fun s x =>
    s.programmed x.1 { kind := 6, image := imageOf ((bs.drop (4096 * x.2)).take 4096) }) s
  s.modTier fun t => (slotStripes k).foldl Tier.closeStripe t

/-- The slot of a capture is erased, in advance of it (R443). -/
def State.eraseSlot (s : State) (k : Nat) : State :=
  let s := { s with log := { s.log with slots := adel (k % 16) s.log.slots } }
  [0, 1, 2, 3].foldl (fun s ch => if s.tier.flash.any fun l => blockOf l.1 == slotBlock k ch then s.eraseBlock (slotBlock k ch) else s) s

/-- A capture has come to its slot and is durable (R443, R444): the SRAM takes records again, and the slot of the next capture is erased. -/
def State.slotted (s : State) (w : WitRec) : State :=
  let s := s.programSlot w
  let s := { s with log := { s.log.thaw with slots := aset (w.captureSeq % 16) w s.log.slots, durable := some w.captureSeq } }
  s.eraseSlot (w.captureSeq + 1)

/-- A capture has reached its slot (R443): event 0x0904. -/
def State.captured (s : State) (w : WitRec) : State :=
  (s.slotted w).raise 0x0904 (w.captureSeq % 16 + (w.cause <<< 16) + ((w.captureSeq % 2 ^ 64) <<< 64))

/-- Whether a capture can become durable: no channel of 0 to 3 is out of service (R444). -/
def State.slotServes (s : State) : Bool := !(s.tier.lostChannels.any fun x => decide (x.1 < 4))

/-- A capture did not become durable (R444): event 0x0905, and event 0x0904 when its copy in the SRAM survives and reaches the slot after all.
What a capture that was cut off left in its slot fails the CRC, so the slot shows none (R445), and the next slot is erased. -/
def State.captureFailed (s : State) (w : WitRec) (survived : Bool) : State :=
  let s := { s with log := { s.log with incomplete := some w.captureSeq, slots := adel (w.captureSeq % 16) s.log.slots } }
  let s := s.raise 0x0905 ((w.captureSeq % 2 ^ 64) <<< 64)
  if survived && s.slotServes then s.captured w
  else ({ s with log := s.log.thaw }).eraseSlot (w.captureSeq + 1)

/-- What the flash keeps of the tier. -/
def Tier.kept (t : Tier) : Tier :=
  { homes := t.homes, dirtySince := t.dirtySince, journal := t.journal.filter fun i => i.durable, journalEnd := t.journalEnd,
    programmed := t.journalEnd, flash := t.flash, stripes := t.stripes, shut := t.shut, parity := t.parity, stream := t.stream,
    mapPages := t.mapPages, powered := t.powered, onAt := t.onAt, blocks := t.blocks, lostChannels := t.lostChannels, capacity := t.capacity, spareMiB := t.spareMiB, full := t.full,
    writeSeq := t.writeSeq, wearTold := t.wearTold, retired := t.retired }

/-- What a reset leaves of a stack: a trip stands, with the readings that end it (R182). -/
def Stack.reset (x : Stack) : Stack := if x.tripped then { temps := x.temps, tripped := true, selfRefresh := true } else {}

/-- The power state after a power-on (0) or a full reset (1): the sources lost stay lost, and a full reset leaves a die in its trip (R424). -/
def Power.reset (p : Power) (cause : Nat) : Power :=
  let q : Power := { life := .held, startStep := 2, mV := p.mV, mA := p.mA, watts := p.watts, lost := p.lost }
  if cause = 1 then { q with tripped := p.tripped, dieTemps := p.dieTemps, hot := p.hot } else q

/-- The module as a power-on (0) or a full reset (1) leaves it before the boot ROM runs (R405). -/
def State.coldBase (s : State) (cause : Nat) : State :=
  { datum := s.datum, draw := s.draw, pending := s.pending, pwr := s.pwr.reset cause,
    setter := if cause = 1 then { stack0 := s.setter.stack0.reset, stack1 := s.setter.stack1.reset } else {},
    ctxs := s.ctxs.map fun (c : Nat × Ctx) => (c.1, { hearth := c.2.hearth, rebase := c.2.rebase }),
    tier := { s.tier.kept with powered := if s.pwr.life = .off then s.tier.powered else s.poweredTime, onAt := s.datum },
    log := { sram := if cause = 1 then s.log.sram else [], romHeld := if cause = 1 then s.log.romHeld else [], capture := s.log.capture,
             captureSeq := s.log.captureSeq, durable := s.log.durable, slots := s.log.slots, incomplete := s.log.incomplete },
    trust := { s.trust with stagedFw := none, stagedCfg := none, stagedOwner := none, verified := [], commits := 0, measured := [],
                            i3c := if cause = 1 then s.trust.i3c else none, eid := if cause = 1 then s.trust.eid else 0,
                            keyStore := none, cfgSlot := 255, running := 0 } }

/-- The boot ROM reconstructs the identity (R453, R455): it reads the identity SRAM, whose power was cut, corrects the reading into the seed s,
forms ξ from s and the certificate's serial, and the key pair from ξ. Where no copy of block 2 reads, there is no certificate. -/
def State.identify (s : State) (rep : StartReport) : State :=
  let s := { s with trust := { s.trust with badCopies := rep.badCopies ++ s.trust.badCopies.filter fun ch => !rep.badCopies.contains ch } }
  let serial := if s.block2Reads then s.trust.certSerial else 0
  let xi := Sha3.sha3 (fitBytes 32 rep.idSeed ++ leBytes 8 serial)
  { s with trust := { s.trust with idSram := rep.idSram, keyStore := some (Config.keyGen xi).2, serial := serial,
                                   idOk := rep.idFault == 0 && s.block2Reads } }

/-- The cause of event 0x0908 at a start; 0 when the identity is available (R455, R502). -/
def State.idFault (s : State) (rep : StartReport) : Nat := if s.block2Reads then rep.idFault else 3

/-- The parcels that the journal takes beyond their homes, each with the first step that does so (R209, R210): what a mount finds not
settled. -/
def State.unsettled (s : State) (c : Nat) : List (Nat × Nat) :=
  let steps := ((s.tier.journal.filter fun i => i.ctx == c && i.type == 1 && decide (i.step ≤ (s.ctx c).hearth)).map (·.step)).eraseDups
  (sortBy (fun a b => decide (a ≤ b)) steps).foldl (fun l n =>
    match s.tier.recordOf c n with
    | (some rec, true) => (recordItems rec).foldl (fun l it =>
      let key := homeKey c it.1
      let newer := match alook key s.tier.homes with
        | some h => decide (h.step ≥ n)
        | none => false
      if newer || (alook key l).isSome then l else aset key n l) l
    | _ => l) []

/-- Mount a context's part of the tier (R213): h and the settled step are computed again from the homes and the journal. -/
def State.mountCtx (s : State) (c : Nat) : State :=
  let first := (s.tier.journal.filter fun i => i.ctx == c).foldl (fun m i => min m i.step) ((s.ctx c).hearth + 1)
  let s := s.modCtx c fun x => { x with hearth := s.tier.hearthFrom c s.tier.journal.length (first - 1) }
  s.modTier fun t => { t with dirtySince := (s.unsettled c).foldl (fun l x => aset x.1 x.2 l) (dropCtx c t.dirtySince) }

/-- The home map comes into DRAM from the map area (R199, R213). -/
def State.loadMap (s : State) : State :=
  let s := s.fitMap
  (List.range s.tier.mapFrames.length).foldl (fun s i => s.poke (s.tier.mapFrames.getD i 0) (mapPage s.tier.mapBytes i)) s

/-- Mount the tier (R213, R217): every channel is initialised at SDR and then runs NV-LPDDR4 (R194), the home map comes into DRAM, h and the
settled steps are computed, and the retention survey is made. -/
def State.mount (s : State) (rep : StartReport) : State :=
  let s := (s.modTier fun t => { t with sdr := [] }).loadMap
  let s := (s.ctxs.map (·.1)).foldl State.mountCtx s
  (s.survey rep.survey).modTier fun t => { t with mounted := true }

/-- Steps 3 to 11 of R406 after the boot ROM has found a firmware (R407). -/
def State.startUp (s : State) (rep : StartReport) : State :=
  let at_ (s : State) (n : Nat) : State := s.modPwr fun p => { p with startStep := n }
  let hold (s : State) (code payload : Nat) : State := (s.modPwr fun p => { p with holdEvent := code }).raise code payload
  let s := (at_ s 5).loadCfg
  let s := at_ s 6
  match rep.packageMismatch with
  | some (die, ty, ver) => hold s 0x0506 (die + ((ty % 256) <<< 8) + ((ver % 65536) <<< 16))
  | none =>
    if rep.linkFails then hold s 0x080B (6 + (1 <<< 8))
    else
      let s := at_ s 7
      if rep.dramFails then hold s 0x080B (7 + (1 <<< 8))
      else
        let s := at_ s 8
        let s := match rep.flashChannelFailed with
          | some ch => s.loseChannel ch
          | none => s
        let s := if rep.mapValid then s else (s.modTier fun t => { t with homes := [] }).raise 0x080B (8 + (2 <<< 8))
        let s := s.mount rep
        let s := at_ s 9
        let s := (List.range 8).foldl (fun s p =>
          if (s.port p).st ≠ .training ∨ p ≥ rep.portLanes.length then s
          else
            let m := rep.portLanes.getD p 0
            if laneCount m < 3 then s.trainingFailed p m 
            else
              let d := rep.portOffsets.getD p (0, 0)
              s.modPort p fun x => { x with st := .traverse, lanes := m % 16, offset := d.1, delay := d.2 }) s
        let s := at_ s 10
        let up0 := rep.hostPortUp.getD 0 true
        let up1 := rep.hostPortUp.getD 1 true
        let s := { s with host := { s.host with up0 := up0, up1 := up1 } }
        let s := if up0 != up1 then s.raise 0x080B (10 + (2 <<< 8)) else s
        s.modPwr fun p => { p with life := .ready, startStep := 11 }

/-- A cold start from the boot ROM on (R406): a capture that the reset left under way has become durable, or has not (R444). In boot recovery
it waits for the next start. -/
def State.coldBoot (s : State) (rep : StartReport) (cause : Nat) : State :=
  match (s.identify rep).bootFw with
  | (s, false) => s
  | (s, true) =>
    let s := s.logStart cause
    let s := match s.log.capture with
      | some w => if rep.captureDurable && s.slotServes then s.captured w else s.captureFailed w (rep.sramSurvived || cause == 1)
      | none => s
    let s := if s.idFault rep = 0 then s else s.raise 0x0908 (s.idFault rep)
    s.startUp rep

/-- A cold start (R406) after a power-on (0) or a full reset (1): it waits in its step 2 while a clock of the system class is lost or a trip
stands, as no PLL then locks (R415, R424; log entry 101). -/
def State.coldStart (s : State) (rep : StartReport) (cause : Nat) : State :=
  let s := s.coldBase cause
  if s.sourceLost || s.thermLow then s.modPwr fun p => { p with startWait := some (rep, cause) } else s.coldBoot rep cause

/-- A source has returned or a trip has ended: recovery in place may begin (R416), or a cold start that waited goes on (R406). -/
def State.cleared (s : State) : State :=
  match s.pwr.startWait with
  | some (rep, cause) =>
    if !s.waits then s.mayRecover 2
    else if s.stillSilent then s
    else (s.modPwr fun p => { p with startWait := none }).coldBoot rep cause
  | none => s.mayRecover 2

/-- POWER_ON (R405, R406, R423): the input rises through 48 V. The datum's first count is open (log entry 9). -/
def execPowerOn (rep : StartReport) (s : State) : Result :=
  .next <|
    if s.pwr.life ≠ .off ∧ ¬ s.pwr.failing then s
    else
      let (x, s) := s.drawFresh
      (s.setDatum (x % 2 ^ 64)).coldStart rep 0

/-- A write of v to PWR_RESET that names a full reset (R405): a capture of cause 0, then the cold start from its step 2. -/
def State.fullReset (s : State) (src : Src) (v : Nat) (rep : StartReport) : State :=
  let s := s.logWrite src (blockAddr 7 8) v
  if s.pwr.failing then s else (s.capture 0).coldStart rep 1

def execFullReset (src : Src) (rep : StartReport) (s : State) : Result :=
  .next (if s.takesWrite src then s.fullReset src 2 rep else s)

/-! ### Warm reset and recovery in place (R405, R410, R416) -/

/-- A warm reset (R405): the trouble log, kilns, shelves and port training are lost, both banks are emptied (R469); the boot ROM chooses the firmware (R456: an activated
image takes effect); recovery in place follows. Causes as in R416: 0
PWR_RESET, 1 watchdog. -/
def State.warmReset (s : State) (cause : Nat) : State :=
  let s := s.clearKilns.portsOff.stacksRest
  let s := { s with log := { s.log with head := 0, recs := [], start := [] }, trust := { s.trust with commits := 0 },
                    bankS := { s.bankS with written := [], held := none, second := false },
                    bankM := { s.bankM with written := [], held := none, second := false } }
  match s.bootFw with
  | (s, false) => s
  | (s, true) => (s.logStart (2 + cause)).modPwr fun p => { p with life := .silent, recovery := some cause }

def execWarmReset (src : Src) (s : State) : Result :=
  .next <|
    if !s.takesWrite src then s
    else
      let s := s.logWrite src (blockAddr 7 8) 1
      if s.pwr.life = .held ∨ s.pwr.failing then s else (s.capture 0).warmReset 0

/-- WATCHDOG (R410): event 0x080A, a capture and a warm reset, also while the module is silent. A held module leaves its hold otherwise
only (R407), and one that fails goes on to its power-on reset (R423): there the event and the capture stand alone. -/
def execWatchdog (core : Nat) (s : State) : Result :=
  .next <|
    if s.pwr.life = .off ∨ s.booting then s
    else
      let s := (s.raise 0x080A core).capture 0x080A
      if (s.pwr.life = .ready ∨ s.pwr.life = .silent) ∧ ¬ s.pwr.failing then s.warmReset 1 else s

/-- How a context settles on recovery in place (R416); the cause of the void is the recovery (R241). -/
def State.settleCtx (s : State) (c : Nat) : State :=
  match (s.ctx c).step with
  | .running =>
    ((s.modCtx c fun x => { x with stopAfter := true }).beginVoid c (s.rank c) 0x0804).finishVoid c
  | .voiding => (s.modCtx c fun x => { x with stopAfter := true }).finishVoid c
  | .bent => (s.modCtx c fun x => { x with step := .inDoubt, fireD := none }).raiseCtx c none 0x0603 (s.step c <<< 64)
  | .armed => (s.modCtx c fun x => { x with step := .inDoubt, fireD := none }).raiseCtx c none 0x0603 (s.step c <<< 64)
  | .inDoubt => s
  | .stopped => s

/-- Step 2 of R416 after a warm reset: the config block is verified again (R451). Its entries bring nothing, as the values that were in
force are restored (R469). -/
def State.verifyCfg (s : State) : State :=
  let refuse (s : State) (n c : Nat) : State := s.raise 0x0903 (n + (0xFF <<< 8) + (c <<< 16))
  let uses (s : State) (slot : Nat) : State :=
    { s with pwr := { s.pwr with unconfigured := slot == 255 }, trust := { s.trust with cfgSlot := slot } }
  match s.cfgCause (s.cfgSlot 0) with
  | 0 => uses s 0
  | c =>
    let s := refuse s 0 c
    match s.cfgCause (s.cfgSlot 1) with
    | 0 => uses s 1
    | c => uses (refuse s 1 c) 255

/-- RECOVERED_IN_PLACE (R416): stacks out of self-refresh, kilns and shelves cleared, every context settled, event 0x0804; then ports
retrain. The firmware was verified when the warm reset chose it. -/
def State.recover (s : State) (cause : Nat) : State :=
  let s := if cause < 2 then s.verifyCfg else s
  let s := s.clearKilns.stacksWake.modTier fun t => { t with sdr := [] }
  let s := s.enabledCtxs.foldl State.settleCtx s
  let s := s.modPwr fun p => { p with life := .ready, current := 0, transition := none, heldReq := none, recovery := none }
  let s := match s.log.capture with
    | some w => if s.slotServes then s else s.captureFailed w true
    | none => s
  (s.raise 0x0804 cause).rootCommitted.retrainPorts

def execRecoveredInPlace (s : State) : Result :=
  .next <| match s.pwr.recovery with
    | some cause => if s.pwr.life = .silent ∧ !s.stillSilent then s.recover cause else s
    | none => s

/-! ### Clocks (R413 to R415) -/

/-- Whether a source is of the system class (R415): REFCLK_SYS and the PLLs of the wheel, setter, control, flash and datum domains. -/
def systemClass (source : Nat) : Bool := source == 0 || decide (5 ≤ source ∧ source < 13)

/-- CLOCK_LOST (R415). -/
def execClockLost (source : Nat) (s : State) : Result :=
  .next <|
    if s.pwr.life = .off ∨ s.pwr.lost.contains source ∨ source ≥ 13 then s
    else
      let s := s.modPwr fun p =>
        { p with lost := p.lost ++ [source], lostSince := if p.lostSince.contains source then p.lostSince else p.lostSince ++ [source] }
      let s := s.raise 0x0801 source
      if systemClass source then
        let s := if source = 0 ∨ source = 10 then s.modTier fun t => { t with sdr := t.sdr ++ [0, 1, 2, 3].filter fun ch => !t.sdr.contains ch }
          else s
        (s.capture 0x0801).goSilent
      else if source < 3 then
        let ps := s.enabledPorts.filter fun p => p / 4 + 1 == source
        let linked := ps.filter fun p => (s.port p).linked
        let rest := ps.filter fun p => !(s.port p).linked
        let s := if rest = [] then s else s.dropLinks rest .down
        let s := if linked = [] then s else s.linksDown linked 2
        ps.foldl (fun s p => s.emit (.lanes p 0)) s
      else { s with host := if source = 3 then { s.host with up0 := false, paused0 := false }
                              else { s.host with up1 := false, paused1 := false } }

/-- CLOCK_RETURNED (R413, R415). A returned host reference lets its port relink: HOST_LINK_DOWN reports the link. -/
def execClockReturned (source : Nat) (s : State) : Result :=
  .next <|
    if s.pwr.life = .off ∨ ¬ s.pwr.lost.contains source then s
    else
      let s := (s.modPwr fun p => { p with lost := p.lost.filter (· != source) }).raise 0x0802 source
      if systemClass source then s.cleared
      else if source < 3 ∧ s.pwr.life = .ready then
        (List.range 4).foldl (fun s i =>
          let p := 4 * (source - 1) + i
          if (s.port p).st = .disabled then s else s.startTraining p) s
      else s

/-- Change frequency counter n. -/
def State.modFcount (s : State) (n : Nat) (f : Fcount → Fcount) : State :=
  s.modPwr fun p => { p with fcount := aset n (f (s.fcount n)) p.fcount }

/-- A write of CLK_FCOUNT_CTRL_n (R414): enable with a gate starts a measurement; a gate of 0 stops the counter. -/
def State.writeFcount (s : State) (n v : Nat) : State :=
  s.modFcount n fun f => { f with ctrl := bits v 0 35, running := v.testBit 32 && bits v 8 24 != 0 }

def execClkFcountCtrl (src : Src) (n : Nat) (v : Word) (s : State) : Result :=
  .next <|
    if !s.takesWrite src || n ≥ 16 then s
    else (s.logWrite src (blockAddr 6 (0x100 + 0x18 * n)) v.toNat).writeFcount n v.toNat

/-- FCOUNT_GATE_END (R414): the result, checked against the limits when monitored; event 0x0805 once per counter per second. -/
def execFcountGateEnd (n count : Nat) (s : State) : Result :=
  .next <|
    let f := s.fcount n
    if ¬ f.running ∨ n ≥ 16 ∨ s.pwr.life = .off then s
    else
      let s := s.modFcount n fun f => { f with count := count % 2 ^ 40, valid := true, running := f.ctrl.testBit 33 }
      if !f.ctrl.testBit 34 || (decide (bits f.limit 0 32 ≤ count ∧ count ≤ bits f.limit 32 32)) then s
      else
        let s := s.modFcount n fun f => { f with outOfLimits := true }
        let due := match f.told with
          | some t => decide (s.datum ≥ t + 1000000000)
          | none => true
        if due then (s.modFcount n fun f => { f with told := some s.datum }).raise 0x0805 (n + ((count % 2 ^ 64) <<< 64)) else s

/-! ### Input power (R421 to R423) -/

/-- The power stage stops (R421): the module is unpowered and its DRAM lost; flash stays. -/
def State.stageStop (s : State) : State :=
  let t := s.coldBase 0
  { t with pwr := { mV := s.pwr.mV, mA := s.pwr.mA, watts := s.pwr.watts },
           log := { t.log with capture := s.log.capture } }

/-- POWER_STAGE_STOP (R421). -/
def execPowerStageStop (s : State) : Result := .next (if s.pwr.life = .off then s else s.stageStop)

/-- A power-fail warning (R423): event 0x0806, a capture, every lane idle; the parity of the journal's stripes is written, and what is
programmed then is durable. Write protect follows once programs in flight have had their 2 ms (R212). -/
def State.powerFail (s : State) (mv : Nat) : State :=
  if s.pwr.life = .off ∨ s.pwr.failing then s
  else
    let s := s.modPwr fun p => { p with failing := true, excursion := false, failedAt := some s.datum }
    let s := ((s.raise 0x0806 mv).capture 0x0806).goSilent
    (s.modTier Tier.sealJournal).settleJournal

def execPowerFailWarning (mv : Nat) (s : State) : Result := .next (s.powerFail mv)

/-- INPUT_VOLTAGE (R421, R422): a reading of the input in mV. The current and power that PWR_INPUT reports with it are open (log
entry 5). -/
def execInputVoltage (mv : Nat) (s : State) : Result :=
  .next <|
    let (a, s) := s.drawFresh
    let (w, s) := s.drawFresh
    let s := s.modPwr fun p => { p with mV := mv % 65536, mA := a % 65536, watts := w % 65536 }
    if s.pwr.life = .off then s
    else if mv < 40000 then s.stageStop
    else if s.pwr.failing then s
    else if mv < 44000 ∨ mv > 60000 then s.powerFail mv
    else if mv < 48000 ∨ mv > 58000 then
      (if s.pwr.excursion then s else (s.modPwr fun p => { p with excursion := true }).raise 0x0807 mv)
    else s.modPwr fun p => { p with excursion := false }

/-! ### Die temperatures (R424) -/

/-- A die of the sensors in the coding of R436: kiln dies 0 and 1 are 2 and 3, flue dies 2 and 3 are 0 and 1. -/
def dieCode (die : Nat) : Nat := if die < 2 then die + 2 else die - 2

/-- Sensors of a die: four on a kiln die, two on a flue die. -/
def dieSensors (die : Nat) : Nat := if die < 2 then 4 else 2

/-- LAYER_TEMPERATURE_SAMPLE (R177, R179, R180, R182). No reading, or one outside -20 to 130 degrees, is a faulty sensor. -/
def execLayerTemperatureSample (die sensor : Nat) (t : Option Int) (s : State) : Result :=
  .next <|
    if s.pwr.life = .off ∨ die ≥ 2 ∨ sensor ≥ 13 then s
    else
      match t.filter fun v => decide (-80 ≤ v ∧ v ≤ 520) with
      | none =>
        if (s.stack die).faulty.contains sensor then s
        else
          let s := (s.modStack die fun x => { x with faulty := x.faulty ++ [sensor] }).raise 0x0A05 (die + (sensor <<< 8))
          s.hardThrottle die
      | some v =>
        let s := s.modStack die fun x => { x with temps := aset sensor v x.temps, faulty := x.faulty.filter (· != sensor) }
        let (layer, hot) := (s.stack die).hottest
        let s := s.modStack die fun x => { x with coolSince := if hot ≤ 328 then (if x.coolSince.isSome then x.coolSince else some s.datum) else none }
        let s := if hot > 340 ∧ ¬ (s.stack die).doubled then
            (s.modStack die fun x => { x with doubled := true }).raise 0x0A01 (die + (1950 <<< 32))
          else s
        let s := if hot ≥ 420 then s.hardThrottle die else s
        if (s.stack die).tripped then
          (if hot ≤ 360 then (s.modStack die fun x => { x with tripped := false }).cleared else s)
        else if hot ≥ 440 then s.trip die layer hot
        else s

/-- DIE_TEMPERATURE_SAMPLE (R424), in units of 0.25 degrees. -/
def execDieTemperatureSample (die sensor : Nat) (t : Int) (s : State) : Result :=
  .next <|
    if s.pwr.life = .off ∨ die ≥ 4 ∨ sensor ≥ dieSensors die then s
    else
      let key := 4 * die + sensor
      let pay := dieCode die + (sensor <<< 8) + (signedBits 16 t <<< 16)
      let was := s.pwr.hot.contains key
      let s := s.modPwr fun p => { p with dieTemps := aset key t p.dieTemps,
                                          hot := if t < 400 then p.hot.filter (· != key) else if was then p.hot else p.hot ++ [key] }
      let s := if t ≥ 400 ∧ ¬ was then s.raise 0x0A06 pay else s
      if s.pwr.tripped.contains die then
        if (List.range (dieSensors die)).all fun i => decide ((alook (4 * die + i) s.pwr.dieTemps).getD 0 ≤ 380) then
          (s.modPwr fun p => { p with tripped := p.tripped.filter (· != die) }).cleared
        else s
      else if t ≥ 460 then
        let s := (s.modPwr fun p => { p with tripped := p.tripped ++ [die] }).raise 0x0A07 pay
        (s.capture 0x0A07).goSilent
      else s

/-! ### The witness (R443, R444) -/

/-- WITNESS_CAPTURED (R443): durable, unless a channel of 0 to 3 is out of service; the SRAM takes records again. -/
def execWitnessCaptured (s : State) : Result :=
  .next <|
    match s.log.capture with
    | none => s
    | some w => if s.pwr.life = .off ∨ !s.slotServes then s else s.captured w

end Sys2Proof.Machine
end

