-- ==== Sys2Proof/Machine/Writes.lean ====
section
/-! DEFINITION. Register writes (R425, R437, R462 to R464): REGISTER_WRITE and W1C_CLEAR. -/

namespace Sys2Proof.Machine

/-- What a bank holds of a value written to a staged register: its fields, and the low bits that an address must leave zero, so that
the commit can refuse them (R463, R466). -/
def RegSpec.banked (r : RegSpec) (v : Nat) : Nat := r.keep v ||| v % 2 ^ r.aligned

/-- A write of a staged register into the writer's bank (R464). -/
def State.stage (s : State) (src : Src) (a v : Nat) : State :=
  match specOf a with
  | none => s
  | some r =>
    let b := s.bankOf src
    s.setBank src { b with written := aset a (r.banked v) b.written }

/-- Clear W1C bits: CLK_LOSS [44:32] and out_of_limits of CLK_FCOUNT_RESULT_n (R7, R414, R479). -/
def State.w1c (s : State) (a v : Nat) : State :=
  match place a with
  | .block 6 off =>
    if off = 8 then s.modPwr fun p => { p with lostSince := p.lostSince.filter fun i => !v.testBit (32 + i) }
    else if 0x100 ≤ off ∧ off < 0x280 ∧ (off - 0x100) % 0x18 = 8 ∧ v.testBit 41 then
      s.modFcount ((off - 0x100) / 0x18) fun f => { f with outOfLimits := false }
    else s
  | _ => s

/-- What a write of a register of block 6 that is not staged does (R414). -/
def State.writeClk (s : State) (off v : Nat) : State :=
  if 0x100 ≤ off ∧ off < 0x280 then
    let n := (off - 0x100) / 0x18
    match (off - 0x100) % 0x18 with
    | 0 => s.writeFcount n v
    | 16 => s.modFcount n fun f => { f with limit := v % 2 ^ 64 }
    | _ => s.w1c (blockAddr 6 off) v
  else s.w1c (blockAddr 6 off) v

/-- One register write (R464): immediate registers act, staged ones go to the writer's bank, read-only ones ignore it (R463). Every
write enters the trouble log (R437). A full reset by this path meets no fault at start-up (log entry 23). -/
def State.writeReg (s : State) (src : Src) (addr v : Nat) : State :=
  let a := inForceAddr addr
  match place a with
  | .block 0 0 => (s.logWrite src a v).commitWrite src v
  | .block 0 0x18 => s.stepWrite src v
  | .block 7 0 => s.writePwrState src v
  | .block 7 8 =>
    if v % 4 = 2 then s.fullReset src v {}
    else
      let s := s.logWrite src a v
      if v % 4 = 1 ∧ s.pwr.life ≠ .held ∧ ¬ s.pwr.failing then (s.capture 0).warmReset 0 else s
  | .block 6 off => if (specOf a).isSome then (s.logWrite src a v).stage src a v else (s.logWrite src a v).writeClk off v
  | .block _ _ => (s.logWrite src a v).stage src a v
  | .page _ _ => (s.logWrite src a v).stage src a v
  | .counter _ => s.logWrite src a v
  | _ => s

/-- REGISTER_WRITE (R464): one aligned word. Windows are read-only and doorbell pages follow R360. -/
def execRegisterWrite (src : Src) (addr : Nat) (v : Word) (s : State) : Result :=
  .next (if !s.takesWrite src || addr % 8 != 0 then s else s.writeReg src addr v.toNat)

/-- W1C_CLEAR (R7): a write of ones to W1C bits. -/
def execW1cClear (src : Src) (addr : Nat) (v : Word) (s : State) : Result :=
  .next (if !s.takesWrite src || addr % 8 != 0 then s else (s.logWrite src addr v.toNat).w1c addr v.toNat)

end Sys2Proof.Machine
end

