-- ==== Sys2Proof/Machine/Host.lean ====
section
/-! DEFINITION. Host attachment (R345 to R355, R373 to R375, R462): connections, the loss of a host, re-attach, and the hosts' accesses to
the module's memory and registers. -/

namespace Sys2Proof.Machine

/-- Change the host attachment. -/
def State.modHost (s : State) (f : HostIf → HostIf) : State := { s with host := f s.host }

/-- Whether the host ports take traffic on a port: the module runs and the link is up. -/
def State.hostHears (s : State) (p : Nat) : Bool := s.pwr.life == .ready && s.hostUp p

/-- A live queue pair of a connection: accepted, and not closed by either side. -/
def State.liveQp (s : State) (conn : Conn) : Option Qp := s.host.qps.find? fun q => q.conn == conn && !q.closing

/-- Whether two connections are of the same endpoint (R347). -/
def sameEndpoint (a b : Conn) : Bool := a.kind == b.kind && (a.kind == 1 || a.ctx == b.ctx)

/-! ### Source addresses (R477) -/

/-- An address stored in memory byte order, as a number in network order. -/
def netOrder (a : Nat) : Nat := ofLeBytes (leBytes 16 a).reverse

/-- Whether an address has a prefix. -/
def prefixHolds (a b len : Nat) : Bool := decide (len ≤ 128) && netOrder a >>> (128 - len) == netOrder b >>> (128 - len)

/-- R348: the source is listed in HST_STEWARD_ALLOW, or in HST_CTX_PEER of the context. -/
def State.allowed (s : State) (addr : Nat) (d : ReqData) : Bool :=
  if d.kind = 1 then
    (List.range 8).any fun j =>
      let w (i : Nat) := s.blk 5 (j * 0x20 + 8 * i)
      (w 2).testBit 8 && prefixHolds addr (w 0 + (w 1 <<< 64)) (bits (w 2) 0 8)
  else
    (List.range 2).any fun j =>
      let w (i : Nat) := s.pg d.ctx (0x0C0 + j * 0x20 + 8 * i)
      (w 2).testBit 8 && w 0 + (w 1 <<< 64) == addr

/-- R348: the four ring settings of a context hold valid host addresses. -/
def State.ringsSet (s : State) (c : Nat) : Bool := [0x080, 0x090, 0x0A0, 0x0B0].all fun off => isHostAddr (s.pg c off)

/-! ### Losing a queue pair (R373) -/

/-- A WRITE that its queue pair no longer carries is held (R505). -/
def HostWrite.hold (w : HostWrite) : HostWrite := { w with sent := false, acked := 0 }

/-- What is in flight on a port's queue pair is held again: its READs, its WRITEs, its keep-alive read (R373, R505). -/
def Ctx.dropFlight (x : Ctx) (port : Nat) : Ctx :=
  { x with
    writes := x.writes.map fun w => if w.port = port ∧ w.sent then w.hold else w
    keepRead := x.keepRead.filter (· != port)
    window := x.window.map fun w => { w with reads := w.reads.map fun r => if r.port = some port ∧ ¬ r.done then { r with port := none } else r } }

/-- A context's last queue pair is lost (R369, R373): its ring becomes ORPHANED, with event 0x0108 in the steward ring and the log. -/
def State.orphan (s : State) (conn : Conn) (cause : Nat) : State :=
  let c := conn.ctx
  if ¬ (s.ctx c).enabled ∨ (s.ctx c).ring = .orphaned then s
  else
    let pay := (conn.port <<< 32) + (cause <<< 40)
    let s := (s.modCtx c fun x => { x.dropFlight conn.port with ringBefore := x.ring }).setRing c .orphaned 0x0108
    let step := s.step c
    let s := s.record 1 0x0108 c 0 ((step <<< 64) + (pay <<< 128))
    s.toSteward { kind := 2, outcome := 0, code := 0x0108, context := c, position := 0, step := step, datum := s.datum, tag := 0,
                  payload := pay }

/-- A context goes on over its other queue pair: its transfers in flight on the lost one are issued again there (R373, R505). -/
def State.moveFlight (s : State) (c from_ : Nat) : State := (s.modCtx c (·.dropFlight from_)).resumeHost c

/-- What the loss of a queue pair does to its endpoint (R373), the queue pair being gone or closing. -/
def State.lostEndpoint (s : State) (conn : Conn) (cause : Nat) : State :=
  if conn.kind = 1 then
    let s := { s with host := { s.host with stewardWrites := s.host.stewardWrites.map HostWrite.hold, stewardKeep := none } }
    s.record 5 0 0xFFFF 0 (sourceBody { via := conn.port, addr := conn.addr, qpn := conn.qpn } 0 2)
  else match s.host.qps.find? fun q => !q.closing && sameEndpoint q.conn conn with
    | some _ => s.moveFlight conn.ctx conn.port
    | none => s.orphan conn cause

/-- Lose a live queue pair for a cause of R502 (0x0108). The module closes it with a DREQ, but for a DREQ of the host, which a DREP
answers, and a host that has restarted. -/
def State.loseQp (s : State) (conn : Conn) (cause : Nat) : State :=
  match s.liveQp conn with
  | none => s
  | some _ =>
    let gone (s : State) : State := s.modHost fun h => { h with qps := h.qps.filter fun q => q.conn != conn }
    let s := if cause = 1 then (gone s).emit (.cm 3 conn []) else if cause = 5 then gone s else s.closeQp conn
    s.lostEndpoint conn cause

/-- DREQ (R345, R373). One that crosses the module's own DREQ is answered too. -/
def execDreq (conn : Conn) (s : State) : Result :=
  .next <|
    if !s.hostHears conn.port then s
    else match s.liveQp conn with
      | some _ => s.loseQp conn 1
      | none =>
        if s.host.qps.any fun q => q.conn == conn then
          (s.modHost fun h => { h with qps := h.qps.filter fun q => q.conn != conn }).emit (.cm 3 conn [])
        else s

/-- DREP (R345): the disconnect of a queue pair that the module closed is complete. -/
def execDrep (conn : Conn) (s : State) : Result :=
  .next <|
    if !s.hostHears conn.port then s
    else s.modHost fun h => { h with qps := h.qps.filter fun q => !(q.conn == conn && q.closing) }

/-- FATAL_NAK (R373, R378, R356): on the steward's queue pair with a ring write outstanding, event 0x0105 enters the trouble log. -/
def execFatalNak (conn : Conn) (s : State) : Result :=
  .next <|
    if !s.hostHears conn.port ∨ s.liveQp conn = none then s
    else
      let s := s.modHost fun h => { h with naks := modAt h.naks conn.port fun n => satAdd 32 n 1 }
      let s := match conn.kind, s.host.stewardWrites with
        | 1, w :: _ =>
          (s.record 1 0x0105 0xFFFF 0 (windowPayload w.bytes.length 0 w.addr 0 true <<< 128)).modHost fun h => { h with stewardHold := 1 }
        | _, _ => s
      s.loseQp conn 2

/-- HOST_TIMEOUT (R373): no response for HST_HOST_TIMEOUT, or the host port link down for as long, also while the module is silent (R416). -/
def execHostTimeout (conn : Conn) (s : State) : Result :=
  .next (if s.pwr.life ≠ .ready ∧ s.pwr.life ≠ .silent then s else s.loseQp conn (if s.hostUp conn.port then 3 else 4))

/-- Whether a host port's SerDes runs: the module is READY and in no safe state, the port's reference is there (R415), and it is not port 1 in
DEEP (R418). -/
def State.hostRuns (s : State) (p : Nat) : Bool := s.pwr.life == .ready && !s.pwr.lost.contains (3 + p) && (p == 0 || s.pwr.current != 2)

/-- HOST_LINK_DOWN (R345, R373): a host port link goes down, or comes up where the port runs. Its queue pairs are lost only after
HST_HOST_TIMEOUT. -/
def execHostLinkDown (port : Nat) (down : Bool) (s : State) : Result :=
  .next <|
    if s.pwr.life = .off ∨ (!down ∧ !s.hostRuns port) then s
    else (s.modHost fun h =>
      if port = 0 then { h with up0 := !down, paused0 := h.paused0 && !down }
      else { h with up1 := !down, paused1 := h.paused1 && !down }).resumeAll

/-! ### Attach (R348, R349, R375) -/

/-- The private data of a REJ (R348). -/
def rejBytes (reason : Nat) : List Byte := leBytes 2 0x4252 ++ leBytes 1 1 ++ leBytes 1 reason ++ leBytes 28 0

/-- Reject a REQ, with event 0x010B (R348, R502). -/
def State.reject (s : State) (conn : Conn) (d : ReqData) (reason : Nat) : State :=
  (s.emit (.cm 2 conn (rejBytes reason))).raise 0x010B
    (reason + ((d.kind % 256) <<< 8) + ((d.ctx % 65536) <<< 16) + (conn.port <<< 32) + (((conn.addr >>> 64) % 2 ^ 64) <<< 128))

/-- The private data of the REP to a context REQ (R349). -/
def State.repBytes (s : State) (c rkey : Nat) : List Byte :=
  let x := s.ctx c
  leBytes 2 1 ++ leBytes 1 x.ring.code ++ leBytes 1 0 ++ leBytes 4 rkey ++ leBytes 8 (doorbellAddr c 0) ++ leBytes 8 x.fetchPos ++
    leBytes 8 x.retirePos ++ leBytes 8 x.eventPos ++ leBytes 8 x.tallyPos ++ leBytes 8 x.fired ++ leBytes 8 0

/-- The private data of the REP to a steward REQ (R349). -/
def stewardRepBytes (rkey : Nat) : List Byte := leBytes 4 0 ++ leBytes 4 rkey ++ leBytes 56 0

/-- The writes that were not acknowledged before a loss, as they are issued after re-attach, through the rings in force (R375, R505):
entries in their slots of the new ring; tally records and the status block are written anew. -/
def State.renewed (s : State) (c : Nat) (ws : List HostWrite) : List HostWrite :=
  ws.filterMap fun w => match w.kind with
    | .entry pos => some { w.hold with addr := s.pg c 0x090 + (pos % s.eventEntries c) * 64 }
    | .output _ => some w.hold
    | .left => some w.hold
    | _ => none

/-- Re-attach an ORPHANED context (R369, R375). -/
def State.reattach (s : State) (c port : Nat) : State :=
  let x := s.ctx c
  let ws := s.renewed c x.writes
  let s := s.setCtx c
    { x with ring := x.ringBefore, ringReason := 0x0109, statusDirty := true, eventConsumer := x.eventPos, tallyPos := x.tallyDone,
             tallyConsumer := x.tallyDone, cmdProducer := x.fetchPos, reread := none, ringOut := false, writes := ws,
             tallies := x.tallies.map fun t => if t.delivered then t else { t with written := false, acked := false } }
  s.raiseCtx c none 0x0109 (port <<< 32)

/-- Accept a steward REQ: a kind-5 record, and the entries not acknowledged wait for the connection (R356, R437). -/
def State.acceptSteward (s : State) (conn : Conn) (resources : Nat) : State :=
  let (k, s) := s.drawFresh
  let rkey := k % 2 ^ 32
  let ring := s.blk 5 0x100
  let n := 2 ^ (bits (s.blk 5 0x108) 32 4 + 6)
  let s := s.modHost fun h => { h with
    qps := { conn := conn, rkey := rkey, reads := min 16 resources } :: h.qps.filter fun q => !(q.closing && q.conn.kind == 1)
    stewardHold := if h.stewardHold = 2 then 0 else h.stewardHold
    stewardWrites := h.stewardWrites.filterMap fun w => match w.kind with
      | .entry pos => some { w.hold with addr := ring + (pos % n) * 64 }
      | _ => none }
  (s.record 5 0 0xFFFF 0 (sourceBody { via := conn.port, addr := conn.addr, qpn := conn.qpn } 0 1)).emit (.cm 1 conn (stewardRepBytes rkey))

/-- Accept a context REQ: the REP gives the positions; an ORPHANED context is re-attached (R349, R375). Its doorbell page has one rkey
while a queue pair of the context is live. -/
def State.acceptContext (s : State) (conn : Conn) (resources : Nat) : State :=
  let c := conn.ctx
  let (rkey, s) := match s.host.qps.find? fun q => !q.closing && sameEndpoint q.conn conn with
    | some q => (q.rkey, s)
    | none => let (k, s) := s.drawFresh; (k % 2 ^ 32, s)
  let s := s.modHost fun h => { h with
    qps := { conn := conn, rkey := rkey, reads := min 16 resources } :: h.qps.filter fun q => !(q.closing && sameEndpoint q.conn conn && q.conn.port == conn.port) }
  let s := if (s.ctx c).ring = .orphaned then s.reattach c conn.port else s
  s.emit (.cm 1 conn (s.repBytes c rkey))

/-- Whether the endpoint of a REQ is busy (R348). -/
def State.busy (s : State) (conn : Conn) : Bool :=
  s.host.qps.any fun q => !q.closing && sameEndpoint q.conn conn && (conn.kind == 1 || q.conn.port == conn.port)

/-- Decide a REQ (R348): one from the source of a live queue pair of the same endpoint and port shows that one lost, whatever it says. -/
def State.request (s : State) (conn : Conn) (d : ReqData) : State :=
  let s := match s.host.qps.find? fun q =>
      !q.closing && sameEndpoint q.conn conn && q.conn.port == conn.port && q.conn.addr == conn.addr with
    | some q => s.loseQp q.conn 5
    | none => s
  if d.magic ≠ 0x4252 ∨ d.version ≠ 1 ∨ ¬ (d.kind = 1 ∨ d.kind = 2 ∧ d.ctx ≤ 1023) ∨ ¬ d.reservedZero then s.reject conn d 4
  else if !s.allowed conn.addr d then s.reject conn d 1
  else if s.busy conn then s.reject conn d 2
  else if d.kind = 1 then s.acceptSteward conn d.resources
  else if !(s.ctx d.ctx).enabled || !s.ringsSet d.ctx then s.reject conn d 3
  else s.acceptContext conn d.resources

/-- REQ (R348). -/
def execReq (port addr qpn : Nat) (d : ReqData) (s : State) : Result :=
  .next <|
    if !s.hostHears port then s
    else s.request { kind := d.kind, ctx := if d.kind = 2 then d.ctx else 0, port := port, addr := addr, qpn := qpn } d

/-- RTU (R345): the connection is complete; the transfers that waited for it go out, in order (R350, R375, R505). -/
def execRtu (conn : Conn) (s : State) : Result :=
  .next <|
    match s.liveQp conn with
    | none => s
    | some q =>
      if !s.hostHears conn.port ∨ q.est then s
      else
        let s := s.modHost fun h => { h with qps := h.qps.map fun q => if q.conn = conn then { q with est := true } else q }
        if conn.kind = 1 then s.sendSteward else s.resumeHost conn.ctx

/-! ### Accesses that are refused (R352, R380) -/

/-- Answer a NAK, and raise event 0x0106 at most once per source and millisecond, with a count (R352, R380, R502). -/
def State.refuseInbound (s : State) (conn : Conn) (addr : Nat) : State :=
  let s := (s.emit (.nak conn)).modHost fun h => { h with refused := satAdd 32 h.refused 1 }
  let tell (s : State) (n : Nat) : State :=
    s.raise 0x0106 (min n (2 ^ 32 - 1) + ((conn.qpn % 2 ^ 24) <<< 32) + ((addr % 2 ^ 64) <<< 64) + (((conn.addr >>> 64) % 2 ^ 64) <<< 128))
  match s.host.refusedIn.find? fun x => x.1 == conn.addr with
  | some (_, t, n) =>
    if s.datum < t + 1000000 then
      s.modHost fun h => { h with refusedIn := h.refusedIn.map fun (x : Nat × Nat × Nat) => if x.1 = conn.addr then (x.1, t, n + 1) else x }
    else
      tell (s.modHost fun h => { h with refusedIn := h.refusedIn.map fun (x : Nat × Nat × Nat) =>
        if x.1 = conn.addr then (x.1, s.datum, 0) else x }) (n + 1)
  | none => tell (s.modHost fun h => { h with refusedIn := (conn.addr, s.datum, 0) :: h.refusedIn }) 1

/-! ### Inbound windows (R352, R353) -/

/-- A valid inbound window (R478). -/
structure InWindow where
  num : Nat
  base : Nat
  len : Nat
  scratch : Bool
  ctx : Nat
  steward : Bool
deriving DecidableEq, Repr

/-- The valid inbound window with an rkey. -/
def State.inWindow (s : State) (rkey : Nat) : Option InWindow :=
  ((List.range 64).find? fun w => (s.blk 5 (0x410 + 0x20 * w)).testBit 0 && s.blk 5 (0x418 + 0x20 * w) % 2 ^ 32 == rkey).map fun w =>
    let c := s.blk 5 (0x410 + 0x20 * w)
    { num := w, base := s.blk 5 (0x400 + 0x20 * w), len := s.blk 5 (0x408 + 0x20 * w), scratch := c.testBit 1, ctx := bits c 2 10,
      steward := c.testBit 12 }

/-- Whether a connection is the window's owner and the range lies in the window. -/
def InWindow.grants (w : InWindow) (conn : Conn) (addr n : Nat) : Bool :=
  (if w.steward then conn.kind == 1 else conn.kind == 2 && conn.ctx == w.ctx) && decide (w.base ≤ addr ∧ addr + n ≤ w.base + w.len)

/-- Event 0x0107 in the event ring of the window's owner (R353, R502). -/
def State.readPoison (s : State) (w : InWindow) (write : Bool) (addr n : Nat) : State :=
  let pay := n % 2 ^ 32 + (w.num <<< 32) + ((if w.scratch then 1 else 0) <<< 40) + ((if write then 1 else 0) <<< 48) + (addr <<< 64)
  if w.steward then s.raise 0x0107 pay else s.raiseCtx w.ctx none 0x0107 pay

/-- The fill of a poisoned burst or a lost parcel (R353). -/
def fillBytes (n : Nat) : List Byte := List.replicate n 0xFF

/-- Module memory as a host reads it: a poisoned burst is filled; true when one was met. -/
def State.hostBytes (s : State) (m n : Nat) : State × List Byte × Bool :=
  if s.upsets.any fun u => decide (u.1 + 64 > m ∧ u.1 < m + n) then
    let (s, bs, bad) := (burstsOf m n).foldl (fun (acc : State × List Byte × Bool) b =>
      let (s, x) := acc.1.readBurst b [] .read
      match x with
      | .data d => (s, acc.2.1 ++ d, acc.2.2)
      | .poisoned _ => (s, acc.2.1 ++ fillBytes 64, true)) (s, [], false)
    (s, (bs.drop (m % 64)).take n, bad)
  else (s, Memory.getBytes s.mem m n, false)

/-- Read a structure of the module's own outside any step: a reserved range is not read, with event 0x0305 (R165); whether it holds poison. -/
def State.peek (s : State) (a n : Nat) : State × Bool :=
  if !inMemory a n then (s.raise 0x0305 (reservedPayload false a 0), false)
  else match s.readBytes a n with
    | (s, .ok _) => (s, false)
    | (s, .error _) => (s, true)

/-- Read a parcel's lot entry and its entry in the leaf block outside any step (R225 to R227, R165). -/
def State.peekEntry (s : State) (c p : Nat) : State × Bool :=
  if p / 512 ≥ s.pg c 0x020 then (s, false)
  else match s.peek (s.pg c 0x018 + 8 * (p / 512)) 8 with
    | (s, true) => (s, true)
    | (s, false) => match s.entryAddr c p with
      | some a => s.peek a 8
      | none => (s, false)

/-- A piece of one parcel's fired contents (R19, R353); none when the parcel is outside the plat or its entry is damaged. Where the entry
itself is poisoned the whole piece is (R353). -/
def State.hostParcel (s : State) (c p off n : Nat) : Option (State × List Byte × Bool) :=
  let (s, bad) := s.peekEntry c p
  if bad then some (s, fillBytes n, true)
  else match s.firedEntry c p with
  | none => none
  | some e =>
    if e.where_ = 3 then none
    else if e.where_ = 1 then some (s.hostBytes (e.frame + off) n)
    else if e.lost then some (s, fillBytes n, true)
    else if e.where_ = 0 then some (s, List.replicate n 0, false)
    else match alook (homeKey c p) s.tier.homes with
      | some h => if h.lost then some (s, fillBytes n, true) else some (s, Memory.getBytes h.image off n, false)
      | none => some (s, fillBytes n, true)

/-- Fired contents of a range of context addresses. -/
def State.hostState (s : State) (c : Nat) : List (Nat × Nat × Nat) → Option (State × List Byte × Bool)
  | [] => some (s, [], false)
  | (p, off, n) :: rest =>
    match s.hostParcel c p off n with
    | none => none
    | some (s, bs, bad) =>
      match s.hostState c rest with
      | none => none
      | some (s, cs, worse) => some (s, bs ++ cs, bad || worse)

/-- Answer a READ. -/
def State.answerRead (s : State) (conn : Conn) (bs : List Byte) : State :=
  (s.emit (.readData conn bs)).modHost fun h => { h with hostRead := modAt h.hostRead conn.port fun k => (k + bs.length) % 2 ^ 64 }

/-- Acknowledge a WRITE of n bytes. -/
def State.answerWrite (s : State) (conn : Conn) (n : Nat) : State :=
  (s.emit (.writeAck conn)).modHost fun h => { h with hostWritten := modAt h.hostWritten conn.port fun k => (k + n) % 2 ^ 64 }

/-- Read through an inbound window (R353). -/
def State.windowRead (s : State) (w : InWindow) (conn : Conn) (addr n : Nat) : State :=
  let got : Option (State × List Byte × Bool) :=
    if w.scratch then (if inMemory addr n then some (s.hostBytes addr n) else none)
    else if (s.ctx w.ctx).enabled then s.hostState w.ctx (pieces addr n) else none
  match got with
  | none => s.refuseInbound conn addr
  | some (s, bs, bad) =>
    let s := if bad then s.readPoison w false addr n else s
    s.answerRead conn bs

/-- Put the part of a write that falls into one burst (R175, R224): a poisoned burst takes only a write of the whole of it. -/
def State.hostBurst (s : State) (b m : Nat) (bs : List Byte) : State × Bool :=
  let lo := max b m
  let part := (bs.drop (lo - m)).take (min (b + 64) (m + bs.length) - lo)
  if part.length = 64 ∨ s.upset b = [] then (s.poke lo part, false)
  else
    let (s, x) := s.readBurst b [] .read
    match x with
    | .data good => ((s.poke b good).poke lo part, false)
    | .poisoned _ => (s, true)

/-- Write through a scratch window (R353). -/
def State.windowWrite (s : State) (w : InWindow) (conn : Conn) (addr : Nat) (bs : List Byte) : State :=
  if !w.scratch || !inMemory addr bs.length then s.refuseInbound conn addr
  else
    let (s, bad) := (burstsOf addr bs.length).foldl (fun (acc : State × Bool) b =>
      let (s, worse) := acc.1.hostBurst b addr bs
      (s, acc.2 || worse)) (s, false)
    let s := if bad then s.readPoison w true addr bs.length else s
    s.answerWrite conn bs.length

/-! ### Doorbell pages and the register space (R352, R360, R462) -/

/-- Whether a connection may reach context c's doorbell page: the context's queue pairs, and the steward. -/
def mayRing (conn : Conn) (c : Nat) : Bool := conn.kind == 1 || (conn.kind == 2 && conn.ctx == c)

/-- A write to a doorbell page (R360). -/
def State.ringDoorbell (s : State) (c off : Nat) (bs : List Byte) : State :=
  let v := ofLeBytes bs
  if bs.length ≠ 8 ∨ off % 8 ≠ 0 then s.doorbellBad c off 1 v
  else match off with
    | 0 => s.cmdProducer c 8 (BitVec.ofNat 64 v)
    | 8 => s.eventConsumer c 8 (BitVec.ofNat 64 v)
    | 16 => s.tallyConsumer c 8 (BitVec.ofNat 64 v)
    | 24 => s.resume c 8 (BitVec.ofNat 64 v)
    | _ => s

/-- Whether the steward may read a range of the register space (R462). -/
def regRange (addr n : Nat) : Bool :=
  match areaOf addr with
  | some (_, hi) => decide (0 < n ∧ addr % 8 = 0 ∧ n % 8 = 0 ∧ addr + n ≤ hi)
  | none => false

/-- Whether an address lies in a window of the register space, which is read-only (R462). -/
def inRegWindow (addr : Nat) : Bool :=
  match place addr with
  | .logWindow _ => true
  | .witnessWindow _ => true
  | _ => false

/-- INBOUND_RDMA_READ (R352, R353, R462). WO fields read zero (R7). In DEEP the DRAM is in self-refresh (R418), and an access to a window gets no
answer (log entry 102). -/
def execInboundRdmaRead (conn : Conn) (rkey addr len : Nat) (s : State) : Result :=
  .next <|
    match s.liveQp conn with
    | none => s
    | some q =>
      if !s.hostHears conn.port ∨ !q.est then s
      else match s.inWindow rkey with
        | some w =>
          if !w.grants conn addr len then s.refuseInbound conn addr
          else if s.pwr.current = 2 then s
          else s.windowRead w conn addr len
        | none =>
          if q.rkey ≠ rkey then s.refuseInbound conn addr
          else match place addr with
            | .doorbell c off =>
              if mayRing conn c && decide (off + len ≤ 0x1000) then s.answerRead conn (List.replicate len 0) else s.refuseInbound conn addr
            | _ =>
              if conn.kind = 1 && regRange addr len then
                let (s, bs) := s.readWords s.bankS addr (len / 8)
                s.answerRead conn bs
              else s.refuseInbound conn addr

/-- INBOUND_RDMA_WRITE (R353, R360, R462); a window takes none in DEEP, as in INBOUND_RDMA_READ. -/
def execInboundRdmaWrite (conn : Conn) (rkey addr : Nat) (bs : List Byte) (s : State) : Result :=
  .next <|
    match s.liveQp conn with
    | none => s
    | some q =>
      if !s.hostHears conn.port ∨ !q.est then s
      else match s.inWindow rkey with
        | some w =>
          if !w.grants conn addr bs.length then s.refuseInbound conn addr
          else if s.pwr.current = 2 then s
          else s.windowWrite w conn addr bs
        | none =>
          if q.rkey ≠ rkey then s.refuseInbound conn addr
          else match place addr with
            | .doorbell c off =>
              if mayRing conn c && decide (off + bs.length ≤ 0x1000) then (s.ringDoorbell c off bs).answerWrite conn bs.length
              else s.refuseInbound conn addr
            | _ =>
              if conn.kind = 1 && regRange addr bs.length && bs.length == 8 && !inRegWindow addr then
                (s.writeReg { via := conn.port, addr := conn.addr, qpn := conn.qpn } addr (ofLeBytes bs)).answerWrite conn 8
              else s.refuseInbound conn addr

/-! ### The host ports themselves (R345) -/

/-- CONGESTION_NOTIFICATION_PACKET (R345, R378): counted, and the requester responds. -/
def execCongestionNotificationPacket (port : Nat) (s : State) : Result :=
  .next <|
    if !s.hostHears port then s
    else (s.modHost fun h => { h with cnps := modAt h.cnps port fun n => satAdd 32 n 1 }).emit (.hostTx port 2)

/-- PFC_PAUSE_FRAME (R345): on the configured priority, it pauses or resumes the port's transmission. -/
def execPfcPauseFrame (port prio : Nat) (pause : Bool) (s : State) : Result :=
  .next <|
    let cfg := s.blk 5 0x148
    if !s.hostHears port ∨ !cfg.testBit 3 ∨ bits cfg 0 3 ≠ prio then s
    else
      ((s.modHost fun h => if port = 0 then { h with paused0 := pause } else { h with paused1 := pause }).emit
        (.hostTx port (if pause then 0 else 1))).resumeAll

end Sys2Proof.Machine
end

