-- ==== Sys2Proof/Machine/Kilns.lean ====
section
/-! DEFINITION. Dispatch and kiln commands: FENCE, DISPATCH, WAIT_SWITCH_THRESHOLD, QUANTUM, SWITCH_COMPLETE, CREDIT_WAIT_LONG
(R81 to R89, R102). -/

namespace Sys2Proof.Machine

/-- FENCE (R89): completes; dispatch has already waited for every earlier operation when it is unlaned, or of its lane. -/
def execFence (a : OpArg) (s : State) : Result :=
  opCmd a s 0x01 (do needZero 24 104)

/-- Mark an operation dispatched, its kilns RUNNING (R83, R85). -/
def State.start (s : State) (c : Nat) (w : WinOp) : State :=
  let last := ((s.ctx c).window.map (·.turn)).foldl max 0
  let s := s.modWin c w.pos fun v => { v with st := .running, turn := last + 1 }
  if usesKiln w.desc then
    (s.opKilns c w.desc).foldl (fun s k => (s.endStarve k).modKiln k fun x => { x with st := .running }) s
  else s

/-- Dispatch the oldest operation of the window that satisfies R85; a descriptor that breaks R84 or R503 is refused. A kiln that
does not hold the context is switched first, to the ready context that R81 chooses (R83). -/
def State.dispatch (s : State) (c : Nat) : State :=
  let x := s.ctx c
  if s.pwr.life ≠ .ready ∨ ¬ stepRuns x ∨ ¬ ringDispatches x ∨ s.eventsOver c ≥ 4096 then s
  else
    match x.window.find? fun w => eligible x.window w with
    | none => s
    | some w =>
      if s.pwr.current = 2 then s
      else if s.pwr.current = 1 then s.wake
      else if s.pwr.transition.isSome then s.wake
      else
        let s := if x.step = .stopped ∧ ¬ x.loading then s.modCtx c fun x => { x with step := .running, fresh := false } else s
        match s.headerFault c w.desc with
        | some (off, bit) => s.failOp c w 1 0x06C0 (refusal off bit w.pos)
        | none =>
          if !usesKiln w.desc then s.start c w
          else
            let ks := s.opKilns c w.desc
            if ks.all fun k => s.holds k c then s.start c w else s.callKilns c ks

/-- DISPATCH (R85). -/
def execDispatch (c : Nat) (s : State) : Result := .next (s.dispatch c)

/-- WAIT_SWITCH_THRESHOLD (R81 case 2): a starving kiln whose context has had nothing dispatchable for the threshold takes another
ready context. A threshold of 0 is off (R79). -/
def execWaitSwitchThreshold (k : Nat) (s : State) : Result :=
  .next <|
    let x := s.kiln k
    match x.st, x.ctx with
    | .starving, some c =>
      let t := s.pg c 0x068
      if t ≠ 0 ∧ s.datum ≥ x.since + t * 1000 then
        (match s.nextFor k c with
         | some d => s.startSwitch k (some d)
         | none => s)
      else s
    | _, _ => s

/-- QUANTUM (R81 case 3): a kiln that has run its context for its quantum takes another ready context of equal priority. -/
def execQuantum (k : Nat) (s : State) : Result :=
  .next <|
    let x := s.kiln k
    match x.ctx with
    | some c =>
      if (x.st = .running ∨ x.st = .starving) ∧ s.datum ≥ x.takenAt + s.pg c 0x060 * 1000 then
        (match s.nextFor k c with
         | some d => if s.priority d = s.priority c then s.startSwitch k (some d) else s
         | none => s)
      else s
    | none => s

/-- SWITCH_COMPLETE (R82, R83), in RUN alone (R415, R418): the outgoing state is saved, the incoming restored; RUNNING, or IDLE when none is ready. What the incoming
context met meanwhile was held, and acts now: it may have parked, or have nothing dispatchable. -/
def execSwitchComplete (k : Nat) (s : State) : Result :=
  .next <|
    let x := s.kiln k
    if x.st ≠ .switching ∨ s.pwr.life ≠ .ready ∨ s.pwr.current ≠ 0 then s
    else
      let s := match x.save, x.ctx with
        | true, some c => s.saveKiln k c
        | _, _ => s
      match x.next with
      | some c =>
        ((s.restoreKiln k c).modKiln k fun x =>
          { x with st := .running, ctx := some c, next := none, left := x.ctx.or x.left, save := false, takenAt := s.datum, since := s.datum,
                   starving := none }).settleKiln c k
      | none => s.modKiln k fun x => { x with st := .idle, ctx := none, next := none, left := x.ctx.or x.left, save := false, since := s.datum, starving := none }

/-- CREDIT_WAIT_LONG (R102): event 0x06C3 once for an operation that waits for a credit or an arrival; the wait continues. -/
def execCreditWaitLong (c pos : Nat) (s : State) : Result :=
  .next <|
    match s.winOp c pos with
    | none => s
    | some w =>
      let kind := match w.wait with
        | some .queueCredit => 1
        | some .queueArrival => 2
        | _ => 0
      if kind = 0 ∨ w.told then s
      else
        (s.modWin c pos fun v => { v with told := true }).raiseCtx c (some pos) 0x06C3
          (w.desc.field 24 1 + (kind <<< 8) + ((pos % 2 ^ 64) <<< 64))

end Sys2Proof.Machine
end

