-- ==== Sys2Proof/Machine/Links.lean ====
section
/-! DEFINITION. Flits and tray accesses (R295 to R301, R304, R312): DATA_FLIT, IDLE_FLIT, REPLAY_REQUEST, LANE_CONTROL,
TRAY_READ_REQUEST, TRAY_READ_RESPONSE, TRAY_WRITE. -/

namespace Sys2Proof.Machine

/-! ### Tray accesses (R312) -/

/-- Whether a range lies in the scratch range or in the queue slots that a context receives into (R312). -/
def State.inJobRanges (s : State) (c a n : Nat) : Bool :=
  let base := s.pg c 0x028
  decide (base ≤ a ∧ a + n ≤ base + s.pg c 0x030) ||
    (List.range 64).any fun id => match s.queueRec c id with
      | some q => q.recv && (s.trayOf q.base).isNone && decide (bits q.base 0 40 ≤ a ∧ a + n ≤ bits q.base 0 40 + q.slots * q.slotBytes)
      | none => false

/-- Why a tray access to `n` bytes is refused at its target, if it is: 3 reserved range, 2 outside the job's ranges (R312, R502). -/
def State.trayFault (s : State) (p : Packet) (a n : Nat) : Option Nat :=
  if !inMemory a (max n 1) then some 3
  else match s.ctxOfJob p.job with
    | some c => if s.inJobRanges c a n then none else some 2
    | none => some 2

/-- Refuse a tray access at its target. -/
def State.trayRefuse (s : State) (p : Packet) (read : Bool) (cause a : Nat) : State :=
  (s.raise 0x0507 (trayPayload (s.gridRef % 8) read cause a)).trayAbort p.job

/-- Perform a memory access of the packet's job at the target; poison aborts its step (R240). -/
def State.trayRun {α : Type} (s : State) (p : Packet) (dflt : α) (body : Op α) : State × α :=
  let c := (s.ctxOfJob p.job).getD 0
  match body.run { s := s, c := c, pos := 0, d := 0 } with
  | (.ok v, r) => (r.s, v)
  | (.error (.abort code payload), r) => ((r.s.raiseCtx c none code payload).abortStep c (r.s.rank c) code, dflt)
  | (.error _, r) => (r.s, dflt)

/-- Answer a read: the data, or no data for a refused read, which its source reads as zero (log entry 20). -/
def State.trayAnswer (s : State) (p : Packet) (a n : Nat) (data : List Byte) : State :=
  s.sendPacket { dest := p.src, src := s.gridRef, vc := 1, type := 0x19, slots := max 1 (ceilDiv (16 + data.length) 64), hops := 0,
                 job := p.job, body := .tray a n data }

/-- TRAY_READ_REQUEST (R312). -/
def execTrayReadRequest (p : Packet) (s : State) : Result :=
  .next <|
    if s.pwr.life ≠ .ready ∨ p.type ≠ 0x18 then s
    else if ¬ s.isMine p then s.forward 0 p
    else match p.body with
      | .tray a n _ =>
        match s.trayFault p a n with
        | some cause => (s.trayRefuse p true cause a).trayAnswer p a n []
        | none =>
          let (s, data) := s.trayRun p [] (rdMod a n)
          s.trayAnswer p a n data
      | _ => s

/-- TRAY_READ_RESPONSE (R312): no data shows that the read was refused; the source raises the event as well. -/
def execTrayReadResponse (p : Packet) (s : State) : Result :=
  .next <|
    if s.pwr.life ≠ .ready ∨ p.type ≠ 0x19 then s
    else if ¬ s.isMine p then s.forward 0 p
    else match p.body with
      | .tray a n [] => if n = 0 then s else (s.raise 0x0507 (trayPayload (p.src % 8) true 2 a)).trayAbort p.job
      | _ => s

/-- TRAY_WRITE (R312). -/
def execTrayWrite (p : Packet) (s : State) : Result :=
  .next <|
    if s.pwr.life ≠ .ready ∨ p.type ≠ 0x1A then s
    else if ¬ s.isMine p then s.forward 0 p
    else match p.body with
      | .tray a _ data =>
        match s.trayFault p a data.length with
        | some cause => s.trayRefuse p false cause a
        | none => (s.trayRun p () (wrMod a data)).1
      | _ => s

/-! ### Delivery of packets -/

/-- Go on with a next state. -/
def andThen (r : Result) (f : State → Result) : Result :=
  match r with
  | .next s => f s
  | .fault e => .fault e
  | .refused e => .refused e

/-- The packet types that R298, R299 and R330 allocate. -/
def typeKnown (t : Nat) : Bool :=
  decide (1 ≤ t ∧ t ≤ 7) || t == 0x10 || decide (0x18 ≤ t ∧ t ≤ 0x1A) || decide (0x20 ≤ t ∧ t ≤ 0x22) || t == 0x28 || t == 0x29

/-- A packet that a port has wholly received (R298, R300, R311): HELLO, discarded when its type is reserved, forwarded, or handled by
its type. -/
def State.deliver (s : State) (port : Nat) (p : Packet) : Result :=
  if p.type = 0x10 then execHello port p s
  else if !(s.port port).usable then .next s
  else if !typeKnown p.type then .next (s.discard port p)
  else if !s.isMine p then .next (s.forward port p)
  else if p.type = 0x01 then execBent p s
  else if p.type = 0x02 then execAbort p s
  else if p.type = 0x03 then execFire p s
  else if p.type = 0x04 then execVoid p s
  else if p.type = 0x05 then execHeartbeat p s
  else if p.type = 0x06 then execDigest p s
  else if p.type = 0x07 then execLost p s
  else if p.type = 0x18 then execTrayReadRequest p s
  else if p.type = 0x19 then execTrayReadResponse p s
  else if p.type = 0x1A then execTrayWrite p s
  else if p.type = 0x20 then execReady p s
  else if p.type = 0x21 then execData p s
  else if p.type = 0x22 then execFinish p s
  else if p.type = 0x28 then execQueueData p s
  else if p.type = 0x29 then execQueueCredit p s
  else .next (s.discard port p)

/-- Free slots of a packet that have left their buffer (R297). -/
def State.freeSlots (s : State) (port : Nat) (p : Packet) (n : Nat) : State :=
  s.modPort port fun x => { x with freed := modAt x.freed p.vc fun k => k + n }

/-- Take one piece of a packet: a packet whose slots are all here is delivered, and its buffer is freed (R297). The rest of a packet whose
first slots have been dropped is dropped. A READY without a free record waits in the buffer of VC1, and what comes after it on VC1 behind it
(R329). -/
def State.takePiece (s : State) (port : Nat) (q : Piece) : Result :=
  let x := s.port port
  let old := (x.partials.find? fun y => y.1 == q.pkt).map (·.2)
  let rest := x.partials.filter fun y => y.1 != q.pkt
  let have_ := (if q.first = 0 then 0 else old.getD 0) + q.count
  if q.first ≠ 0 ∧ old.isNone then .next (s.freeSlots port q.pkt q.count)
  else if have_ < q.pkt.slots then .next (s.setPort port { x with partials := rest ++ [(q.pkt, have_)] })
  else if q.pkt.vc = 1 ∧ x.usable ∧ (x.vc1wait ≠ [] ∨ s.readyWaits q.pkt) then
    .next (s.setPort port { x with partials := rest, vc1wait := x.vc1wait ++ [q.pkt] })
  else ((s.setPort port { x with partials := rest }).freeSlots port q.pkt q.pkt.slots).deliver port q.pkt

/-- Deliver what waits in the buffer of VC1, up to a READY that still finds no record free (R329). -/
def State.drainVc1 (s : State) (port : Nat) : Nat → Result
  | 0 => .next s
  | n + 1 =>
    match (s.port port).vc1wait with
    | [] => .next s
    | q :: rest =>
      if s.readyWaits q then .next s
      else andThen (((s.modPort port fun x => { x with vc1wait := rest }).freeSlots port q q.slots).deliver port q) fun s => s.drainVc1 port n

/-- Take the pieces of a flit in order. -/
def State.takePieces (s : State) (port : Nat) : List Piece → Result
  | [] => .next s
  | q :: rest => andThen (s.takePiece port q) fun s => s.takePieces port rest

/-! ### Flits -/

/-- Whether an ack lies in the sender's window: the last flit acked, or one still unacked (R303). -/
def Port.ackOk (x : Port) (ack : Nat) : Bool :=
  let oldest := match x.replay with
    | f :: _ => f.seq
    | [] => x.txSeq
  decide ((ack + 4096 + 1 - oldest) % 4096 ≤ x.replay.length)

/-- Receive the header of a flit (R296, R301, R303): credits, and the ack that clears the replay buffer. -/
def State.takeHeader (s : State) (port : Nat) (h : FlitHdr) : State :=
  let s := s.modPort port fun x =>
    { x with credits := (List.zipWith (· + ·) x.credits h.credits).zipWith min [64, 16384, 8192, 64] }
  let x := s.port port
  if !h.ackValid then s
  else if !x.ackOk (h.ack % 4096) then s.linkDown port 5
  else
    let oldest := match x.replay with
      | f :: _ => f.seq
      | [] => x.txSeq
    let n := (h.ack % 4096 + 4096 + 1 - oldest) % 4096
    s.setPort port { x with replay := x.replay.drop n, stuck := if n = 0 then x.stuck else 0 }

/-- Send one replay request for a bad flit, with the last in-order sequence (R301). -/
def State.askReplay (s : State) (port : Nat) : State :=
  let x := s.port port
  if x.asking then s else (s.setPort port { x with asking := true }).sendBare port 2 0

/-- Whether a flit came with an uncorrectable codeword or a failing CRC (R301). -/
def rxBad (rx : RxReport) : Bool := !rx.crcOk || rx.errors.any fun e => (fecCorrected e).isNone

/-- What the codewords of a flit showed: lane, corrected symbols, uncorrectable codewords (R295, R296). -/
def Port.laneReport (x : Port) (rx : RxReport) : List (Nat × Nat × Nat) :=
  ((dealLanes x.lanes x.rxTurn).zip rx.errors).map fun e => (e.1, (fecCorrected e.2).getD 0, if (fecCorrected e.2).isNone then 1 else 0)

/-- Count what the receiver's code found on each lane, keep what the last millisecond showed, and take the eye measured (R304, R314). -/
def State.countLanes (s : State) (port : Nat) (rx : RxReport) : State :=
  s.modPort port fun x =>
    let seen := x.laneReport rx
    let of (i : Nat) (f : Nat × Nat × Nat → Nat) : Nat := ((seen.filter (·.1 == i)).map f).sum
    let eye := rx.eye.getD (x.eyeHeight, x.eyeWidth)
    { x with
      laneCs := x.laneCs.mapIdx fun i n => satAdd 64 n (of i (·.2.1))
      laneUcw := x.laneUcw.mapIdx fun i n => satAdd 32 n (of i (·.2.2))
      recent := (x.recent.filter fun e => decide (s.datum < e.1 + 1000000)) ++ (seen.filter fun e => e.2 != (0, 0)).map fun e => (s.datum, e)
      rxTurn := nextTurn x.lanes x.rxTurn
      eyeHeight := eye.1
      eyeWidth := eye.2 }

/-- Whether a port still has a link after what it received. -/
def State.stillLinked (s : State) (port : Nat) : Bool := (s.port port).linked

/-- Take a flit that a linked port receives: its codewords are counted, `good` is what it does when it came whole, `lost` when not; lanes that
have reached a limit then fail (R301, R304). -/
def State.takeFlit (s : State) (port : Nat) (rx : RxReport) (lost : State → State) (good : State → Result) : Result :=
  if ¬ s.stillLinked port ∨ s.pwr.life ≠ .ready then .next s
  else
    let s := s.countLanes port rx
    andThen (if rxBad rx then .next (lost s) else good s) fun s => .next (s.failLanes port)

/-- DATA_FLIT (R296, R297, R301): a bad flit is discarded and asked for again; a good one is acked at the latest after 32. -/
def execDataFlit (port : Nat) (f : Flit) (rx : RxReport) (s : State) : Result :=
  s.takeFlit port rx (·.askReplay port) fun s =>
    if f.seq ≠ (s.port port).rxSeq then .next (s.askReplay port)
    else
      let s := s.takeHeader port f.hdr
      if !s.stillLinked port then .next s
      else
        let s := s.modPort port fun x =>
          { x with rxSeq := (x.rxSeq + 1) % 4096, unacked := x.unacked + 1, asking := false, flitsRx := (x.flitsRx + 1) % 2 ^ 64 }
        andThen (s.drainVc1 port (s.port port).vc1wait.length) fun s => andThen (s.takePieces port f.pieces) fun s =>
          let s := s.pump port
          let x := s.port port
          if x.unacked ≥ 32 ∧ x.linked then .next (s.sendBare port 1 0) else .next s

/-- IDLE_FLIT (R296, R301): its header only; what waits in VC1 is tried again. -/
def execIdleFlit (port : Nat) (h : FlitHdr) (rx : RxReport) (s : State) : Result :=
  s.takeFlit port rx id fun s =>
    let s := s.takeHeader port h
    if s.stillLinked port then andThen (s.drainVc1 port (s.port port).vc1wait.length) fun s => .next (s.pump port) else .next s

/-- REPLAY_REQUEST (R301): every flit after its ack is sent again. -/
def execReplayRequest (port : Nat) (h : FlitHdr) (rx : RxReport) (s : State) : Result :=
  s.takeFlit port rx id fun s =>
    let s := s.takeHeader port h
    .next (if s.stillLinked port then s.replay port else s)

/-- LANE_CONTROL (R304): the far end has spared a lane; this end drops it too. -/
def execLaneControl (port : Nat) (h : FlitHdr) (mask : Nat) (rx : RxReport) (s : State) : Result :=
  s.takeFlit port rx id fun s =>
    let s := s.takeHeader port h
    let x := s.port port
    match (List.range 4).find? fun i => x.lanes.testBit i && !mask.testBit i with
    | some lane => .next (if x.linked ∧ laneCount x.lanes = 4 then s.spare port lane false else s)
    | none => .next s

end Sys2Proof.Machine
end

