-- ==== Sys2Proof/Machine/Management.lean ====
section
/-! DEFINITION. The management interface (R454 to R458, R495): attestation, log and register messages, MCTP control, PLDM, firmware
update. -/

namespace Sys2Proof.Machine

/-- Change the trust state. -/
def State.modTrust (s : State) (f : Trust → Trust) : State := { s with trust := f s.trust }

/-- An answer of the management interface. -/
def State.answer (s : State) (code : Nat) (body : List Byte) : State := s.emit (.mgmt code body)

/-- Whether the I3C target hears its controller: powered and started, with a dynamic address (R406, R495). -/
def State.i3cHears (s : State) : Bool := s.pwr.life != .off && !s.waits && s.trust.i3c.isSome

/-- Whether the control firmware answers; in boot recovery the ROM answers MCTP control, PLDM base and updates of component 1 only
(R449). -/
def State.fwHears (s : State) : Bool := s.i3cHears && s.pwr.life != .recovery

/-- A message of the control firmware: no answer where nothing hears it. -/
def State.managed (s : State) (f : State → State) : Result := .next (if s.fwHears then f s else s)

/-- A message that the boot ROM answers as well. -/
def State.controlled (s : State) (f : State → State) : Result := .next (if s.i3cHears then f s else s)

/-! ### Attestation (R454, R455, R457, R458) -/

/-- The identity certificate (R454). -/
def State.certificate (s : State) : List Byte :=
  let made (o n : Nat) : List Byte := (List.range n).map fun i => Config.certByte (o + i)
  leBytes 4 0x49433254 ++ leBytes 2 1 ++ leBytes 2 0 ++ leBytes 8 s.trust.certSerial ++
    fitBytes 16 [0x4F, 0x4C, 0x54, 0x32, 0x2D, 0x35, 0x37, 0x36, 0x46, 0x32, 0x34] ++ leBytes 1 0xB0 ++ made 33 1 ++ leBytes 6 0 ++
    made 40 8 ++ made 48 1312 ++ made 1360 2420 ++ leBytes 316 0

/-- GET_CERTIFICATE (R455, R457). -/
def execGetCertificate (_eid : Nat) (s : State) : Result :=
  s.managed fun s => if s.trust.idOk then s.answer 0 s.certificate else s.answer 3 []

/-- The report of GET_MEASUREMENTS before its signature (R458). -/
def State.report (s : State) (nonce : List Byte) (mask : Nat) : List Byte :=
  let which := (List.range 6).filter fun i => mask.testBit i
  nonce ++ leBytes 8 s.trust.serial ++ leBytes 8 s.datum ++ leBytes 1 which.length ++ leBytes 1 s.dat.st.code ++ leBytes 6 0 ++
    which.flatMap fun i => leBytes 1 i ++ leBytes 3 0 ++ leBytes 4 (s.measure i).1 ++ fitBytes 32 (s.measure i).2

/-- GET_MEASUREMENTS (R446, R455, R457, R458): the signature is over the SHA3-256 digest of the report, by the key in the key store. A nonce of another length is an invalid request; a mask bit without a measurement is out of range
(log entry 28). -/
def execGetMeasurements (_eid : Nat) (nonce : List Byte) (mask : Nat) (s : State) : Result :=
  s.managed fun s =>
    if !s.trust.idOk then s.answer 3 []
    else if nonce.length ≠ 32 then s.answer 1 []
    else if mask ≥ 64 then s.answer 4 []
    else
      let r := s.report nonce mask
      s.answer 0 (r ++ fitBytes 2420 (Config.sign (s.trust.keyStore.getD []) (Sha3.sha3 r)))

/-! ### The log, the witness and registers (R457) -/

/-- A record that passes the test of R439. -/
def State.logRecord (s : State) (q : Nat) : Option LogRec :=
  if q < s.log.head ∧ q + 16384 > s.log.head then s.log.recs.find? fun r => r.seq == q else none

/-- READ_LOG (R457). -/
def execReadLog (_eid first count : Nat) (s : State) : Result :=
  s.managed fun s =>
    if count = 0 ∨ count > 16 then s.answer 4 []
    else s.answer 0 (((List.range count).filterMap fun i => s.logRecord (first + i)).flatMap logBytes)

/-- READ_WITNESS (R445, R457). -/
def execReadWitness (_eid source offset : Nat) (s : State) : Result :=
  s.managed fun s =>
    if offset % 1024 ≠ 0 then s.answer 1 []
    else if source > 16 ∨ offset ≥ 65536 then s.answer 4 []
    else s.answer 0 ((List.range 1024).map fun i => s.witnessByte (source * 0x10000 + offset + i))

/-- Completion code of an address for REGISTER_READ and REGISTER_WRITE (R457, R462): 0 for a word of the blocks, the context pages and
the counter space. -/
def regCode (addr : Nat) : Nat :=
  match place addr with
  | .block _ _ => if addr % 8 = 0 then 0 else 1
  | .blockStaged _ _ => if addr % 8 = 0 then 0 else 1
  | .page _ _ => if addr % 8 = 0 then 0 else 1
  | .pageStaged _ _ => if addr % 8 = 0 then 0 else 1
  | .counter _ => if addr % 8 = 0 then 0 else 1
  | _ => 4

/-- REGISTER_READ (R457, R462, R464). -/
def execRegisterRead (_eid addr : Nat) (s : State) : Result :=
  s.managed fun s =>
    if regCode addr ≠ 0 then s.answer (regCode addr) []
    else
      let (t, bs) := s.readWords s.bankM addr 1
      t.answer 0 bs

/-- REGISTER_WRITE (R457, R464): the value goes to the management bank, or acts where the register is immediate. -/
def execManagementRegisterWrite (eid addr : Nat) (v : Word) (s : State) : Result :=
  s.managed fun s =>
    if regCode addr ≠ 0 then s.answer (regCode addr) []
    else (s.writeReg (mgmtSrc eid) addr v.toNat).answer 0 []

/-! ### MCTP control (R456; the bodies follow DSP0236, log entry 28) -/

/-- SET_ENDPOINT_ID. -/
def execSetEndpointId (eid : Nat) (s : State) : Result :=
  s.controlled fun s =>
    if eid % 256 = 0 ∨ eid % 256 = 255 then s.answer 2 []
    else (s.modTrust fun t => { t with eid := eid % 256 }).answer 0 [0, BitVec.ofNat 8 eid, 0]

/-- GET_ENDPOINT_ID. -/
def execGetEndpointId (s : State) : Result := s.controlled fun s => s.answer 0 [BitVec.ofNat 8 s.trust.eid, 0, 0]

/-- The message types that R456 and R457 name: control, PLDM, vendor-defined, and 0xFF for the base. -/
def mctpType (t : Nat) : Bool := t == 0 || t == 1 || t == 0x7F || t == 0xFF

/-- GET_MCTP_VERSION_SUPPORT. -/
def execGetMctpVersionSupport (type : Nat) (s : State) : Result :=
  s.controlled fun s => if mctpType type then s.answer 0 (Config.mctp 0 type) else s.answer 0x80 []

/-- GET_MESSAGE_TYPE_SUPPORT: PLDM and vendor-defined messages. -/
def execGetMessageTypeSupport (s : State) : Result := s.controlled fun s => s.answer 0 [2, 1, 0x7F]

/-- GET_VENDOR_MESSAGE_SUPPORT: one vendor, by its IANA enterprise number (R457). -/
def execGetVendorMessageSupport (selector : Nat) (s : State) : Result :=
  s.controlled fun s =>
    if selector = 0 then s.answer 0 ([0xFF, 1, 0, 0, 0xE5, 0xC3] ++ Config.mctp 1 0) else s.answer 2 []

/-! ### PLDM (R456; sensor numbers are the model's, log entry 28) -/

/-- The 38 temperatures in the order of R442. -/
def State.temperatures (s : State) : List Int :=
  (List.range 12).map s.setter.stack0.temp ++ (List.range 12).map s.setter.stack1.temp ++
    [s.setter.stack0.temp 12, s.setter.stack1.temp 12] ++
    (List.range 8).map (fun i => (alook i s.pwr.dieTemps).getD 0) ++
    [8, 9, 12, 13].map fun i => (alook i s.pwr.dieTemps).getD 0

/-- Value of a PLDM sensor: 0 to 2 PWR_INPUT, 3 to 40 temperatures, 41 power state, 42 start-up step, 43 datum state, 44 the event that holds
the start-up (R407), from 45 on the events raised since the reset before the module was READY, oldest first (R434). -/
def State.sensor (s : State) (n : Nat) : Option (List Byte) :=
  if n = 0 then some (leBytes 2 s.pwr.mV)
  else if n = 1 then some (leBytes 2 s.pwr.mA)
  else if n = 2 then some (leBytes 2 s.pwr.watts)
  else if n < 41 then some (leBytes 2 (signedBits 16 (s.temperatures.getD (n - 3) 0)))
  else if n = 41 then some (leBytes 1 s.pwr.current)
  else if n = 42 then some (leBytes 1 (s.flueStatus % 16))
  else if n = 43 then some (leBytes 1 s.dat.st.code)
  else if n = 44 then some (leBytes 2 s.pwr.holdEvent)
  else s.log.start[n - 45]?.map fun code => leBytes 2 code

/-- PLDM_SENSOR_POLL (R422, R456). In boot recovery the ROM reports the stage and its events (R434) and no other sensor (log entry 28). -/
def execPldmSensorPoll (sensor : Nat) (s : State) : Result :=
  s.controlled fun s =>
    if s.pwr.life = .recovery ∧ sensor ≠ 42 ∧ sensor < 44 then s
    else match s.sensor sensor with
      | some bs => s.answer 0 bs
      | none => s.answer 0x80 []

/-- PLDM_BASE_REQUEST (R449, R456). -/
def execPldmBaseRequest (command : Nat) (s : State) : Result :=
  s.controlled fun s => s.answer (Config.pldmBase command).1 (Config.pldmBase command).2

/-! ### Firmware update (R449, R456) -/

/-- Put an image into a firmware slot. -/
def State.putFw (s : State) (slot : Nat) (f : FwSlot) : State :=
  s.modTrust fun t => { t with
    fwA := if slot = 0 then f else t.fwA
    fwB := if slot = 0 then t.fwB else f
    stagedFw := some f
    verified := t.verified.filter (· != 1) }

/-- Put a block into a config slot of block 2 (R447). -/
def State.putCfg (s : State) (slot : Nat) (b : CfgSlot) : State :=
  s.writeBlock2 fun t => { t with
    cfgA := if slot = 0 then some b else t.cfgA
    cfgB := if slot = 0 then t.cfgB else some b
    stagedCfg := some b }

/-- The config slot that was not applied; A when the module is unconfigured (log entry 28). -/
def State.idleCfg (s : State) : Nat := if s.trust.cfgSlot = 0 then 1 else 0

/-- PLDM_FIRMWARE_UPDATE (R449, R456): the image goes to the firmware slot that is not running, the config slot that was not applied, or is
held as an owner record. In boot recovery only component 1, to slot A, which is then selected. -/
def execPldmFirmwareUpdate (component : Nat) (fw : FwSlot) (cfg : CfgSlot) (owner : OwnerRec) (s : State) : Result :=
  s.controlled fun s =>
    if s.pwr.life = .recovery then
      (if component = 1 then ((s.putFw 0 fw).writeBlock2 fun t => { t with selector := 0 }).answer 0 [] else s)
    else match component with
      | 1 => (s.putFw (1 - s.trust.running) fw).answer 0 []
      | 2 => (s.putCfg s.idleCfg cfg).answer 0 []
      | 3 => (s.modTrust fun t => { t with stagedOwner := some owner }).answer 0 []
      | _ => s.answer 1 []

/-- Whether an owner record holds (R450): signed by a vendor key, and bound to this module or to none. -/
def State.ownerGood (s : State) (o : OwnerRec) : Bool :=
  o.signature.valid && decide (o.keyIndex < 4) && (o.serial == 0 || o.serial == s.trust.serial)

/-- Whether a staged component verifies (R449, R450, R451). -/
def State.verifies (s : State) (component : Nat) : Bool :=
  match component with
  | 1 => s.trust.stagedFw.any fun f => fwCheck s.trust.romDigests f == 0
  | 2 => s.trust.stagedCfg.isSome && s.cfgCause s.trust.stagedCfg == 0
  | 3 => s.trust.stagedOwner.any s.ownerGood
  | _ => false

/-- A verified component takes its place; a refused one is not selected. -/
def State.settleUpdate (s : State) (component : Nat) (good : Bool) : State :=
  match component with
  | 1 => s.modTrust fun t => { t with stagedFw := none, verified := if good then 1 :: t.verified else t.verified }
  | 2 => s.modTrust fun t => { t with stagedCfg := none }
  | _ =>
    if good then s.writeBlock2 fun t => { t with stagedOwner := none, owner := t.stagedOwner }
    else s.modTrust fun t => { t with stagedOwner := none }

/-- Whether a component waits for its verification. -/
def State.staged (s : State) (component : Nat) : Bool :=
  match component with
  | 1 => s.trust.stagedFw.isSome
  | 2 => s.trust.stagedCfg.isSome
  | 3 => s.trust.stagedOwner.isSome
  | _ => false

/-- VERIFY_COMPLETE (R449, R456): event 0x0906 or 0x0907. In boot recovery an image that verifies is followed by a full reset, which meets
no fault at start-up (log entry 23). -/
def execVerifyComplete (component : Nat) (s : State) : Result :=
  .next <|
    if s.pwr.life = .off ∨ !s.staged component then s
    else
      let good := s.verifies component
      let t := (s.settleUpdate component good).raise (if good then 0x0906 else 0x0907) component
      if s.pwr.life = .recovery ∧ good then (t.capture 0).coldStart {} 1 else t

/-- ACTIVATE_FIRMWARE (R456): the slot selector names the slot of the verified image; it takes effect at the next warm or full reset. -/
def execActivateFirmware (s : State) : Result :=
  s.controlled fun s =>
    if s.trust.verified.contains 1 then
      (s.writeBlock2 fun t => { t with selector := 1 - t.running, verified := [] }).answer 0 []
    else s.answer 1 []

/-! ### I3C (R495) -/

/-- Provisioned ID: the low 48 bits of the serial, all ones when it is 0. -/
def State.provisionedId (s : State) : Nat := if s.trust.serial = 0 then 2 ^ 48 - 1 else s.trust.serial % 2 ^ 48

/-- ENTDAA (R495): a target without a dynamic address sends its provisioned ID and takes the address. -/
def execEntdaa (addr : Nat) (s : State) : Result :=
  .next <|
    if s.pwr.life = .off ∨ s.trust.i3c.isSome then s
    else (s.modTrust fun t => { t with i3c := some (addr % 128) }).answer 0 (leBytes 6 s.provisionedId)

end Sys2Proof.Machine
end

