-- ==== Sys2Proof/Machine/VectorInstr.lean ====
section
/-! DEFINITION. The 62 vector instructions of R94 and R95: a body each, and the command that executes one word on a kiln. -/

namespace Sys2Proof.Machine

open Sys2Proof.Flt

/-- vrand of R95, modulo 2^64. -/
def vrand (seed step block lane n : Nat) : Nat :=
  let m := 2 ^ 64
  let z := (seed ^^^ (step * 0x9E3779B97F4A7C15) ^^^ (block <<< 20) ^^^ (lane <<< 8) ^^^ n) % m
  let z := ((z ^^^ (z >>> 30)) * 0xBF58476D1CE4E5B9) % m
  let z := ((z ^^^ (z >>> 27)) * 0x94D049BB133111EB) % m
  (z ^^^ (z >>> 31)) % 2 ^ 32

/-- Branch by a signed distance in instructions; before the program's first instruction the block has no HALT to reach. -/
def branchTo (k : Nat) (s : State) (by_ : Int) : VResult :=
  let pc : Int := ((s.kiln k).vu.pc : Int) + by_
  if pc < 0 then .error (.fault 4) else onVu k s fun u => some { u with pc := pc.toNat }

/-- vd := va + vb in the format of the type field, one rounding (R94). -/
def vaddBody (k : Nat) (i : VI) (s : State) : VResult :=
  plain k s (fp2 i Flt.add)

/-- VADD on kiln k (R94). -/
def execVadd (k : Nat) (w : Word) (s : State) : Result := .next (s.vinstr k 0x1 w vaddBody)

/-- vd := va - vb (R94). -/
def vsubBody (k : Nat) (i : VI) (s : State) : VResult :=
  plain k s (fp2 i Flt.sub)

/-- VSUB on kiln k (R94). -/
def execVsub (k : Nat) (w : Word) (s : State) : Result := .next (s.vinstr k 0x2 w vsubBody)

/-- vd := va * vb (R94). -/
def vmulBody (k : Nat) (i : VI) (s : State) : VResult :=
  plain k s (fp2 i Flt.mul)

/-- VMUL on kiln k (R94). -/
def execVmul (k : Nat) (w : Word) (s : State) : Result := .next (s.vinstr k 0x3 w vmulBody)

/-- vd := va * vb + vc with one rounding (R94). -/
def vfmaBody (k : Nat) (i : VI) (s : State) : VResult :=
  plain k s (fp3 i Flt.fma)

/-- VFMA on kiln k (R94). -/
def execVfma (k : Nat) (w : Word) (s : State) : Result := .next (s.vinstr k 0x4 w vfmaBody)

/-- vd := va * vb - vc with one rounding (R94). -/
def vfmsBody (k : Nat) (i : VI) (s : State) : VResult :=
  plain k s (fp3 i fun f rm a b c => finish f rm (fmaVal rm (decode f a) (decode f b) (negVal (decode f c))))

/-- VFMS on kiln k (R94). -/
def execVfms (k : Nat) (w : Word) (s : State) : Result := .next (s.vinstr k 0x5 w vfmsBody)

/-- vd := -(va * vb) + vc with one rounding (R94). -/
def vfnmaBody (k : Nat) (i : VI) (s : State) : VResult :=
  plain k s (fp3 i fun f rm a b c => finish f rm (fmaVal rm (negVal (decode f a)) (decode f b) (decode f c)))

/-- VFNMA on kiln k (R94). -/
def execVfnma (k : Nat) (w : Word) (s : State) : Result := .next (s.vinstr k 0x6 w vfnmaBody)

/-- vd := va / vb, correctly rounded (R94). -/
def vdivBody (k : Nat) (i : VI) (s : State) : VResult :=
  plain k s (fp2 i Flt.div)

/-- VDIV on kiln k (R94). -/
def execVdiv (k : Nat) (w : Word) (s : State) : Result := .next (s.vinstr k 0x7 w vdivBody)

/-- vd := the square root of va, correctly rounded (R94). -/
def vsqrtBody (k : Nat) (i : VI) (s : State) : VResult :=
  plain k s (fp1 i Flt.sqrt)

/-- VSQRT on kiln k (R94). -/
def execVsqrt (k : Nat) (w : Word) (s : State) : Result := .next (s.vinstr k 0x8 w vsqrtBody)

/-- IEEE 754-2019 minimum; a NaN propagates (R94). -/
def vminBody (k : Nat) (i : VI) (s : State) : VResult :=
  plain k s (fp2 i fun f _ a b => minmax f false a b)

/-- VMIN on kiln k (R94). -/
def execVmin (k : Nat) (w : Word) (s : State) : Result := .next (s.vinstr k 0x9 w vminBody)

/-- IEEE 754-2019 maximum; a NaN propagates (R94). -/
def vmaxBody (k : Nat) (i : VI) (s : State) : VResult :=
  plain k s (fp2 i fun f _ a b => minmax f true a b)

/-- VMAX on kiln k (R94). -/
def execVmax (k : Nat) (w : Word) (s : State) : Result := .next (s.vinstr k 0xa w vmaxBody)

/-- vd := |va|; no flags (R94). -/
def vabsBody (k : Nat) (i : VI) (s : State) : VResult :=
  plain k s (fp1 i fun f _ a => (clearSign f a, {}))

/-- VABS on kiln k (R94). -/
def execVabs (k : Nat) (w : Word) (s : State) : Result := .next (s.vinstr k 0xb w vabsBody)

/-- vd := -va; no flags (R94). -/
def vnegBody (k : Nat) (i : VI) (s : State) : VResult :=
  plain k s (fp1 i fun f _ a => (flipSign f a, {}))

/-- VNEG on kiln k (R94). -/
def execVneg (k : Nat) (w : Word) (s : State) : Result := .next (s.vinstr k 0xc w vnegBody)

/-- vd := va with the sign of vb; no flags (R94). -/
def vcopysignBody (k : Nat) (i : VI) (s : State) : VResult :=
  plain k s (fp2 i fun f _ a b => (clearSign f a + (b - clearSign f b), {}))

/-- VCOPYSIGN on kiln k (R94). -/
def execVcopysign (k : Nat) (w : Word) (s : State) : Result := .next (s.vinstr k 0xd w vcopysignBody)

/-- F32 approximation within 2 ulp (R94; the value is free, log entry 3). -/
def vrsqrtBody (k : Nat) (i : VI) (s : State) : VResult :=
  plain k s (approxInstr i .rsqrt)

/-- VRSQRT on kiln k (R94). -/
def execVrsqrt (k : Nat) (w : Word) (s : State) : Result := .next (s.vinstr k 0xe w vrsqrtBody)

/-- F32 approximation within 2 ulp (R94; the value is free, log entry 3). -/
def vexpBody (k : Nat) (i : VI) (s : State) : VResult :=
  plain k s (approxInstr i .exp)

/-- VEXP on kiln k (R94). -/
def execVexp (k : Nat) (w : Word) (s : State) : Result := .next (s.vinstr k 0xf w vexpBody)

/-- F32 approximation within 2 ulp (R94; the value is free, log entry 3). -/
def vlogBody (k : Nat) (i : VI) (s : State) : VResult :=
  plain k s (approxInstr i .log)

/-- VLOG on kiln k (R94). -/
def execVlog (k : Nat) (w : Word) (s : State) : Result := .next (s.vinstr k 0x10 w vlogBody)

/-- F32 approximation within 2 ulp (R94; the value is free, log entry 3). -/
def vtanhBody (k : Nat) (i : VI) (s : State) : VResult :=
  plain k s (approxInstr i .tanh)

/-- VTANH on kiln k (R94). -/
def execVtanh (k : Nat) (w : Word) (s : State) : Result := .next (s.vinstr k 0x11 w vtanhBody)

/-- F32 approximation within 2 ulp (R94; the value is free, log entry 3). -/
def vsigmoidBody (k : Nat) (i : VI) (s : State) : VResult :=
  plain k s (approxInstr i .sigmoid)

/-- VSIGMOID on kiln k (R94). -/
def execVsigmoid (k : Nat) (w : Word) (s : State) : Result := .next (s.vinstr k 0x12 w vsigmoidBody)

/-- F32 approximation within 2 ulp (R94; the value is free, log entry 3). -/
def verfBody (k : Nat) (i : VI) (s : State) : VResult :=
  plain k s (approxInstr i .erf)

/-- VERF on kiln k (R94). -/
def execVerf (k : Nat) (w : Word) (s : State) : Result := .next (s.vinstr k 0x13 w verfBody)

/-- pd := va cond vb, cond in imm; invalid on a signalling NaN (R94; condition numbers and operand types, log entry 21). -/
def vcmpBody (k : Nat) (i : VI) (s : State) : VResult :=
  plain k s (fun u =>
    (condOf i.imm true true true).map fun _ =>
      let fl := (List.range 512).foldl (fun (a : Flags) l =>
        if u.active i l then a.or (cmpLane i.type (u.lane i.va l) (u.lane i.vb l)).2.2.2 else a) {}
      let u := u.writeP i fun l =>
        let (lt, eq, un, _) := cmpLane i.type (u.lane i.va l) (u.lane i.vb l)
        (condOf i.imm lt eq un).getD false
      { u with flags := u.flags ||| fl.toNat })

/-- VCMP on kiln k (R94). -/
def execVcmp (k : Nat) (w : Word) (s : State) : Result := .next (s.vinstr k 0x14 w vcmpBody)

/-- vd := vc-predicate ? va : vb (R94). -/
def vselBody (k : Nat) (i : VI) (s : State) : VResult :=
  plain k s (fun u => some (u.write i fun l => if (u.preg (i.vc % 8)).testBit l then u.lane i.va l else u.lane i.vb l))

/-- VSEL on kiln k (R94). -/
def execVsel (k : Nat) (w : Word) (s : State) : Result := .next (s.vinstr k 0x15 w vselBody)

/-- Conversion from the type of the type field to that of imm (R94; log entry 21). -/
def vcvtBody (k : Nat) (i : VI) (s : State) : VResult :=
  plain k s (fun u =>
    if 0 ≤ i.imm ∧ i.imm < 4 then some (u.writeF i fun l => cvtLane i.rm i.type i.imm.toNat (u.lane i.vd l) (u.lane i.va l)) else none)

/-- VCVT on kiln k (R94). -/
def execVcvt (k : Nat) (w : Word) (s : State) : Result := .next (s.vinstr k 0x16 w vcvtBody)

/-- Round to an integral value in F32; inexact (R94). -/
def vroundBody (k : Nat) (i : VI) (s : State) : VResult :=
  plain k s (fun u => if i.type = 0 then some (u.writeF i fun l => roundIntegral fmtF32 i.rm (u.lane i.va l)) else none)

/-- VROUND on kiln k (R94). -/
def execVround (k : Nat) (w : Word) (s : State) : Result := .next (s.vinstr k 0x17 w vroundBody)

/-- 32-bit sum modulo 2^32 (R94). -/
def viaddBody (k : Nat) (i : VI) (s : State) : VResult :=
  plain k s (int2 i fun a b => a + b)

/-- VIADD on kiln k (R94). -/
def execViadd (k : Nat) (w : Word) (s : State) : Result := .next (s.vinstr k 0x18 w viaddBody)

/-- 32-bit difference modulo 2^32 (R94). -/
def visubBody (k : Nat) (i : VI) (s : State) : VResult :=
  plain k s (int2 i fun a b => a + 2 ^ 32 - b)

/-- VISUB on kiln k (R94). -/
def execVisub (k : Nat) (w : Word) (s : State) : Result := .next (s.vinstr k 0x19 w visubBody)

/-- 32-bit product modulo 2^32 (R94). -/
def vimulBody (k : Nat) (i : VI) (s : State) : VResult :=
  plain k s (int2 i fun a b => a * b)

/-- VIMUL on kiln k (R94). -/
def execVimul (k : Nat) (w : Word) (s : State) : Result := .next (s.vinstr k 0x1a w vimulBody)

/-- Bitwise and (R94). -/
def vandBody (k : Nat) (i : VI) (s : State) : VResult :=
  plain k s (int2 i fun a b => a &&& b)

/-- VAND on kiln k (R94). -/
def execVand (k : Nat) (w : Word) (s : State) : Result := .next (s.vinstr k 0x1b w vandBody)

/-- Bitwise or (R94). -/
def vorBody (k : Nat) (i : VI) (s : State) : VResult :=
  plain k s (int2 i fun a b => a ||| b)

/-- VOR on kiln k (R94). -/
def execVor (k : Nat) (w : Word) (s : State) : Result := .next (s.vinstr k 0x1c w vorBody)

/-- Bitwise exclusive-or (R94). -/
def vxorBody (k : Nat) (i : VI) (s : State) : VResult :=
  plain k s (int2 i fun a b => a ^^^ b)

/-- VXOR on kiln k (R94). -/
def execVxor (k : Nat) (w : Word) (s : State) : Result := .next (s.vinstr k 0x1d w vxorBody)

/-- Shift left modulo 2^32: va * 2^vb (R94). -/
def vshlBody (k : Nat) (i : VI) (s : State) : VResult :=
  plain k s (int2 i fun a b => if b < 32 then a <<< b else shiftPast 0x1E a b)

/-- VSHL on kiln k (R94). -/
def execVshl (k : Nat) (w : Word) (s : State) : Result := .next (s.vinstr k 0x1e w vshlBody)

/-- Logical shift right: the floor of va / 2^vb (R94). -/
def vshrBody (k : Nat) (i : VI) (s : State) : VResult :=
  plain k s (int2 i fun a b => if b < 32 then a >>> b else shiftPast 0x1F a b)

/-- VSHR on kiln k (R94). -/
def execVshr (k : Nat) (w : Word) (s : State) : Result := .next (s.vinstr k 0x1f w vshrBody)

/-- Arithmetic shift right: the floor of the signed va / 2^vb (R94). -/
def vsarBody (k : Nat) (i : VI) (s : State) : VResult :=
  plain k s (int2 i fun a b => if b < 32 then (BitVec.ofInt 32 (sint 32 a >>> b)).toNat else shiftPast 0x20 a b)

/-- VSAR on kiln k (R94). -/
def execVsar (k : Nat) (w : Word) (s : State) : Result := .next (s.vinstr k 0x20 w vsarBody)

/-- Every lane := scalar va (R94). -/
def vbcastBody (k : Nat) (i : VI) (s : State) : VResult :=
  plain k s (fun u => some (u.write i fun _ => u.sreg i.va % 2 ^ 32))

/-- VBCAST on kiln k (R94). -/
def execVbcast (k : Nat) (w : Word) (s : State) : Result := .next (s.vinstr k 0x21 w vbcastBody)

/-- Lane l := va[vb[l] mod 512] (R94). -/
def vpermBody (k : Nat) (i : VI) (s : State) : VResult :=
  plain k s (fun u => some (u.write i fun l => u.lane i.va (u.lane i.vb l % 512)))

/-- VPERM on kiln k (R94). -/
def execVperm (k : Nat) (w : Word) (s : State) : Result := .next (s.vinstr k 0x22 w vpermBody)

/-- Lane l := va[l + imm], or +0 beyond the ends (R94). -/
def vslideBody (k : Nat) (i : VI) (s : State) : VResult :=
  plain k s (fun u => some (u.write i fun l => if 0 ≤ (l : Int) + i.imm ∧ (l : Int) + i.imm < 512 then u.lane i.va ((l : Int) + i.imm).toNat else 0))

/-- VSLIDE on kiln k (R94). -/
def execVslide (k : Nat) (w : Word) (s : State) : Result := .next (s.vinstr k 0x23 w vslideBody)

/-- Sum over a pairwise tree of lanes (R94). -/
def vredaddBody (k : Nat) (i : VI) (s : State) : VResult :=
  plain k s (reduce i Flt.add)

/-- VREDADD on kiln k (R94). -/
def execVredadd (k : Nat) (w : Word) (s : State) : Result := .next (s.vinstr k 0x24 w vredaddBody)

/-- Maximum over a pairwise tree of lanes (R94). -/
def vredmaxBody (k : Nat) (i : VI) (s : State) : VResult :=
  plain k s (reduce i fun f _ a b => minmax f true a b)

/-- VREDMAX on kiln k (R94). -/
def execVredmax (k : Nat) (w : Word) (s : State) : Result := .next (s.vinstr k 0x25 w vredmaxBody)

/-- Minimum over a pairwise tree of lanes (R94). -/
def vredminBody (k : Nat) (i : VI) (s : State) : VResult :=
  plain k s (reduce i fun f _ a b => minmax f false a b)

/-- VREDMIN on kiln k (R94). -/
def execVredmin (k : Nat) (w : Word) (s : State) : Result := .next (s.vinstr k 0x26 w vredminBody)

/-- A value as a result: a NaN is the canonical one, a signalling one raises invalid operation (R24). -/
def canonNan (f : Fmt) (x : Nat) : Nat × Flags :=
  match decode f x with
  | .nan sig => (nanBits f, { nv := sig })
  | _ => (x, {})

/-- Inclusive prefix sum, lane 0 to lane 511 in order (R94). -/
def vscanBody (k : Nat) (i : VI) (s : State) : VResult :=
  plain k s (fun u =>
    i.fmt.map fun f =>
      let go := (List.range 512).foldl (fun (a : List Nat × Nat × Flags) l =>
        let x := outLane f (u.lane i.va l)
        let (y, fl) := if l = 0 then (canonNan f x) else Flt.add f i.rm a.2.1 x
        (a.1 ++ [y], y, a.2.2.or fl)) ([], 0, {})
      let u := u.write i fun l => inLane f (u.lane i.vd l) (go.1.getD l 0)
      { u with flags := u.flags ||| go.2.2.toNat })

/-- VSCAN on kiln k (R94). -/
def execVscan (k : Nat) (w : Word) (s : State) : Result := .next (s.vinstr k 0x27 w vscanBody)

/-- Contiguous shelf load from s[va] (R94). -/
def vldBody (k : Nat) (i : VI) (s : State) : VResult :=
  thenNext k (loadLanes k i s fun l => ((s.kiln k).vu.sreg i.va : Int) + (l * typeBytes i.type : Nat))

/-- VLD on kiln k (R94). -/
def execVld (k : Nat) (w : Word) (s : State) : Result := .next (s.vinstr k 0x28 w vldBody)

/-- Contiguous shelf store of register vd to s[va] (R94; log entry 21). -/
def vstBody (k : Nat) (i : VI) (s : State) : VResult :=
  thenNext k (storeLanes k i s fun l => ((s.kiln k).vu.sreg i.va : Int) + (l * typeBytes i.type : Nat))

/-- VST on kiln k (R94). -/
def execVst (k : Nat) (w : Word) (s : State) : Result := .next (s.vinstr k 0x29 w vstBody)

/-- Shelf load from s[va] with stride imm, taken in bytes (R94 gives no unit: DESIGN CHOICE, log entry 21). -/
def vldsBody (k : Nat) (i : VI) (s : State) : VResult :=
  thenNext k (loadLanes k i s fun l => ((s.kiln k).vu.sreg i.va : Int) + l * i.imm)

/-- VLDS on kiln k (R94). -/
def execVlds (k : Nat) (w : Word) (s : State) : Result := .next (s.vinstr k 0x2a w vldsBody)

/-- Shelf store of register vd with stride imm, taken in bytes (R94; DESIGN CHOICE, log entry 21). -/
def vstsBody (k : Nat) (i : VI) (s : State) : VResult :=
  thenNext k (storeLanes k i s fun l => ((s.kiln k).vu.sreg i.va : Int) + l * i.imm)

/-- VSTS on kiln k (R94). -/
def execVsts (k : Nat) (w : Word) (s : State) : Result := .next (s.vinstr k 0x2b w vstsBody)

/-- Load from s[va] + vb[l] (R94). -/
def vgatherBody (k : Nat) (i : VI) (s : State) : VResult :=
  thenNext k (loadLanes k i s fun l => ((s.kiln k).vu.sreg i.va + (s.kiln k).vu.lane i.vb l : Nat))

/-- VGATHER on kiln k (R94). -/
def execVgather (k : Nat) (w : Word) (s : State) : Result := .next (s.vinstr k 0x2c w vgatherBody)

/-- Store of register vd to s[va] + vb[l]; the highest lane wins (R94). -/
def vscatterBody (k : Nat) (i : VI) (s : State) : VResult :=
  thenNext k (storeLanes k i s fun l => ((s.kiln k).vu.sreg i.va + (s.kiln k).vu.lane i.vb l : Nat))

/-- VSCATTER on kiln k (R94). -/
def execVscatter (k : Nat) (w : Word) (s : State) : Result := .next (s.vinstr k 0x2d w vscatterBody)

/-- Load elements of format imm[3:0] from s[va], widened exactly to F32 (R94); a reserved format code is refused (R90). -/
def vldnBody (k : Nat) (i : VI) (s : State) : VResult :=
  let u := (s.kiln k).vu
  let f := (i.imm % 16).toNat
  let base := u.sreg i.va
  if f > 9 then .error .format
  else if (u.actives i).all (fun l => s.reaches k (base + (packedAt f l).1) (packedBytes f l)) then
    let val (l : Nat) : Nat × Flags := widenElem f (bits (s.shelfNat k (base + (packedAt f l).1) (packedBytes f l)) (packedAt f l).2 (fmtBits f))
    thenNext k (.ok (s.modKiln k fun x => { x with vu := u.writeF i val }))
  else .error (.fault 3)

/-- VLDN on kiln k (R94). -/
def execVldn (k : Nat) (w : Word) (s : State) : Result := .next (s.vinstr k 0x2e w vldnBody)

/-- Store register vd as format imm[3:0] at s[va] under R40; flags of 32-lane groups to s[vc] (R94). A reserved format code is refused (R90).
R40 converts into no integer format: I4 and I8 are taken as an undefined instruction, cause 2 (DESIGN CHOICE, log entry 21). A group of F6 or F4
that holds a NaN or an infinity has zero codes in the lanes it governs and its flag set: VSTN names no scale array that R41 could mark with
code 0xFF (DESIGN CHOICE, log entry 103). -/
def vstnBody (k : Nat) (i : VI) (s : State) : VResult :=
  let u := (s.kiln k).vu
  let f := (i.imm % 16).toNat
  let base := u.sreg i.va
  let flagAt := u.sreg i.vc
  let act := u.actives i
  let groups := (List.range 16).filter fun g => act.any fun l => l / 32 == g
  if f > 9 then .error .format
  else if f > 7 then .error (.fault 2)
  else if !act.all (fun l => s.reaches k (base + (packedAt f l).1) (packedBytes f l)) || (isVendor f && !s.reaches k flagAt 4) then .error (.fault 3)
  else
    let outs := groups.map fun g =>
      let ls := act.filter fun l => l / 32 == g
      (g, ls, convertGroup f 0x7F false (ls.map fun l => legValue 0 false f (decode fmtF32 (u.lane i.vd l))))
    let put (s : State) (l code : Nat) : State :=
      let off := base + (packedAt f l).1
      let n := packedBytes f l
      let sh := (packedAt f l).2
      let old := s.shelfNat k off n
      s.shelfPut k off n (old - (bits old sh (fmtBits f) <<< sh) + (code <<< sh))
    let s := outs.foldl (fun s o => (o.2.1.zip o.2.2.codes).foldl (fun s x => put s x.1 x.2) s) s
    let fl := outs.foldl (fun (a : Flags) o => a.or o.2.2.flags) {}
    let s := if isVendor f then outs.foldl (fun s o =>
        let old := s.shelfNat k (flagAt + o.1 / 4) 1
        let sh := 2 * (o.1 % 4)
        s.shelfPut k (flagAt + o.1 / 4) 1
          (old - (bits old sh 2 <<< sh) + (((if o.2.2.sat then 1 else 0) + (if o.2.2.inv then 2 else 0)) <<< sh))) s else s
    let sat := (outs.filter fun o => o.2.2.sat).length
    let inv := (outs.filter fun o => o.2.2.inv).length
    thenNext k (.ok (s.modKiln k fun x =>
      { x with vu := { x.vu with flags := x.vu.flags ||| fl.toNat, groups := (x.vu.groups.1 + sat, x.vu.groups.2 + inv) } }))

/-- VSTN on kiln k (R94). -/
def execVstn (k : Nat) (w : Word) (s : State) : Result := .next (s.vinstr k 0x2f w vstnBody)

/-- 32 random bits per lane (R95). -/
def vrandBody (k : Nat) (i : VI) (s : State) : VResult :=
  plain k s (fun u => some (u.write i fun l => vrand u.seed (u.sreg 7) (u.sreg 6) l (i.imm % 256).toNat))

/-- VRAND on kiln k (R94). -/
def execVrand (k : Nat) (w : Word) (s : State) : Result := .next (s.vinstr k 0x30 w vrandBody)

/-- pd := pa and pb (R94). -/
def pandBody (k : Nat) (i : VI) (s : State) : VResult :=
  plain k s (fun u => some (u.writeP i fun l => (u.preg (i.va % 8)).testBit l && (u.preg (i.vb % 8)).testBit l))

/-- PAND on kiln k (R94). -/
def execPand (k : Nat) (w : Word) (s : State) : Result := .next (s.vinstr k 0x31 w pandBody)

/-- pd := pa or pb (R94). -/
def porBody (k : Nat) (i : VI) (s : State) : VResult :=
  plain k s (fun u => some (u.writeP i fun l => (u.preg (i.va % 8)).testBit l || (u.preg (i.vb % 8)).testBit l))

/-- POR on kiln k (R94). -/
def execPor (k : Nat) (w : Word) (s : State) : Result := .next (s.vinstr k 0x32 w porBody)

/-- pd := not pa (R94). -/
def pnotBody (k : Nat) (i : VI) (s : State) : VResult :=
  plain k s (fun u => some (u.writeP i fun l => !(u.preg (i.va % 8)).testBit l))

/-- PNOT on kiln k (R94). -/
def execPnot (k : Nat) (w : Word) (s : State) : Result := .next (s.vinstr k 0x33 w pnotBody)

/-- pd := all ones (R94; log entry 21). -/
def psetBody (k : Nat) (i : VI) (s : State) : VResult :=
  plain k s (fun u => some (u.writeP i fun _ => true))

/-- PSET on kiln k (R94). -/
def execPset (k : Nat) (w : Word) (s : State) : Result := .next (s.vinstr k 0x34 w psetBody)

/-- s[vd] := the lanes set in pa, of the governed lanes (R94 does not say which lanes PCNT counts: DESIGN CHOICE, log entry 21). -/
def pcntBody (k : Nat) (i : VI) (s : State) : VResult :=
  plain k s (fun u => some (u.setS i.vd ((List.range 512).filter fun l => u.active i l && (u.preg (i.va % 8)).testBit l).length))

/-- PCNT on kiln k (R94). -/
def execPcnt (k : Nat) (w : Word) (s : State) : Result := .next (s.vinstr k 0x35 w pcntBody)

/-- s[vd] := imm (R94). -/
def sliBody (k : Nat) (i : VI) (s : State) : VResult :=
  plain k s (fun u => some (u.setS i.vd (i.imm % 2 ^ 64).toNat))

/-- SLI on kiln k (R94). -/
def execSli (k : Nat) (w : Word) (s : State) : Result := .next (s.vinstr k 0x36 w sliBody)

/-- s[vd] := s[va] + s[vb] modulo 2^64 (R94). -/
def saddBody (k : Nat) (i : VI) (s : State) : VResult :=
  plain k s (fun u => some (u.setS i.vd (u.sreg i.va + u.sreg i.vb)))

/-- SADD on kiln k (R94). -/
def execSadd (k : Nat) (w : Word) (s : State) : Result := .next (s.vinstr k 0x37 w saddBody)

/-- s[vd] := s[va] - s[vb] modulo 2^64 (R94). -/
def ssubBody (k : Nat) (i : VI) (s : State) : VResult :=
  plain k s (fun u => some (u.setS i.vd (u.sreg i.va + 2 ^ 64 - u.sreg i.vb)))

/-- SSUB on kiln k (R94). -/
def execSsub (k : Nat) (w : Word) (s : State) : Result := .next (s.vinstr k 0x38 w ssubBody)

/-- s[vd] := s[va] * s[vb] modulo 2^64 (R94). -/
def smulBody (k : Nat) (i : VI) (s : State) : VResult :=
  plain k s (fun u => some (u.setS i.vd (u.sreg i.va * u.sreg i.vb)))

/-- SMUL on kiln k (R94). -/
def execSmul (k : Nat) (w : Word) (s : State) : Result := .next (s.vinstr k 0x39 w smulBody)

/-- The branch flag := s[va] cond s[vb] (R94; log entry 21). -/
def scmpBody (k : Nat) (i : VI) (s : State) : VResult :=
  plain k s (fun u =>
    let a := u.sreg i.va
    let b := u.sreg i.vb
    let lt := if i.type = 3 then decide (a < b) else decide (sint 64 a < sint 64 b)
    (condOf i.imm lt (a == b) false).map fun c => { u with flag := c })

/-- SCMP on kiln k (R94). -/
def execScmp (k : Nat) (w : Word) (s : State) : Result := .next (s.vinstr k 0x3a w scmpBody)

/-- Branch by imm (R94; relative, log entry 21). -/
def brBody (k : Nat) (i : VI) (s : State) : VResult :=
  branchTo k s i.imm

/-- BR on kiln k (R94). -/
def execBr (k : Nat) (w : Word) (s : State) : Result := .next (s.vinstr k 0x3b w brBody)

/-- Branch by imm if the branch flag is set (R94). -/
def brcBody (k : Nat) (i : VI) (s : State) : VResult :=
  if (s.kiln k).vu.flag then branchTo k s i.imm else plain k s some

/-- BRC on kiln k (R94). -/
def execBrc (k : Nat) (w : Word) (s : State) : Result := .next (s.vinstr k 0x3c w brcBody)

/-- Counted loop of s[va] rounds over the next imm instructions, nesting to 4 (R94). A fifth nested LOOP, or one over no instruction, is
taken as an undefined instruction, cause 2 (DESIGN CHOICE, log entry 21). -/
def loopBody (k : Nat) (i : VI) (s : State) : VResult :=
  let u := (s.kiln k).vu
  let n := u.sreg i.va
  if i.imm < 1 then .error (.fault 2)
  else if n = 0 then branchTo k s (i.imm + 1)
  else if u.loops.length ≥ 4 then .error (.fault 2)
  else onVu k s fun u => some { u with pc := u.pc + 1, loops := (u.pc + 1, u.pc + i.imm.toNat, n) :: u.loops }

/-- LOOP on kiln k (R94). -/
def execLoop (k : Nat) (w : Word) (s : State) : Result := .next (s.vinstr k 0x3d w loopBody)

/-- End of block (R94). -/
def haltBody (k : Nat) (_i : VI) (s : State) : VResult :=
  onVu k s fun u => some { u with halted := true }

/-- HALT on kiln k (R94). -/
def execHalt (k : Nat) (w : Word) (s : State) : Result := .next (s.vinstr k 0x3e w haltBody)

/-- The body of an opcode; none for an undefined one. -/
def vbody (opc : Nat) : Option (Nat → VI → State → VResult) :=
  match opc with
  | 1 => some vaddBody
  | 2 => some vsubBody
  | 3 => some vmulBody
  | 4 => some vfmaBody
  | 5 => some vfmsBody
  | 6 => some vfnmaBody
  | 7 => some vdivBody
  | 8 => some vsqrtBody
  | 9 => some vminBody
  | 10 => some vmaxBody
  | 11 => some vabsBody
  | 12 => some vnegBody
  | 13 => some vcopysignBody
  | 14 => some vrsqrtBody
  | 15 => some vexpBody
  | 16 => some vlogBody
  | 17 => some vtanhBody
  | 18 => some vsigmoidBody
  | 19 => some verfBody
  | 20 => some vcmpBody
  | 21 => some vselBody
  | 22 => some vcvtBody
  | 23 => some vroundBody
  | 24 => some viaddBody
  | 25 => some visubBody
  | 26 => some vimulBody
  | 27 => some vandBody
  | 28 => some vorBody
  | 29 => some vxorBody
  | 30 => some vshlBody
  | 31 => some vshrBody
  | 32 => some vsarBody
  | 33 => some vbcastBody
  | 34 => some vpermBody
  | 35 => some vslideBody
  | 36 => some vredaddBody
  | 37 => some vredmaxBody
  | 38 => some vredminBody
  | 39 => some vscanBody
  | 40 => some vldBody
  | 41 => some vstBody
  | 42 => some vldsBody
  | 43 => some vstsBody
  | 44 => some vgatherBody
  | 45 => some vscatterBody
  | 46 => some vldnBody
  | 47 => some vstnBody
  | 48 => some vrandBody
  | 49 => some pandBody
  | 50 => some porBody
  | 51 => some pnotBody
  | 52 => some psetBody
  | 53 => some pcntBody
  | 54 => some sliBody
  | 55 => some saddBody
  | 56 => some ssubBody
  | 57 => some smulBody
  | 58 => some scmpBody
  | 59 => some brBody
  | 60 => some brcBody
  | 61 => some loopBody
  | 62 => some haltBody
  | _ => none

end Sys2Proof.Machine
end

