-- ==== Sys2Proof/Machine/Vector.lean ====
section
/-! DEFINITION. VECTOR (R93, R94) and VECTOR_INSTRUCTION_LIMIT. -/

namespace Sys2Proof.Machine

open Sys2Proof.Flt

/-- Run a block's program until HALT: the state, and the cause of a vector fault (R94). -/
def runProg (prog : Array Word) (k : Nat) : Nat → State → State × Option VStop
  | 0, s => (s, some (.fault 1))
  | n + 1, s =>
    match prog[(s.kiln k).vu.pc]? with
    | none => (s, some (.fault 4))
    | some w =>
      let i := viOf w
      match vbody i.opc with
      | none => (s, some (.fault 2))
      | some body =>
        match body k i s with
        | .error v => (s, some v)
        | .ok s =>
          let s := s.modKiln k fun x => { x with vu := { x.vu with count := x.vu.count + 1 } }
          if (s.kiln k).vu.halted then (s, none) else runProg prog k n s

/-- Shelf offsets of block buffers, one after the other from `off`, each on a 64-byte boundary (log entry 22). -/
def layBuffers : Nat → List Nat → List Nat
  | _, [] => []
  | off, n :: rest => off :: layBuffers (off + ceilDiv n 64 * 64) rest

/-- The body of R93. -/
structure VecDesc where
  prog : Nat
  len : Nat
  ins : List (Nat × Nat)
  outs : List (Nat × Nat)
  blocks : Nat
  seed : Nat
  params : Nat

/-- Read the body of a VECTOR. -/
def vecOf (d : Desc) : VecDesc :=
  { prog := d.field 24 8, len := d.field 32 2,
    ins := (List.range (min (d.field 34 1) 4)).map fun j => (d.field (48 + 8 * j) 8, d.field (96 + 4 * j) 4),
    outs := (List.range (min (d.field 35 1) 2)).map fun j => (d.field (80 + 8 * j) 8, d.field (112 + 4 * j) 4),
    blocks := d.field 36 4, seed := d.field 40 8, params := d.field 120 8 }

/-- The checks of R93, R351 and R503. -/
def checkVector (v : VecDesc) : Op Unit := do
  let host : Accept := { host := true }
  checkAddr v.prog 24 host
  need (v.prog % 8 = 0) 24
  need (1 ≤ v.len ∧ v.len ≤ 4096) 32
  need ((← fld 34 1) ≤ 4) 34
  need ((← fld 35 1) ≤ 2) 35
  need (1 ≤ v.blocks) 36
  (List.range 4).forM fun j => do
    if j < v.ins.length then
      checkAddr (← fld (48 + 8 * j) 8) (48 + 8 * j) host
      need (1 ≤ (← fld (96 + 4 * j) 4) ∧ (← fld (96 + 4 * j) 4) ≤ 2 ^ 20) (96 + 4 * j)
    else needZero (48 + 8 * j) 8
  (List.range 2).forM fun j => do
    if j < v.outs.length then
      checkAddr (← fld (80 + 8 * j) 8) (80 + 8 * j) host
      need (1 ≤ (← fld (112 + 4 * j) 4) ∧ (← fld (112 + 4 * j) 4) ≤ 2 ^ 20) (112 + 4 * j)
    else needZero (80 + 8 * j) 8
  checkAddr v.params 120 host
  let res := (← getS).residentSize (← opCtx)
  need (2 * ((v.ins ++ v.outs).map (·.2)).sum ≤ 0x780000 - res) 96

/-- Stage, run and write back block b (R94). What the output buffers hold at first is open (log entry 83). -/
def vectorBlock (v : VecDesc) (prog : Array Word) (params : List Nat) (count b : Nat) : Op Unit := do
  onKiln (b % count)
  let k := (← get).kiln
  let c ← opCtx
  let pos ← opPos
  let res := (← getS).residentSize c
  let sizes : List Nat := (v.ins ++ v.outs).map fun (x : Nat × Nat) => x.2
  let offs := layBuffers res sizes
  let inOffs := offs.take v.ins.length
  let outOffs := offs.drop v.ins.length
  (v.ins.zip inOffs).forM fun (x : (Nat × Nat) × Nat) => do
    let bs ← rdPast x.1.1 (b * x.1.2) x.1.2
    onS fun s => s.poke (shelfAt k x.2) bs
  (v.outs.zip outOffs).forM fun (x : (Nat × Nat) × Nat) => onS fun s =>
    { s.poke (shelfAt k x.2) ((List.range x.1.2).map fun i => Config.staging s.draw (x.2 + i)) with draw := s.draw + 1 }
  let step := (← getS).step c
  onS fun s => s.modKiln k fun x =>
    let u := { x.vu with pc := 0, loops := [], count := 0, halted := false, owner := (c, pos), seed := v.seed,
                         bufs := offs.zip sizes }
    let u := (List.range v.ins.length).foldl (fun u j => u.setS j (inOffs.getD j 0)) u
    let u := (List.range v.outs.length).foldl (fun u j => u.setS (4 + j) (outOffs.getD j 0)) u
    let u := (u.setS 6 b).setS 7 step
    { x with vu := (List.range 8).foldl (fun u j => u.setS (8 + j) (params.getD j 0)) u }
  let (s, fault) := runProg prog k 1048576 (← getS)
  putS s
  match fault with
  | some v =>
    let e := v.report (s.kiln k).vu.pc pos b
    throw (.stop e.1 e.2.2)
  | none =>
    (v.outs.zip outOffs).forM fun (x : (Nat × Nat) × Nat) => do
      let s ← getS
      wrPast x.1.1 (b * x.1.2) (Memory.getBytes s.mem (shelfAt k x.2) x.1.2)

/-- The body of a VECTOR (R93, R94). A program that names a reserved format code is refused before it runs (R90, R503). -/
def vectorBody : Op Unit := do
  let v := vecOf (← get).d
  checkVector v
  let (_, count) ← kilnRange
  onKiln 0
  let code ← rd v.prog (8 * v.len)
  let prog := ((List.range v.len).map fun i => BitVec.ofNat 64 (numAt code (8 * i) 8)).toArray
  if prog.any fun w => let i := viOf w; decide (i.opc = 0x2E ∨ i.opc = 0x2F) && decide (i.imm % 16 > 9) then
    throw (.refuse 0x06C0 (refusal 24 0 (← opPos)))
  let pbytes ← rd v.params 64
  let params := (List.range 8).map fun j => numAt pbytes (8 * j) 8
  v.outs.forM fun (x : Nat × Nat) => declareWhole x.1 (v.blocks * x.2)
  let ks ← (List.range count).mapM ctxKilnOf
  ks.forM fun k => onS fun s => s.modKiln k fun x =>
    { x with vu := { x.vu with v := [], p := [], flags := 0, groups := (0, 0) } }
  (List.range v.blocks).forM fun b => vectorBlock v prog params count b
  let again ← isRecompute
  let s ← getS
  let sat := (ks.map fun k => (s.kiln k).vu.groups.1).sum
  let inv := (ks.map fun k => (s.kiln k).vu.groups.2).sum
  ks.forM fun k => addFlags (Flags.ofNat (s.kiln k).vu.flags)
  if again then return ()
  modify fun r => { r with sat := r.sat + sat, inv := r.inv + inv }
  let tell (code n : Nat) : Op Unit := do
    if n > 0 then
      let (first, s) := (← getS).drawFresh
      putS s
      report code (countPayload n first)
  tell 0x0201 sat
  tell 0x0202 inv
where
  /-- Module number of the i-th kiln of the range. -/
  ctxKilnOf (i : Nat) : Op Nat := do
    let (first, _) ← kilnRange
    ctxKiln (first + i)

/-- VECTOR (R93, R94). -/
def execVector (a : OpArg) (s : State) : Result := opCmd a s 0x28 vectorBody

/-- VECTOR_INSTRUCTION_LIMIT (R94): a block that has executed more than 1,048,576 instructions raises event 0x06C1. -/
def execVectorInstructionLimit (k : Nat) (s : State) : Result :=
  .next (if k < 48 ∧ (s.kiln k).vu.count > 1048576 ∧ s.pwr.life = .ready then s.vfault k (.fault 1) else s)

end Sys2Proof.Machine
end

