-- ==== Sys2Proof/Machine/Dispatch.lean ====
section
/-! DEFINITION. One arm per command: each calls the one meaning of its row. -/

namespace Sys2Proof.Machine

def exec (i : Instr) (s : State) : Host.Outcome State Fault Refusal :=
  match i with
  | .fence a => Sys2Proof.Machine.execFence a s
  | .copy a => Sys2Proof.Machine.execCopy a s
  | .fill a => Sys2Proof.Machine.execFill a s
  | .residentLoad a => Sys2Proof.Machine.execResidentLoad a s
  | .residentStore a => Sys2Proof.Machine.execResidentStore a s
  | .product a => Sys2Proof.Machine.execProduct a s
  | .partialSum a => Sys2Proof.Machine.execPartialSum a s
  | .attentionFwd a => Sys2Proof.Machine.execAttentionFwd a s
  | .attentionBwd a => Sys2Proof.Machine.execAttentionBwd a s
  | .openSeq a => Sys2Proof.Machine.execOpenSeq a s
  | .append a => Sys2Proof.Machine.execAppend a s
  | .fork a => Sys2Proof.Machine.execFork a s
  | .pin a => Sys2Proof.Machine.execPin a s
  | .unpin a => Sys2Proof.Machine.execUnpin a s
  | .freeSeq a => Sys2Proof.Machine.execFreeSeq a s
  | .refill a => Sys2Proof.Machine.execRefill a s
  | .convert a => Sys2Proof.Machine.execConvert a s
  | .amax a => Sys2Proof.Machine.execAmax a s
  | .vector a => Sys2Proof.Machine.execVector a s
  | .gatherPool a => Sys2Proof.Machine.execGatherPool a s
  | .scatterGrad a => Sys2Proof.Machine.execScatterGrad a s
  | .migrate a => Sys2Proof.Machine.execMigrate a s
  | .allReduce a => Sys2Proof.Machine.execAllReduce a s
  | .reduceScatter a => Sys2Proof.Machine.execReduceScatter a s
  | .allGather a => Sys2Proof.Machine.execAllGather a s
  | .exchange a => Sys2Proof.Machine.execExchange a s
  | .permute a => Sys2Proof.Machine.execPermute a s
  | .broadcast a => Sys2Proof.Machine.execBroadcast a s
  | .queueSend a => Sys2Proof.Machine.execQueueSend a s
  | .queueRecv a => Sys2Proof.Machine.execQueueRecv a s
  | .queueRelease a => Sys2Proof.Machine.execQueueRelease a s
  | .optSgdMomentum a => Sys2Proof.Machine.execOptSgdMomentum a s
  | .optRowwiseAdagrad a => Sys2Proof.Machine.execOptRowwiseAdagrad a s
  | .optAdam a => Sys2Proof.Machine.execOptAdam a s
  | .prefetchAnnounce a => Sys2Proof.Machine.execPrefetchAnnounce a s
  | .checkLine a => Sys2Proof.Machine.execCheckLine a s
  | .cone a => Sys2Proof.Machine.execCone a s
  | .coneBend a => Sys2Proof.Machine.execConeBend a s
  | .vadd k w => Sys2Proof.Machine.execVadd k w s
  | .vsub k w => Sys2Proof.Machine.execVsub k w s
  | .vmul k w => Sys2Proof.Machine.execVmul k w s
  | .vfma k w => Sys2Proof.Machine.execVfma k w s
  | .vfms k w => Sys2Proof.Machine.execVfms k w s
  | .vfnma k w => Sys2Proof.Machine.execVfnma k w s
  | .vdiv k w => Sys2Proof.Machine.execVdiv k w s
  | .vsqrt k w => Sys2Proof.Machine.execVsqrt k w s
  | .vmin k w => Sys2Proof.Machine.execVmin k w s
  | .vmax k w => Sys2Proof.Machine.execVmax k w s
  | .vabs k w => Sys2Proof.Machine.execVabs k w s
  | .vneg k w => Sys2Proof.Machine.execVneg k w s
  | .vcopysign k w => Sys2Proof.Machine.execVcopysign k w s
  | .vrsqrt k w => Sys2Proof.Machine.execVrsqrt k w s
  | .vexp k w => Sys2Proof.Machine.execVexp k w s
  | .vlog k w => Sys2Proof.Machine.execVlog k w s
  | .vtanh k w => Sys2Proof.Machine.execVtanh k w s
  | .vsigmoid k w => Sys2Proof.Machine.execVsigmoid k w s
  | .verf k w => Sys2Proof.Machine.execVerf k w s
  | .vcmp k w => Sys2Proof.Machine.execVcmp k w s
  | .vsel k w => Sys2Proof.Machine.execVsel k w s
  | .vcvt k w => Sys2Proof.Machine.execVcvt k w s
  | .vround k w => Sys2Proof.Machine.execVround k w s
  | .viadd k w => Sys2Proof.Machine.execViadd k w s
  | .visub k w => Sys2Proof.Machine.execVisub k w s
  | .vimul k w => Sys2Proof.Machine.execVimul k w s
  | .vand k w => Sys2Proof.Machine.execVand k w s
  | .vor k w => Sys2Proof.Machine.execVor k w s
  | .vxor k w => Sys2Proof.Machine.execVxor k w s
  | .vshl k w => Sys2Proof.Machine.execVshl k w s
  | .vshr k w => Sys2Proof.Machine.execVshr k w s
  | .vsar k w => Sys2Proof.Machine.execVsar k w s
  | .vbcast k w => Sys2Proof.Machine.execVbcast k w s
  | .vperm k w => Sys2Proof.Machine.execVperm k w s
  | .vslide k w => Sys2Proof.Machine.execVslide k w s
  | .vredadd k w => Sys2Proof.Machine.execVredadd k w s
  | .vredmax k w => Sys2Proof.Machine.execVredmax k w s
  | .vredmin k w => Sys2Proof.Machine.execVredmin k w s
  | .vscan k w => Sys2Proof.Machine.execVscan k w s
  | .vld k w => Sys2Proof.Machine.execVld k w s
  | .vst k w => Sys2Proof.Machine.execVst k w s
  | .vlds k w => Sys2Proof.Machine.execVlds k w s
  | .vsts k w => Sys2Proof.Machine.execVsts k w s
  | .vgather k w => Sys2Proof.Machine.execVgather k w s
  | .vscatter k w => Sys2Proof.Machine.execVscatter k w s
  | .vldn k w => Sys2Proof.Machine.execVldn k w s
  | .vstn k w => Sys2Proof.Machine.execVstn k w s
  | .vrand k w => Sys2Proof.Machine.execVrand k w s
  | .pand k w => Sys2Proof.Machine.execPand k w s
  | .por k w => Sys2Proof.Machine.execPor k w s
  | .pnot k w => Sys2Proof.Machine.execPnot k w s
  | .pset k w => Sys2Proof.Machine.execPset k w s
  | .pcnt k w => Sys2Proof.Machine.execPcnt k w s
  | .sli k w => Sys2Proof.Machine.execSli k w s
  | .sadd k w => Sys2Proof.Machine.execSadd k w s
  | .ssub k w => Sys2Proof.Machine.execSsub k w s
  | .smul k w => Sys2Proof.Machine.execSmul k w s
  | .scmp k w => Sys2Proof.Machine.execScmp k w s
  | .br k w => Sys2Proof.Machine.execBr k w s
  | .brc k w => Sys2Proof.Machine.execBrc k w s
  | .loop k w => Sys2Proof.Machine.execLoop k w s
  | .halt k w => Sys2Proof.Machine.execHalt k w s
  | .vectorInstructionLimit k => Sys2Proof.Machine.execVectorInstructionLimit k s
  | .dispatch c => Sys2Proof.Machine.execDispatch c s
  | .descriptorFetch c ds => Sys2Proof.Machine.execDescriptorFetch c ds s
  | .descriptorReread c ds => Sys2Proof.Machine.execDescriptorReread c ds s
  | .waitSwitchThreshold k => Sys2Proof.Machine.execWaitSwitchThreshold k s
  | .quantum k => Sys2Proof.Machine.execQuantum k s
  | .switchComplete k => Sys2Proof.Machine.execSwitchComplete k s
  | .creditWaitLong c pos => Sys2Proof.Machine.execCreditWaitLong c pos s
  | .cmdProducer c nbytes v => Sys2Proof.Machine.execCmdProducer c nbytes v s
  | .eventConsumer c nbytes v => Sys2Proof.Machine.execEventConsumer c nbytes v s
  | .tallyConsumer c nbytes v => Sys2Proof.Machine.execTallyConsumer c nbytes v s
  | .resume c nbytes v => Sys2Proof.Machine.execResume c nbytes v s
  | .stepAbort src c step => Sys2Proof.Machine.execStepAbort src c step s
  | .resolveToFire src c step => Sys2Proof.Machine.execResolveToFire src c step s
  | .resolveToVoid src c step => Sys2Proof.Machine.execResolveToVoid src c step s
  | .load src c step => Sys2Proof.Machine.execLoad src c step s
  | .sealCtx src c step => Sys2Proof.Machine.execSealCtx src c step s
  | .restoreFromHearth src c step => Sys2Proof.Machine.execRestoreFromHearth src c step s
  | .flueCommit src v => Sys2Proof.Machine.execFlueCommit src v s
  | .heldCommit bank => Sys2Proof.Machine.execHeldCommit bank s
  | .contextEnable c => Sys2Proof.Machine.execContextEnable c s
  | .contextDisable c => Sys2Proof.Machine.execContextDisable c s
  | .launchArm c step l => Sys2Proof.Machine.execLaunchArm c step l s
  | .launchCancel c => Sys2Proof.Machine.execLaunchCancel c s
  | .launchRelease c => Sys2Proof.Machine.execLaunchRelease c s
  | .portEnable p => Sys2Proof.Machine.execPortEnable p s
  | .portRetrain p => Sys2Proof.Machine.execPortRetrain p s
  | .portDisable p => Sys2Proof.Machine.execPortDisable p s
  | .registerWrite src addr v => Sys2Proof.Machine.execRegisterWrite src addr v s
  | .rcRead src addr nwords => Sys2Proof.Machine.execRcRead src addr nwords s
  | .w1cClear src addr v => Sys2Proof.Machine.execW1cClear src addr v s
  | .requestRun src => Sys2Proof.Machine.execRequestRun src s
  | .requestSleep src => Sys2Proof.Machine.execRequestSleep src s
  | .requestDeep src => Sys2Proof.Machine.execRequestDeep src s
  | .powerStateChangeDone => Sys2Proof.Machine.execPowerStateChangeDone  s
  | .warmReset src => Sys2Proof.Machine.execWarmReset src s
  | .fullReset src rep => Sys2Proof.Machine.execFullReset src rep s
  | .clkFcountCtrl src n v => Sys2Proof.Machine.execClkFcountCtrl src n v s
  | .fcountGateEnd n count => Sys2Proof.Machine.execFcountGateEnd n count s
  | .powerOn rep => Sys2Proof.Machine.execPowerOn rep s
  | .powerFailWarning mv => Sys2Proof.Machine.execPowerFailWarning mv s
  | .inputVoltage mv => Sys2Proof.Machine.execInputVoltage mv s
  | .clockLost source => Sys2Proof.Machine.execClockLost source s
  | .clockReturned source => Sys2Proof.Machine.execClockReturned source s
  | .recoveredInPlace => Sys2Proof.Machine.execRecoveredInPlace  s
  | .watchdog core => Sys2Proof.Machine.execWatchdog core s
  | .dieTemperatureSample die sensor t => Sys2Proof.Machine.execDieTemperatureSample die sensor t s
  | .witnessCaptured => Sys2Proof.Machine.execWitnessCaptured  s
  | .bent p => Sys2Proof.Machine.execBent p s
  | .abort p => Sys2Proof.Machine.execAbort p s
  | .fire p => Sys2Proof.Machine.execFire p s
  | .void p => Sys2Proof.Machine.execVoid p s
  | .heartbeat p => Sys2Proof.Machine.execHeartbeat p s
  | .heartbeatTimer c rank => Sys2Proof.Machine.execHeartbeatTimer c rank s
  | .lost p => Sys2Proof.Machine.execLost p s
  | .digest p => Sys2Proof.Machine.execDigest p s
  | .memberLost c rank => Sys2Proof.Machine.execMemberLost c rank s
  | .switch c => Sys2Proof.Machine.execSwitch c s
  | .commitWalk c => Sys2Proof.Machine.execCommitWalk c s
  | .rollbackComplete c => Sys2Proof.Machine.execRollbackComplete c s
  | .tallyHeld c => Sys2Proof.Machine.execTallyHeld c s
  | .automaticCheckLine c => Sys2Proof.Machine.execAutomaticCheckLine c s
  | .shadowReserveRefill => Sys2Proof.Machine.execShadowReserveRefill  s
  | .ready p => Sys2Proof.Machine.execReady p s
  | .data p => Sys2Proof.Machine.execData p s
  | .finish p => Sys2Proof.Machine.execFinish p s
  | .queueData p => Sys2Proof.Machine.execQueueData p s
  | .queueCredit p => Sys2Proof.Machine.execQueueCredit p s
  | .collectiveWaitLong c pos => Sys2Proof.Machine.execCollectiveWaitLong c pos s
  | .dataFlit port f rx => Sys2Proof.Machine.execDataFlit port f rx s
  | .idleFlit port h rx => Sys2Proof.Machine.execIdleFlit port h rx s
  | .replayRequest port h rx => Sys2Proof.Machine.execReplayRequest port h rx s
  | .laneControl port h mask rx => Sys2Proof.Machine.execLaneControl port h mask rx s
  | .ackTimer port => Sys2Proof.Machine.execAckTimer port s
  | .replayTimeout port => Sys2Proof.Machine.execReplayTimeout port s
  | .linkTimeout port => Sys2Proof.Machine.execLinkTimeout port s
  | .laneFailure port lane sync => Sys2Proof.Machine.execLaneFailure port lane sync s
  | .trainingEnd port lanes eyeHeight eyeWidth offset delay => Sys2Proof.Machine.execTrainingEnd port lanes eyeHeight eyeWidth offset delay s
  | .trainingTimeout port lanes => Sys2Proof.Machine.execTrainingTimeout port lanes s
  | .trainingPatternReceived port => Sys2Proof.Machine.execTrainingPatternReceived port s
  | .retrainInterval port => Sys2Proof.Machine.execRetrainInterval port s
  | .hello port p => Sys2Proof.Machine.execHello port p s
  | .helloTimer port => Sys2Proof.Machine.execHelloTimer port s
  | .trayReadRequest p => Sys2Proof.Machine.execTrayReadRequest p s
  | .trayReadResponse p => Sys2Proof.Machine.execTrayReadResponse p s
  | .trayWrite p => Sys2Proof.Machine.execTrayWrite p s
  | .datumAligned hops => Sys2Proof.Machine.execDatumAligned hops s
  | .datumHoldoverLimit => Sys2Proof.Machine.execDatumHoldoverLimit  s
  | .datumUpstreamChanged => Sys2Proof.Machine.execDatumUpstreamChanged  s
  | .refresh die ch => Sys2Proof.Machine.execRefresh die ch s
  | .refreshIntervalRestore die => Sys2Proof.Machine.execRefreshIntervalRestore die s
  | .layerTemperatureSample die sensor t => Sys2Proof.Machine.execLayerTemperatureSample die sensor t s
  | .throttleEvaluation die => Sys2Proof.Machine.execThrottleEvaluation die s
  | .patrolScrubRead addr noise => Sys2Proof.Machine.execPatrolScrubRead addr noise s
  | .ceWindowEnd => Sys2Proof.Machine.execCeWindowEnd  s
  | .burstRead addr behalf noise => Sys2Proof.Machine.execBurstRead addr behalf noise s
  | .burstWrite addr mask img behalf => Sys2Proof.Machine.execBurstWrite addr mask img behalf s
  | .setterAdderUpdate u => Sys2Proof.Machine.execSetterAdderUpdate u s
  | .orderKeyClose domain key => Sys2Proof.Machine.execOrderKeyClose domain key s
  | .migrationCopyComplete c parcel => Sys2Proof.Machine.execMigrationCopyComplete c parcel s
  | .promotion c parcel => Sys2Proof.Machine.execPromotion c parcel s
  | .demandMiss c parcel stall => Sys2Proof.Machine.execDemandMiss c parcel stall s
  | .cleaning c parcel loc => Sys2Proof.Machine.execCleaning c parcel loc s
  | .demotion c parcel => Sys2Proof.Machine.execDemotion c parcel s
  | .journalFlush c step pages => Sys2Proof.Machine.execJournalFlush c step pages s
  | .journalResume => Sys2Proof.Machine.execJournalResume  s
  | .garbageCollection block => Sys2Proof.Machine.execGarbageCollection block s
  | .reFiring block fresh => Sys2Proof.Machine.execReFiring block fresh s
  | .flashProgramDone loc erase ok upto => Sys2Proof.Machine.execFlashProgramDone loc erase ok upto s
  | .sectorReadDone r => Sys2Proof.Machine.execSectorReadDone r s
  | .channelLost ch => Sys2Proof.Machine.execChannelLost ch s
  | .channelRebuildDone ch => Sys2Proof.Machine.execChannelRebuildDone ch s
  | .pageWaitResume a => Sys2Proof.Machine.execPageWaitResume a s
  | .pageWaitLong c pos => Sys2Proof.Machine.execPageWaitLong c pos s
  | .req port addr qpn d => Sys2Proof.Machine.execReq port addr qpn d s
  | .rtu conn => Sys2Proof.Machine.execRtu conn s
  | .dreq conn => Sys2Proof.Machine.execDreq conn s
  | .fatalNak conn => Sys2Proof.Machine.execFatalNak conn s
  | .hostTimeout conn => Sys2Proof.Machine.execHostTimeout conn s
  | .hostLinkDown port down => Sys2Proof.Machine.execHostLinkDown port down s
  | .inboundRdmaRead conn rkey addr len => Sys2Proof.Machine.execInboundRdmaRead conn rkey addr len s
  | .inboundRdmaWrite conn rkey addr bytes => Sys2Proof.Machine.execInboundRdmaWrite conn rkey addr bytes s
  | .inputReadRetry c pos => Sys2Proof.Machine.execInputReadRetry c pos s
  | .ringStalled c pos unread => Sys2Proof.Machine.execRingStalled c pos unread s
  | .ringResumed c pos => Sys2Proof.Machine.execRingResumed c pos s
  | .keepalive c => Sys2Proof.Machine.execKeepalive c s
  | .writeRetransmit c port => Sys2Proof.Machine.execWriteRetransmit c port s
  | .tallyDelivered c => Sys2Proof.Machine.execTallyDelivered c s
  | .tallyWrite c => Sys2Proof.Machine.execTallyWrite c s
  | .eventEntryWrite c => Sys2Proof.Machine.execEventEntryWrite c s
  | .statusBlockWrite c => Sys2Proof.Machine.execStatusBlockWrite c s
  | .getCertificate eid => Sys2Proof.Machine.execGetCertificate eid s
  | .getMeasurements eid nonce mask => Sys2Proof.Machine.execGetMeasurements eid nonce mask s
  | .readLog eid first count => Sys2Proof.Machine.execReadLog eid first count s
  | .readWitness eid source offset => Sys2Proof.Machine.execReadWitness eid source offset s
  | .registerRead eid addr => Sys2Proof.Machine.execRegisterRead eid addr s
  | .managementRegisterWrite eid addr v => Sys2Proof.Machine.execManagementRegisterWrite eid addr v s
  | .setEndpointId eid => Sys2Proof.Machine.execSetEndpointId eid s
  | .getEndpointId => Sys2Proof.Machine.execGetEndpointId  s
  | .getMctpVersionSupport type => Sys2Proof.Machine.execGetMctpVersionSupport type s
  | .getMessageTypeSupport => Sys2Proof.Machine.execGetMessageTypeSupport  s
  | .getVendorMessageSupport selector => Sys2Proof.Machine.execGetVendorMessageSupport selector s
  | .pldmSensorPoll sensor => Sys2Proof.Machine.execPldmSensorPoll sensor s
  | .verifyComplete component => Sys2Proof.Machine.execVerifyComplete component s
  | .activateFirmware => Sys2Proof.Machine.execActivateFirmware  s
  | .entdaa addr => Sys2Proof.Machine.execEntdaa addr s
  | .writeAcknowledged c port n => Sys2Proof.Machine.execWriteAcknowledged c port n s
  | .powerStageStop => Sys2Proof.Machine.execPowerStageStop  s
  | .pldmBaseRequest command => Sys2Proof.Machine.execPldmBaseRequest command s
  | .pldmFirmwareUpdate component fw cfg owner => Sys2Proof.Machine.execPldmFirmwareUpdate component fw cfg owner s
  | .drep conn => Sys2Proof.Machine.execDrep conn s
  | .congestionNotificationPacket port => Sys2Proof.Machine.execCongestionNotificationPacket port s
  | .pfcPauseFrame port prio pause => Sys2Proof.Machine.execPfcPauseFrame port prio pause s

end Sys2Proof.Machine
end

