-- ==== Sys2Proof/Machine/Tick.lean ====
section
/-! DEFINITION. The passing of time (R390, R395): what the block does when no command waits. -/

namespace Sys2Proof.Machine

/-- Write protect is asserted 2 ms after a power-fail warning (R212; log entry 94). -/
def State.protect (s : State) : State :=
  match s.pwr.failedAt with
  | some t => if s.datum ≥ t + 2000000 then { s with tier := { s.tier with writeProtect := true } } else s
  | none => s

/-- One nanosecond passes (log entry 1): the datum rises by one. A slew of R395 adds or holds back one count in a microsecond, so
that the datum never moves backward. A module without power does not count. -/
def State.tick (s : State) : State :=
  if s.pwr.life = .off then s
  else State.protect <|
    let d := s.dat
    let next := (d.phase + 1) % 1000
    if d.phase = 0 ∧ d.slew > 0 then
      { s with datum := (s.datum + 2) % 2 ^ 64, dat := { d with slew := d.slew - 1, phase := next } }
    else if d.phase = 0 ∧ d.slew < 0 then { s with dat := { d with slew := d.slew + 1, phase := next } }
    else { s with datum := (s.datum + 1) % 2 ^ 64, dat := { d with phase := next } }

end Sys2Proof.Machine
end

