-- ==== Sys2Proof/Safety.lean ====
section
/-! DEFINITION. The words of the statements: what a safe run is, that a command completes, and what it leaves alone. -/

namespace Sys2Proof.Safety

open Sys2Proof.Machine

/-- The block goes on: a step from `s` answers a next state. -/
def Goes (s : State) : Prop := ∃ t, step s = .next t

/-- `n` steps from `s` all answer next states. -/
def Runs : Nat → State → Prop
  | 0, _ => True
  | n + 1, s => ∃ t, step s = .next t ∧ Runs n t

/-- The command answers a next state, of which P holds. -/
def Completes (i : Instr) (s : State) (P : State → Prop) : Prop := ∃ t, exec i s = .next t ∧ P t

/-- The parts of the state. -/
inductive Part where
  | datum | draw | pwr | dat | mem | upsets | setter | frames | regs | banks | ctxs | kilns | pframes | entries | tier | ports | discards
  | host | log | trust | out | pending
deriving DecidableEq, Repr

/-- A part of the state is unchanged. -/
def Part.Same (s t : State) : Part → Prop
  | .datum => t.datum = s.datum
  | .draw => t.draw = s.draw
  | .pwr => t.pwr = s.pwr
  | .dat => t.dat = s.dat
  | .mem => t.mem = s.mem
  | .upsets => t.upsets = s.upsets
  | .setter => t.setter = s.setter
  | .frames => t.frames0 = s.frames0 ∧ t.frames1 = s.frames1 ∧ t.refilling = s.refilling ∧ t.demoting = s.demoting
  | .regs => t.regs = s.regs
  | .banks => t.bankS = s.bankS ∧ t.bankM = s.bankM
  | .ctxs => t.ctxs = s.ctxs
  | .kilns => t.kilns = s.kilns
  | .pframes => t.pframes = s.pframes
  | .entries => t.entriesFree = s.entriesFree ∧ t.entriesLow = s.entriesLow
  | .tier => t.tier = s.tier
  | .ports => t.ports = s.ports
  | .discards => t.discards = s.discards ∧ t.discardIn = s.discardIn
  | .host => t.host = s.host
  | .log => t.log = s.log
  | .trust => t.trust = s.trust
  | .out => t.out = s.out
  | .pending => t.pending = s.pending

/-- Every part but the named ones is unchanged; all of memory is among them unless it is named. -/
def Keeps (parts : List Part) (s t : State) : Prop := ∀ p, p ∉ parts → p.Same s t

/-- Every context but c is unchanged. -/
def OnlyCtx (c : Nat) (s t : State) : Prop := ∀ d, d ≠ c → t.ctx d = s.ctx d

/-- Every kiln but k is unchanged. -/
def OnlyKiln (k : Nat) (s t : State) : Prop := ∀ j, j ≠ k → t.kiln j = s.kiln j

/-- Every port but p is unchanged. -/
def OnlyPort (p : Nat) (s t : State) : Prop := ∀ q, q ≠ p → t.port q = s.port q

/-- Every port but p is unchanged, but for its neighbour's offset, which a change of upstream moves (R394, R395). -/
def OtherPorts (p : Nat) (s t : State) : Prop := ∀ q, q ≠ p → t.port q = { s.port q with offset := (t.port q).offset }

/-- A port when it has sent n more flits: the next lane and the block counts (R294, R296). -/
def afterFlits (x : Port) : Nat → Port
  | 0 => x
  | n + 1 =>
    let y := afterFlits x n
    { y with txTurn := nextTurn y.lanes y.txTurn, blocks := y.nextBlocks.2 }

/-- The newest record of the log is event `code` of context c (R434, R436): raised by the operation at `pos`, 0 outside operations. `s` is the
state whose unfired step it names. -/
def CtxEvent (c pos code payload : Nat) (s t : State) : Prop :=
  (t.log.recs.head?.map fun r => (r.kind, r.code, r.context, r.body)) = some (1, code, c, pos + (s.step c <<< 64) + (payload <<< 128))

/-- The newest record of the log is an event outside any context, and the newest entry that waits for the steward ring tells it (R434, R356). -/
def ModEvent (code payload : Nat) (t : State) : Prop :=
  (t.log.recs.head?.map fun r => (r.kind, r.code, r.context, r.body)) = some (1, code, 0xFFFF, payload <<< 128) ∧
    (t.host.stewardq.getLast?.map fun e => (e.kind, e.code, e.context, e.payload)) = some (2, code, 0xFFFF, payload)

/-- The newest thing on the wires. -/
def Sent (o : Output) (t : State) : Prop := t.out.head? = some o

/-- Every byte of memory outside [a, a + n) reads as before. -/
def MemoryOutside (a n : Nat) (s t : State) : Prop := ∀ b, (b < a ∨ a + n ≤ b) → Memory.get t.mem b = Memory.get s.mem b

/-! ### Operations -/

/-- An operation command: its command, its opcode, its action when it is a PAGE_CONTROL, and the body of its meaning. -/
structure OpRow where
  cmd : OpArg → Instr
  opc : Nat
  action : Option Nat := none
  body : Op Unit

/-- The operations whose meaning is a body that runs in one piece, beside collectives and CONE (R89, R271). -/
def operations : List OpRow :=
  [{ cmd := .fence, opc := 0x01, body := needZero 24 104 },
   { cmd := .copy, opc := 0x02, body := copyBody },
   { cmd := .fill, opc := 0x03, body := fillBody },
   { cmd := .residentLoad, opc := 0x04, body := residentLoadBody },
   { cmd := .residentStore, opc := 0x05, body := residentStoreBody },
   { cmd := .product, opc := 0x10, body := productBody },
   { cmd := .partialSum, opc := 0x11, body := partialSumBody },
   { cmd := .attentionFwd, opc := 0x18, body := attentionFwdBody },
   { cmd := .attentionBwd, opc := 0x19, body := attentionBwdBody },
   { cmd := .openSeq, opc := 0x1A, action := some 1, body := openBody },
   { cmd := .append, opc := 0x1A, action := some 2, body := appendBody },
   { cmd := .fork, opc := 0x1A, action := some 3, body := forkBody },
   { cmd := .pin, opc := 0x1A, action := some 4, body := pinBody },
   { cmd := .unpin, opc := 0x1A, action := some 5, body := unpinBody },
   { cmd := .freeSeq, opc := 0x1A, action := some 6, body := freeBody },
   { cmd := .refill, opc := 0x1A, action := some 7, body := refillBody },
   { cmd := .convert, opc := 0x20, body := convertBody },
   { cmd := .amax, opc := 0x21, body := amaxBody },
   { cmd := .vector, opc := 0x28, body := vectorBody },
   { cmd := .gatherPool, opc := 0x30, body := gatherBody },
   { cmd := .scatterGrad, opc := 0x31, body := scatterBody },
   { cmd := .migrate, opc := 0x32, body := migrateBody },
   { cmd := .queueSend, opc := 0x48, body := queueSendBody },
   { cmd := .queueRecv, opc := 0x49, body := queueRecvBody },
   { cmd := .queueRelease, opc := 0x4A, body := queueReleaseBody },
   { cmd := .optSgdMomentum, opc := 0x50, body := optBody false },
   { cmd := .optRowwiseAdagrad, opc := 0x51, body := adagradBody },
   { cmd := .optAdam, opc := 0x52, body := optBody true },
   { cmd := .prefetchAnnounce, opc := 0x60, body := announceBody },
   { cmd := .checkLine, opc := 0x61, body := checkLineBody }]

/-- The collective commands and their opcodes (R89). -/
def collectives : List ((OpArg → Instr) × Nat) :=
  [(.allReduce, 0x40), (.reduceScatter, 0x41), (.allGather, 0x42), (.exchange, 0x43), (.permute, 0x44), (.broadcast, 0x45)]

/-- What a dispatched operation starts from: the host bytes that have come are taken (R371). -/
def startRun (s : State) (a : OpArg) (w : WinOp) : Run :=
  let s := s.takeInput a.ctx w a.hin
  { s := s.modWin a.ctx a.pos fun v => { v with wait := none, due := false }, c := a.ctx, pos := a.pos, d := w.desc, hin := a.hin
    order := a.order, progress := w.progress, flags := Flt.Flags.ofNat (w.flags ||| w.adderFlags), sat := w.sat, inv := w.inv, own := w.own
    events := w.events, kiln := (s.opKilns a.ctx w.desc).headD 0 }

/-- An operation of the window, the host bytes of `hin` taken for its READs: one that has them all is complete (R371). -/
def gotInput (w : WinOp) (hin : List Host.Cell) : WinOp :=
  let came (r : HostRead) : Nat := (hin.filter fun x => decide (r.addr ≤ x.1 ∧ x.1 < r.addr + r.len)).length
  { w with reads := w.reads.map fun r =>
      if r.port.isSome then { r with got := max r.got (came r), done := decide (r.len ≤ came r) } else r }

/-- Every READ of the context's window has gone out or is complete, and every WRITE has gone out: nothing is held (R350, R505). -/
def NothingHeld (x : Ctx) : Prop := (∀ v ∈ x.window, ∀ r ∈ v.reads, r.port.isSome = true ∨ r.done = true) ∧ ∀ v ∈ x.writes, v.sent = true

/-- No context that is enabled holds a transfer, nor the steward a WRITE. -/
def NoneHeld (s : State) : Prop := (∀ d ∈ s.enabledCtxs, NothingHeld (s.ctx d)) ∧ ∀ v ∈ s.host.stewardWrites, v.sent = true

/-- The event position that a WRITE carries, if it carries an entry of the event ring. -/
def entryAt (w : HostWrite) : Option Nat :=
  match w.kind with
  | .entry pos => some pos
  | _ => none

/-- The module runs operations, and w is the dispatched operation that the command names, of opcode and action as given; its kilns serve
its context (R75). -/
abbrev Named (s : State) (a : OpArg) (w : WinOp) (opc : Nat) (action : Option Nat) : Prop :=
  s.winOp a.ctx a.pos = some w ∧ w.st = .running ∧ s.pwr.life = .ready ∧ opcodeOf w.desc = opc ∧ (∀ n, action = some n → actionOf w.desc = n) ∧
    s.served a.ctx w.desc = true

/-- The same, and a PAGE_CONTROL has its turn: none dispatched before it on one of its sequences is still to apply (R271). -/
abbrev Dispatched (s : State) (a : OpArg) (w : WinOp) (opc : Nat) (action : Option Nat) : Prop :=
  Named s a w opc action ∧ (action ≠ none → s.pageBehind a.ctx w = false)

/-- Nothing is left of an earlier run of w, no event to report, no slot written (R276), and it reads nothing from a host. -/
abbrev Fresh (w : WinOp) : Prop := w.events = [] ∧ w.progress = 0 ∧ w.reads = []

/-- The descriptor has these fields: byte offset, bytes, value. -/
abbrev HasFields (d : Desc) (fs : List (Nat × Nat × Nat)) : Prop := ∀ f ∈ fs, d.field f.1 f.2.1 = f.2.2

/-- The descriptor address x names the n bytes of module memory from m on, in the scratch range of context c (R223, R224). -/
abbrev InScratch (s : State) (c x n m : Nat) : Prop :=
  formOf x = .scratch m ∧ s.pg c 0x028 ≤ m ∧ m + n ≤ s.pg c 0x028 + s.pg c 0x030 ∧ inMemory m n = true

/-- The lot entry of parcel p of context c and its own entry lie in memory (R225 to R227). -/
abbrev EntryInMemory (s : State) (c p : Nat) : Prop :=
  inMemory (s.pg c 0x018 + 8 * (p / 512)) 8 = true ∧ ∀ b, s.entryAddr c p = some b → inMemory b 8 = true

/-- The fired copy of parcel p of context c stands in DRAM: e is its entry, and its frame, its lot entry and its own entry lie in memory
(R225 to R227). -/
abbrev InDram (s : State) (c p : Nat) (e : PEntry) : Prop :=
  s.firedEntry c p = some e ∧ e.where_ = 1 ∧ inMemory e.frame 4096 = true ∧ EntryInMemory s c p

/-- The operation has completed: it has left the window, and only the named parts, its own context among the contexts, have changed. -/
def Ended (a : OpArg) (parts : List Part) (s t : State) : Prop := t.winOp a.ctx a.pos = none ∧ Keeps parts s t ∧ OnlyCtx a.ctx s t


/-- Nothing holds back the completion of w, and no other operation of context c completes with it: no finished SCATTER_GRAD waits for its
updates or for a lower ordinal (R185, R383), and setter adders report no exception of w (R190). -/
abbrev Released (s : State) (c : Nat) (w : WinOp) : Prop :=
  (∀ v ∈ (s.ctx c).window, v.st = .finished → opcodeOf v.desc ≠ 0x31) ∧ s.heldBack c w = false ∧
    (∀ v, s.winOp c w.pos = some v → v.adderExc = 0)

/-- The save-area slot of kiln k for context c lies in memory whose bursts are all as written (R80, R162). -/
abbrev SlotReady (s : State) (c k : Nat) : Prop := s.upsets = [] ∧ inMemory (s.saveSlot c k) (0x40000 + s.residentSize c) = true

/-- The newest entry that waits for context c's event ring is a completion of w with the outcome and payload (R365). -/
def Completion (c : Nat) (w : WinOp) (outcome payload datum : Nat) (t : State) : Prop :=
  (t.ctx c).entryq.getLast? = some { kind := 1, outcome := outcome, code := opcodeOf w.desc, context := c, position := w.pos, step := w.step,
                                     datum := datum, tag := w.desc.field 4 4, payload := payload }

/-- What a dispatched collective starts from, or goes on from. -/
def startColl (s : State) (a : OpArg) (w : WinOp) : Run :=
  let k := (s.ctx a.ctx).coll a.pos
  { s := s.modWin a.ctx a.pos fun v => { v with wait := none }, c := a.ctx, pos := a.pos, d := w.desc, hin := a.hin
    flags := Flt.Flags.ofNat ((k.map (·.flags)).getD 0), sat := (k.map (·.sat)).getD 0, inv := (k.map (·.inv)).getD 0
    events := (k.map (·.events)).getD [] }

/-! ### Vector instructions -/

/-- Kiln k of a module that runs operations, in RUN, executes w, whose opcode is opc: it serves the context whose program it holds (R75). -/
abbrev Executes (k opc : Nat) (w : Word) (s : State) : Prop :=
  k < 48 ∧ (viOf w).opc = opc ∧ s.pwr.life = .ready ∧ s.pwr.current = 0 ∧ s.holds k (s.kiln k).vu.owner.1 = true

/-- The vector unit of kiln k. -/
def vuOf (s : State) (k : Nat) : Vu := (s.kiln k).vu

/-- The lanes of register r take f where they are governed and keep their contents elsewhere; every other vector register is unchanged. -/
def LanesTake (k : Nat) (i : VI) (f : Nat → Nat) (s t : State) : Prop :=
  (∀ l, l < 512 → (vuOf t k).lane i.vd l = if (vuOf s k).active i l then f l % 2 ^ 32 else (vuOf s k).lane i.vd l) ∧
  (∀ r, r ≠ i.vd → (vuOf t k).vreg r = (vuOf s k).vreg r)

/-- Flags of all governed lanes together. -/
def governedFlags (u : Vu) (i : VI) (fl : Nat → Flt.Flags) : Nat :=
  ((List.range 512).foldl (fun (a : Flt.Flags) l => if u.active i l then a.or (fl l) else a) {}).toNat

/-- The kiln goes on to the next instruction, with one more counted; beside that, its vector unit is u'. Nothing else changes, of the
kiln or of the state. -/
def GoesOnAs (k : Nat) (u' : Vu) (s t : State) : Prop :=
  let u := vuOf s k
  t.kiln k = { s.kiln k with
    vu := { u' with pc := (endLoops u.pc u.loops).1, loops := (endLoops u.pc u.loops).2, count := u.count + 1 } } ∧
  Keeps [.kilns] s t ∧ OnlyKiln k s t

/-- Type field 0 or 1: F32 or F16. -/
def VI.ieee (i : VI) : Bool := decide (i.type ≤ 1)
/-- The format of a floating-point instruction. -/
def VI.format (i : VI) : Flt.Fmt := if i.type = 0 then Flt.fmtF32 else Flt.fmtF16
/-- A floating-point lane: the operands in the format, the result back in the lane. -/
def floatLane (op : Flt.Fmt → Flt.Rm → Nat → Nat → Nat → Nat × Flt.Flags) (u : Vu) (i : VI) (l : Nat) : Nat × Flt.Flags :=
  let f := VI.format i
  let r := op f i.rm (outLane f (u.lane i.va l)) (outLane f (u.lane i.vb l)) (outLane f (u.lane i.vc l))
  (inLane f (u.lane i.vd l) r.1, r.2)
/-- An integer lane, no flags. -/
def intLane (op : Nat → Nat → Nat) (u : Vu) (i : VI) (l : Nat) : Nat × Flt.Flags := (op (u.lane i.va l) (u.lane i.vb l), {})

/-! ### The form of the state, and magnitudes -/

/-- What holds of every state that the block can be in and every step keeps: memory in its canonical form, the bounds of the log, its
SRAM copy and the steward queue (R435, R440, R356), the datum a 64-bit count (R390). -/
def Formed (s : State) : Prop :=
  Memory.wf s.mem = true ∧ s.log.recs.length ≤ 16384 ∧ s.log.sram.length ≤ 704 ∧ s.host.stewardq.length ≤ 4096 ∧ s.datum < 2 ^ 64

/-- The magnitude of a code of a vendor format (R26, R28), sign aside, in units of 2^unit. -/
def magnitude (v : Flt.VFmt) (unit : Int) (k : Nat) : Nat :=
  if k >>> v.fb = 0 then k * 2 ^ (v.emin - v.fb - unit).toNat
  else (k % 2 ^ v.fb + 2 ^ v.fb) * 2 ^ (((k >>> v.fb : Nat) : Int) - v.bias - v.fb - unit).toNat

end Sys2Proof.Safety
end

