-- ==== Sys2Proof/Certificates/Slice0/Obligations.lean ====
section
/-! DEFINITION. The statements for the provers. -/

open Sys2Proof Sys2Proof.Machine Sys2Proof.Safety

/-! ### The block -/

/-- Every command is taken from the front of the queue, and run on the state with the rest of the queue. -/
def Obligations.StepTakesTheFrontCommand : Prop :=
  ∀ (c : Instr) (rest : List Instr) (s : State), step { s with pending := c :: rest } = exec c { s with pending := rest }

/-- R390: the datum rises by one every nanosecond. On an empty queue a nanosecond passes (log entry 1, the model's choice): with no slew
under way the datum rises by one; once in a microsecond a forward slew adds a count and a backward one holds the count (R395); nothing
else changes. A module without power does not count. After a power-fail warning the flash dies are write protected two milliseconds on
(R212; log entry 94, the model's reading). -/
def Obligations.EmptyQueueTicks : Prop :=
  ∀ s : State, s.pending = [] →
    (s.pwr.life = .off → step s = .next s) ∧
    (s.pwr.life ≠ .off → s.pwr.failedAt = none →
      let phase := (s.dat.phase + 1) % 1000
      (s.dat.slew = 0 ∨ s.dat.phase ≠ 0 → step s = .next { s with datum := (s.datum + 1) % 2 ^ 64, dat := { s.dat with phase := phase } }) ∧
      (s.dat.phase = 0 → 0 < s.dat.slew →
        step s = .next { s with datum := (s.datum + 2) % 2 ^ 64, dat := { s.dat with slew := s.dat.slew - 1, phase := phase } }) ∧
      (s.dat.phase = 0 → s.dat.slew < 0 → step s = .next { s with dat := { s.dat with slew := s.dat.slew + 1, phase := phase } })) ∧
    (∀ f, s.pwr.life ≠ .off → s.pwr.failedAt = some f → s.dat.slew = 0 → s.datum + 1 < 2 ^ 64 →
      step s = .next { s with
        datum := s.datum + 1, dat := { s.dat with phase := (s.dat.phase + 1) % 1000 }
        tier := { s.tier with writeProtect := s.tier.writeProtect || decide (f + 2000000 ≤ s.datum + 1) } })

/-- No command of the block ends in a fault, and a command is refused only where the spec says that it cannot occur: FIRE in RUNNING or
VOIDING, VOID in ARMED (R239), and DATA, FINISH, QUEUE_DATA or QUEUE_CREDIT ahead of the step (R331: "cannot be ahead"); a data flit
may carry such a packet. -/
def Obligations.StopsAreCellsThatCannotOccur : Prop :=
  ∀ (i : Instr) (s : State),
    (∀ f, exec i s ≠ .fault f) ∧
    (∀ r, exec i s = .refused r →
      (r = .cannotOccur "FIRE" ∧ ∃ p, (i = .fire p ∨ ∃ q f x, i = .dataFlit q f x)) ∨
      (r = .cannotOccur "VOID" ∧ ∃ p, (i = .void p ∨ ∃ q f x, i = .dataFlit q f x)) ∨
      (r = .cannotOccur "DATA" ∧ ∃ p, (i = .data p ∨ ∃ q f x, i = .dataFlit q f x)) ∨
      (r = .cannotOccur "FINISH" ∧ ∃ p, (i = .finish p ∨ ∃ q f x, i = .dataFlit q f x)) ∨
      (r = .cannotOccur "QUEUE_DATA" ∧ ∃ p, (i = .queueData p ∨ ∃ q f x, i = .dataFlit q f x)) ∨
      (r = .cannotOccur "QUEUE_CREDIT" ∧ ∃ p, (i = .queueCredit p ∨ ∃ q f x, i = .dataFlit q f x)))

/-! ### Doorbells (R360, R369, R370) -/

/-- Each doorbell value written takes effect: 8 bytes, not below the value held, not above what the module has produced. A TORN ring
also reads its descriptor again. RESUME takes a HALTED ring from retire_pos to ACTIVE.
A doorbell value below the one held is ignored and counted.
A doorbell write of another size, a CMD_PRODUCER above retire_pos plus the entry count, a consumer value above the producer position,
and a RESUME that R370 does not allow leave the positions held, and raise event 0x0102 with its offset, cause and value. -/
def Obligations.DoorbellsTakeEffect : Prop :=
  (∀ (s : State) (c : Nat) (v : Word), (s.ctx c).enabled = true →
       ((s.ctx c).cmdProducer ≤ v.toNat → v.toNat ≤ (s.ctx c).retirePos + s.cmdEntries c →
         Completes (.cmdProducer c 8 v) s fun t =>
           t.ctx c = { s.ctx c with
             cmdProducer := v.toNat
             reread := if (s.ctx c).ring = .torn then some ((s.ctx c).fetchPos, 0) else (s.ctx c).reread } ∧
           Keeps [.ctxs] s t ∧ OnlyCtx c s t) ∧
       ((s.ctx c).eventConsumer ≤ v.toNat → v.toNat ≤ (s.ctx c).eventPos →
         Completes (.eventConsumer c 8 v) s fun t =>
           t.ctx c = { s.ctx c with eventConsumer := v.toNat } ∧ Keeps [.ctxs] s t ∧ OnlyCtx c s t) ∧
       ((s.ctx c).tallyConsumer ≤ v.toNat → v.toNat ≤ (s.ctx c).tallyDone →
         Completes (.tallyConsumer c 8 v) s fun t =>
           t.ctx c = { s.ctx c with tallyConsumer := v.toNat } ∧ Keeps [.ctxs] s t ∧ OnlyCtx c s t) ∧
       ((s.ctx c).ring = .halted → v.toNat = (s.ctx c).retirePos →
         Completes (.resume c 8 v) s fun t =>
           t.ctx c = { s.ctx c with
             ring := .active, ringReason := 0, fetchPos := v.toNat, conesFetched := 0, statusDirty := true, starve := (t.ctx c).starve } ∧
           Keeps [.ctxs, .kilns] s t ∧ OnlyCtx c s t) ∧
       ((s.ctx c).ring = .torn → v.toNat = (s.ctx c).fetchPos →
         Completes (.resume c 8 v) s fun t =>
           t.ctx c = { s.ctx c with reread := some ((s.ctx c).fetchPos, 0) } ∧ Keeps [.ctxs] s t ∧ OnlyCtx c s t)) ∧
  (∀ (s : State) (c : Nat) (v : Word), (s.ctx c).enabled = true →
       (v.toNat < (s.ctx c).cmdProducer →
         exec (.cmdProducer c 8 v) s = .next (s.setCtx c { s.ctx c with ignoredCount := min ((s.ctx c).ignoredCount + 1) (2 ^ 32 - 1) })) ∧
       (v.toNat < (s.ctx c).eventConsumer →
         exec (.eventConsumer c 8 v) s = .next (s.setCtx c { s.ctx c with ignoredCount := min ((s.ctx c).ignoredCount + 1) (2 ^ 32 - 1) })) ∧
       (v.toNat < (s.ctx c).tallyConsumer →
         exec (.tallyConsumer c 8 v) s = .next (s.setCtx c { s.ctx c with ignoredCount := min ((s.ctx c).ignoredCount + 1) (2 ^ 32 - 1) }))) ∧
  (∀ (s : State) (c n : Nat) (v : Word), (s.ctx c).enabled = true →
       let bad (i : Instr) (off cause : Nat) : Prop := Completes i s fun t =>
         (t.ctx c).cmdProducer = (s.ctx c).cmdProducer ∧ (t.ctx c).eventConsumer = (s.ctx c).eventConsumer ∧
           (t.ctx c).tallyConsumer = (s.ctx c).tallyConsumer ∧ (t.ctx c).fetchPos = (s.ctx c).fetchPos ∧ (t.ctx c).ring = (s.ctx c).ring ∧
           CtxEvent c 0 0x0102 (off + (cause <<< 16) + (v.toNat <<< 64)) s t ∧ Keeps [.ctxs, .log, .host] s t ∧ OnlyCtx c s t
       (n ≠ 8 → bad (.cmdProducer c n v) 0 1 ∧ bad (.eventConsumer c n v) 8 1 ∧ bad (.tallyConsumer c n v) 16 1 ∧ bad (.resume c n v) 24 1) ∧
       ((s.ctx c).cmdProducer ≤ v.toNat → (s.ctx c).retirePos + s.cmdEntries c < v.toNat → bad (.cmdProducer c 8 v) 0 2) ∧
       ((s.ctx c).eventConsumer ≤ v.toNat → (s.ctx c).eventPos < v.toNat → bad (.eventConsumer c 8 v) 8 2) ∧
       ((s.ctx c).tallyConsumer ≤ v.toNat → (s.ctx c).tallyDone < v.toNat → bad (.tallyConsumer c 8 v) 16 2) ∧
       ((s.ctx c).ring = .halted → v.toNat ≠ (s.ctx c).retirePos → bad (.resume c 8 v) 24 3) ∧
       ((s.ctx c).ring = .torn → v.toNat ≠ (s.ctx c).fetchPos → bad (.resume c 8 v) 24 3) ∧
       ((s.ctx c).ring = .active ∨ (s.ctx c).ring = .blocked ∨ (s.ctx c).ring = .stalled → bad (.resume c 8 v) 24 3))

/-! ### The command ring (R362, R363) -/

/-- A fetch takes the valid descriptors that it reads into the dispatch window, in order, each at its position and in its step; the read
goes out for exactly those (R362), and where none of them names a host input nothing else does (R18).
A re-read of the descriptor at fetch_pos: valid, it is taken and a TORN ring goes back to ACTIVE; not valid, it is counted; the
eighth that is not valid raises 0x0101 and makes the ring TORN (R363, R369). -/
def Obligations.DescriptorsAreFetched : Prop :=
  (∀ (s : State) (c : Nat) (ds : List Desc),
       let x := s.ctx c
       let n := s.fetchCount c
       let at_ := s.pg c 0x080 + (x.fetchPos % s.cmdEntries c) * 128
       s.pwr.life = .ready → x.enabled = true → x.ring = .active → x.reread = none → x.strict = false → (s.blk 10 0).testBit 0 = false →
       0 < n → n ≤ ds.length →
       windowHolds s c (hostParts (s.pg c 0x080)).1 ((hostParts (s.pg c 0x080)).2 + (x.fetchPos % s.cmdEntries c) * 128) (n * 128) false = true →
       (s.readPort c (hostParts (s.pg c 0x080)).1).isSome = true →
       (∀ i, i < n → descValid (ds.getD i 0) (x.fetchPos + i) = true) →
       Completes (.descriptorFetch c ds) s fun t =>
         (t.ctx c).window.map (fun w => (w.pos, w.desc, w.step)) =
           x.window.map (fun w => (w.pos, w.desc, w.step)) ++ (List.range n).map (fun i =>
             (x.fetchPos + i, ds.getD i 0, x.fired + 1 + x.conesFetched + ((ds.take i).filter fun d => opcodeOf d == 0x62).length)) ∧
         (t.ctx c).fetchPos = x.fetchPos + n ∧ .readReq c at_ (n * 128) ∈ t.out ∧
         ((∀ i, i < n → inputsOf (ds.getD i 0) = []) → NothingHeld x →
           Sent (.readReq c at_ (n * 128)) t ∧ (t.ctx c).window.take x.window.length = x.window) ∧
         Keeps [.ctxs, .host, .out] s t ∧ OnlyCtx c s t) ∧
  (∀ (s : State) (c k : Nat) (d : Desc),
       let x := s.ctx c
       s.pwr.life = .ready → x.enabled = true → (x.ring = .active ∨ x.ring = .torn) → x.reread = some (x.fetchPos, k) →
       x.strict = false → (s.blk 10 0).testBit 0 = false → s.fetchCount c = 1 →
       windowHolds s c (hostParts (s.pg c 0x080)).1 ((hostParts (s.pg c 0x080)).2 + (x.fetchPos % s.cmdEntries c) * 128) 128 false = true →
       (s.readPort c (hostParts (s.pg c 0x080)).1).isSome = true → NothingHeld x →
       (descValid d x.fetchPos = true →
         Completes (.descriptorReread c [d]) s fun t =>
           (t.ctx c).fetchPos = x.fetchPos + 1 ∧ (t.ctx c).ring = .active ∧ (t.ctx c).reread = none ∧
           (t.ctx c).rereadCount = min (x.rereadCount + 1) (2 ^ 32 - 1) ∧ Keeps [.ctxs, .kilns, .host, .out] s t ∧
           OnlyCtx c s t) ∧
       (descValid d x.fetchPos = false → k < 7 →
         Completes (.descriptorReread c [d]) s fun t =>
           t.ctx c = { x with reread := some (x.fetchPos, k + 1), rereadCount := min (x.rereadCount + 1) (2 ^ 32 - 1) } ∧
           Keeps [.ctxs, .host, .out] s t ∧ OnlyCtx c s t) ∧
       (descValid d x.fetchPos = false → k = 7 →
         Completes (.descriptorReread c [d]) s fun t =>
           (t.ctx c).ring = .torn ∧ (t.ctx c).ringReason = 0x0101 ∧ (t.ctx c).fetchPos = x.fetchPos ∧ (t.ctx c).window = x.window ∧
           CtxEvent c 0 0x0101 (d.field 0 2 + (d.field 14 2 <<< 16) + ((x.fetchPos % 2 ^ 64) <<< 64)) s t ∧
           Keeps [.ctxs, .kilns, .out, .log, .host] s t ∧ OnlyCtx c s t))

/-! ### What the module writes to the hosts (R361, R364 to R367, R505) -/

/-- The next entry of a context's event ring goes to the slot of its position, in a free slot only; the position that the status block
shows stays until the write is acknowledged (R361, R365, R366). Told where no earlier write is held.
The status block shows the positions and the ring state, its event position as far as writes are acknowledged (R361, R364); the
steward's shows the next steward position whose entries below are all acknowledged (R356, R361). -/
def Obligations.EntriesAndStatusAreWritten : Prop :=
  (∀ (s : State) (c p : Nat) (ps : List Nat) (e : Entry) (rest : List Entry),
       let x := s.ctx c
       let n := s.eventEntries c
       let a := s.pg c 0x090 + (x.eventPos % n) * 64
       s.pwr.life = .ready → c ≠ 1024 → x.enabled = true → x.ring ≠ .orphaned → s.attached c = true →
       s.ringInWindow c (s.pg c 0x090) (n * 64) = true → windowPorts s c (hostParts (s.pg c 0x090)).1 = p :: ps →
       x.lostEntries = 0 → x.entryq = e :: rest → (∀ v ∈ x.writes, v.sent = true) →
       s.writePort c { addr := a, bytes := entryBytes e x.eventPos, kind := .entry x.eventPos, port := 0, sent := false } = some p →
       (x.eventPos < x.eventConsumer + n →
         Completes (.eventEntryWrite c) s fun t =>
           t.ctx c = { x with
             entryq := rest, eventPos := x.eventPos + 1, ringOut := x.ringOut && !s.ringsInside c
             writes := x.writes ++ [{ addr := a, bytes := entryBytes e x.eventPos, kind := .entry x.eventPos, port := p }] } ∧
           Sent (.write c a (entryBytes e x.eventPos)) t ∧ Keeps [.ctxs, .host, .out] s t ∧ OnlyCtx c s t) ∧
       (x.eventConsumer + n ≤ x.eventPos → exec (.eventEntryWrite c) s = .next s)) ∧
  (∀ (s : State) (c p : Nat) (ps : List Nat),
       let x := s.ctx c
       let a := s.pg c 0x0B0
       let bs := statusBytes x.fetchPos x.retirePos x.eventAcked x.tallyDone x.fired x.ring.code x.ringReason x.deliveredStep
       s.pwr.life = .ready →
       (c ≠ 1024 → x.enabled = true → x.ring ≠ .orphaned → s.attached c = true → x.statusDirty = true →
         (∀ n, x.statusAt = some n → n + 1000 ≤ s.datum) → s.ringInWindow c a 64 = true → windowPorts s c (hostParts a).1 = p :: ps →
         (∀ v ∈ x.writes, v.sent = true) →
         Completes (.statusBlockWrite c) s fun t =>
           t.ctx c = { x with
             statusDirty := false, statusAt := some s.datum
             writes := x.writes ++ [{ addr := a, bytes := bs, kind := .status, port := p }] } ∧
           Sent (.write c a bs) t ∧ Keeps [.ctxs, .host, .out] s t ∧ OnlyCtx c s t) ∧
       (s.stewardOpen = true → s.host.stewardHold = 0 → s.blk 5 0x110 ≠ 0 →
         (∀ n m, s.host.stewardStatus = some (n, m) → n ≠ s.stewardShown ∧ m + 1000 ≤ s.datum) →
         let bs := statusBytes 0 0 s.stewardShown 0 0 0 0 0
         Completes (.statusBlockWrite 1024) s fun t =>
           t.host.stewardWrites = s.host.stewardWrites ++ [{ addr := s.blk 5 0x110, bytes := bs, kind := .status, port := s.stewardPort }] ∧
           t.host.stewardPos = s.host.stewardPos ∧ t.host.stewardStatus = some (s.stewardShown, s.datum) ∧ Sent (.write 0xFFFF (s.blk 5 0x110) bs) t ∧ Keeps [.host, .out] s t ∧
           (s.host.stewardWrites = [] → s.stewardShown = s.host.stewardPos) ∧
           (∀ pos v rest, s.host.stewardWrites = v :: rest → v.kind = .entry pos → s.stewardShown = pos)))

/-- Tally delivery (R248, R367): a fired record that fits before the ring's end goes there whole; a record whose write is acknowledged is
delivered, and moves tally_pos and the delivered step.
Acknowledging the last bytes of the oldest outbound write of a queue pair takes it off; the positions that are shown advance past what
is acknowledged (R361), the tally record counts as acknowledged once none of its writes is open, and an operation that waited for its
last write completes (R505). Fewer bytes leave it there, with so many more acknowledged. A write that is not acknowledged goes out
again from its first unacknowledged byte (R505). -/
def Obligations.TalliesAndAcknowledgements : Prop :=
  (∀ (s : State) (c p : Nat) (ps : List Nat) (y : Tally),
       let x := s.ctx c
       let size := s.tallyBytes c
       let ring := s.pg c 0x0A0
       let w : HostWrite := { addr := ring + x.tallyPos % size, bytes := y.bytes,
                              kind := .tally y.step true (up64 (x.tallyPos + y.bytes.length)), port := p }
       (s.pwr.life = .ready → x.enabled = true → x.ring ≠ .orphaned → s.attached c = true →
         (x.tallies.find? fun t => t.fired && !t.written) = some y → y.bytes.length * 2 ≤ size → s.ringInWindow c ring size = true →
         windowPorts s c (hostParts ring).1 = p :: ps → x.tallyPos % size + y.bytes.length ≤ size →
         x.tallyPos + y.bytes.length ≤ x.tallyConsumer + size → (∀ v ∈ x.writes, v.sent = true) →
         s.writePort c { w with port := 0, sent := false } = some p →
         Completes (.tallyWrite c) s fun t =>
           (t.ctx c).tallyPos = up64 (x.tallyPos + y.bytes.length) ∧ (t.ctx c).tallyDone = x.tallyDone ∧
           (t.ctx c).writes = x.writes ++ [w] ∧
           (t.ctx c).tallies = x.tallies.map (fun u =>
             if u.step = y.step then { u with written := true, endPos := up64 (x.tallyPos + y.bytes.length) } else u) ∧
           Sent (.write c (ring + x.tallyPos % size) y.bytes) t ∧ Keeps [.ctxs, .host, .out] s t ∧ OnlyCtx c s t) ∧
       ((x.tallies.find? fun t => t.written && !t.delivered) = some y → y.acked = true →
         Completes (.tallyDelivered c) s fun t =>
           (t.ctx c).tallyDone = y.endPos ∧ (t.ctx c).deliveredStep = y.step ∧ (t.ctx c).tallyPos = x.tallyPos ∧
           (∀ u ∈ (t.ctx c).tallies, u.step = y.step → u.delivered = true) ∧ Keeps [.ctxs, .frames] s t ∧ OnlyCtx c s t)) ∧
  (∀ (s : State) (c p n : Nat) (earlier rest : List HostWrite) (w : HostWrite), c ≠ 1024 →
       let x := s.ctx c
       let left := earlier ++ rest
       x.writes = earlier ++ w :: rest → (∀ v ∈ earlier, ¬ (v.sent = true ∧ v.port = p)) → w.sent = true → w.port = p →
       (w.acked + n < w.bytes.length →
         Completes (.writeAcknowledged c p n) s fun t =>
           t.ctx c = { x with writes := earlier ++ { w with acked := w.acked + n } :: rest } ∧ Keeps [.ctxs] s t ∧ OnlyCtx c s t) ∧
       (w.bytes.length ≤ w.acked + n →
         (∀ pos, w.kind = .entry pos →
           Completes (.writeAcknowledged c p n) s fun t =>
             t.ctx c = { x with writes := left, eventAcked := ((left.filterMap entryAt).head?).getD x.eventPos, statusDirty := true } ∧
             Keeps [.ctxs] s t ∧ OnlyCtx c s t) ∧
         (∀ step last fin, w.kind = .tally step last fin →
           Completes (.writeAcknowledged c p n) s fun t =>
             t.ctx c = { x with
               writes := left
               tallies := x.tallies.map fun y =>
                 if y.step = step ∧ tallyOpen left step = false then { y with acked := true } else y } ∧
             Keeps [.ctxs] s t ∧ OnlyCtx c s t) ∧
         (∀ pos o, w.kind = .output pos → s.winOp c pos = some o → o.writes = 1 → o.st = .finished → o.desc.field 3 1 % 2 = 1 →
           Released s c o →
           Completes (.writeAcknowledged c p n) s fun t =>
             (t.ctx c).writes = left ∧ t.winOp c pos = none ∧
             ((t.ctx c).entryq.getLast?.map fun e => (e.kind, e.outcome, e.code, e.position, e.tag, e.payload)) =
               some (1, 0, opcodeOf o.desc, pos, o.desc.field 4 4, o.endPayload) ∧ Keeps [.ctxs] s t ∧ OnlyCtx c s t)) ∧
       (x.ring ≠ .orphaned → s.portOpen p = true →
         Completes (.writeRetransmit c p) s fun t =>
           t.ctx c = { x with writes := earlier ++ { w with resent := w.resent + 1 } :: rest } ∧
           Sent (.write c (w.addr + w.acked) (w.bytes.drop w.acked)) t ∧
           t.host = { s.host with retrans := s.host.retrans.modify p fun n => min (n + 1) (2 ^ 32 - 1) } ∧
           Keeps [.ctxs, .host, .out] s t ∧ OnlyCtx c s t))

/-- Reads of the module from a host: the keep-alive reads 8 bytes of the status block while the queue pairs carry nothing else (R372); a
read that makes no progress is asked for again and counted, and after HST_STALL_TIME stalls an ACTIVE ring with event 0x0103, told once
for an operation; the return of the last one makes the ring ACTIVE again, with event 0x0104 (R369, R371, R380). -/
def Obligations.HostReadsRetryAndStall : Prop :=
  ∀ (s : State) (c pos unread : Nat),
    let x := s.ctx c
    (∀ p, s.pwr.life = .ready → c ≠ 1024 → x.enabled = true → x.ring ≠ .orphaned → x.writes = [] →
      (∀ v ∈ x.window, ∀ r ∈ v.reads, r.port = none ∨ r.done = true) → x.keepRead = none →
      s.readPort c (hostParts (s.pg c 0x0B0)).1 = some p →
      Completes (.keepalive c) s fun t =>
        t.ctx c = { x with keepRead := some p } ∧ Sent (.readReq c (s.pg c 0x0B0) 8) t ∧ Keeps [.ctxs, .out] s t ∧ OnlyCtx c s t) ∧
    (∀ w a n r p, s.winOp c pos = some w → w.wait = some .hostInput → w.asked = some (a, n) → x.ring ≠ .orphaned →
      (w.reads.find? fun r => r.covers (a, n)) = some r → r.port = some p → s.portOpen p = true →
      Completes (.inputReadRetry c pos) s fun t =>
        t.ctx c = { x with retryCount := min (x.retryCount + 1) (2 ^ 32 - 1) } ∧ Sent (.readReq c a n) t ∧
        Keeps [.ctxs, .out] s t ∧ OnlyCtx c s t) ∧
    (∀ w a n r p, x.window = [w] → w.pos = pos → w.wait = some .hostInput → w.asked = some (a, n) → x.ring ≠ .orphaned →
      w.reads = [r] → r.covers (a, n) = true → r.port = none → r.done = false →
      windowHolds s c (hostParts a).1 (hostParts a).2 n false = true → s.readPort c (hostParts a).1 = some p →
      Completes (.inputReadRetry c pos) s fun t =>
        t.ctx c = { x with window := [{ w with reads := [{ r with port := some p }] }] } ∧ Sent (.readReq c a n) t ∧
        Keeps [.ctxs, .out] s t ∧ OnlyCtx c s t) ∧
    (∀ w, s.winOp c pos = some w → w.wait = some .hostInput → 0x0103 ∉ w.seen → pos ∉ x.stalledReads → x.ring = .active →
      Completes (.ringStalled c pos unread) s fun t =>
        (t.ctx c).ring = .stalled ∧ (t.ctx c).ringReason = 0x0103 ∧ (t.ctx c).stalledReads = pos :: x.stalledReads ∧
        CtxEvent c pos 0x0103 (((pos % 2 ^ 64) <<< 64) + ((unread % 2 ^ 64) <<< 128)) s t ∧ Keeps [.ctxs, .kilns, .log, .host] s t ∧
        OnlyCtx c s t) ∧
    (pos ∈ x.stalledReads → x.ring = .stalled → (∀ w, s.winOp c pos = some w → 0x0104 ∉ w.seen) →
      Completes (.ringResumed c pos) s fun t =>
        (t.ctx c).ring = .active ∧ (t.ctx c).ringReason = 0x0104 ∧ (t.ctx c).stalledReads = x.stalledReads.filter (fun k => k != pos) ∧
        CtxEvent c pos 0x0104 ((pos % 2 ^ 64) <<< 64) s t ∧ Keeps [.ctxs, .kilns, .log, .host] s t ∧ OnlyCtx c s t)

/-! ### Operations (R84 to R89, R240, R365) -/

/-- Every operation whose body runs to its end completes: it leaves the window, and with notify set its completion entry says outcome 0,
its position, step, tag and counts (R365). The rest of the state is what the body made of it; the kilns of the context are put
where its window leaves them (R83). -/
def Obligations.OperationsComplete : Prop :=
  ∀ row ∈ operations, ∀ (a : OpArg) (s : State) (w : WinOp) (r : Run),
    Dispatched s a w row.opc row.action → row.body.run (startRun s a w) = (.ok (), r) → r.writes = 0 → r.events = [] →
    Released r.s a.ctx w →
    Completes (row.cmd a) s fun t =>
      t.winOp a.ctx a.pos = none ∧ (w.desc.field 3 1 % 2 = 1 → Completion a.ctx w 0 (completionPayload r) r.s.datum t) ∧
      Keeps [.ctxs, .kilns] r.s t ∧ OnlyCtx a.ctx r.s t ∧
      t.ctx a.ctx = { r.s.ctx a.ctx with
        window := (r.s.ctx a.ctx).window.filter fun v => v.pos != a.pos
        entryq := (t.ctx a.ctx).entryq, starve := (t.ctx a.ctx).starve }

/-- R87: an operation that is refused has no effect; one that is stopped keeps what it had done. Both raise their event, leave the
window with a completion entry (outcome 1 or 2, and the counts gathered so far) and make the ring BLOCKED.
R240, R239: a cause of R240 found by an operation in a RUNNING step makes it VOIDING; its operations are discarded. R86: an operation
that waits stays in the window with its cause, and nothing of it stays but what a page wait keeps (R276, log entry 16). R271: a
PAGE_CONTROL behind an earlier dispatched one on one of its sequences waits. -/
def Obligations.OperationsStopOrWait : Prop :=
  (∀ row ∈ operations, ∀ (a : OpArg) (s : State) (w : WinOp) (r : Run) (code payload : Nat),
       Dispatched s a w row.opc row.action →
       (row.body.run (startRun s a w) = (.error (.refuse code payload), r) → (s.ctx a.ctx).ring = .active → Released s a.ctx w →
         Completes (row.cmd a) s fun t =>
           CtxEvent a.ctx a.pos code payload s t ∧ t.winOp a.ctx a.pos = none ∧ Completion a.ctx w 1 (completionPayload r) s.datum t ∧
           (t.ctx a.ctx).ring = .blocked ∧ (t.ctx a.ctx).ringReason = code ∧ Keeps [.ctxs, .kilns, .log, .host] s t ∧ OnlyCtx a.ctx s t) ∧
       (row.body.run (startRun s a w) = (.error (.stop code payload), r) → (r.s.ctx a.ctx).ring = .active → Released r.s a.ctx w →
         Completes (row.cmd a) s fun t =>
           CtxEvent a.ctx a.pos code payload r.s t ∧ t.winOp a.ctx a.pos = none ∧ Completion a.ctx w 2 (completionPayload r) r.s.datum t ∧
           (t.ctx a.ctx).ring = .blocked ∧ (t.ctx a.ctx).ringReason = code ∧ Keeps [.ctxs, .kilns, .log, .host] r.s t ∧
           OnlyCtx a.ctx r.s t)) ∧
  (∀ row ∈ operations, ∀ (a : OpArg) (s : State) (w : WinOp) (r : Run),
       Dispatched s a w row.opc row.action →
       (∀ code payload, row.body.run (startRun s a w) = (.error (.abort code payload), r) → (r.s.ctx a.ctx).step = .running →
         (r.s.ctx a.ctx).enabled = true → (r.s.ctx a.ctx).loading = false →
         Completes (row.cmd a) s fun t =>
           (t.ctx a.ctx).step = .voiding ∧ (t.ctx a.ctx).window = [] ∧ (t.ctx a.ctx).fired = (r.s.ctx a.ctx).fired ∧ t.mem = r.s.mem ∧
           t.pending = r.s.pending) ∧
       (∀ x n p, row.body.run (startRun s a w) = (.error (.read x n), r) → (∀ q ∈ w.reads, q.covers (x, n) = false) →
         NothingHeld (s.ctx a.ctx) → (s.ctx a.ctx).ring ≠ .orphaned → windowHolds s a.ctx (hostParts x).1 (hostParts x).2 n false = true →
         (s.takeInput a.ctx w a.hin).readPort a.ctx (hostParts x).1 = some p → Released s a.ctx w →
         Completes (row.cmd a) s fun t =>
           t.winOp a.ctx a.pos = some { gotInput w a.hin with
             wait := some .hostInput, told := w.told && w.wait == some .hostInput, due := false, asked := some (x, n)
             reads := (gotInput w a.hin).reads ++ [{ addr := x, len := n, port := some p }] } ∧
           Sent (.readReq a.ctx x n) t ∧ Keeps [.ctxs, .kilns, .host, .out] s t ∧ OnlyCtx a.ctx s t) ∧
       (∀ x, row.body.run (startRun s a w) = (.error (.wait x), r) → Released s a.ctx w →
         Completes (row.cmd a) s fun t =>
           t.winOp a.ctx a.pos = some { gotInput w a.hin with wait := some x, told := w.told && w.wait == some x, due := false } ∧
           Keeps [.ctxs, .kilns, .host] s t ∧ OnlyCtx a.ctx s t) ∧
       (∀ p, row.body.run (startRun s a w) = (.error (.miss p), r) → Released s a.ctx w →
         Completes (row.cmd a) s fun t =>
           t.winOp a.ctx a.pos =
             some { gotInput w a.hin with wait := some .demandMiss, told := w.told && w.wait == some .demandMiss, due := false } ∧
           p ∈ (t.ctx a.ctx).missing ∧ (p ∉ (s.ctx a.ctx).missing → alook p (t.ctx a.ctx).missedAt = some s.datum) ∧
           Keeps [.ctxs, .kilns, .host] s t ∧ OnlyCtx a.ctx s t)) ∧
  (∀ row ∈ operations, ∀ (a : OpArg) (s : State) (w : WinOp),
       Named s a w row.opc row.action → row.action ≠ none → s.pageBehind a.ctx w = true → Released s a.ctx w →
       Completes (row.cmd a) s fun t =>
         t.winOp a.ctx a.pos = some { gotInput w a.hin with wait := some .other, told := w.told && w.wait == some .other, due := false } ∧
         Keeps [.ctxs, .kilns, .host] s t ∧ OnlyCtx a.ctx s t)

/-- FENCE does nothing but complete (R89): every context but its own, every ring position, and all of memory are as before. A body that
is not zero is refused with event 0x06C0 at its offset (R8, R503).
FILL and COPY into scratch (R89, R224): the destination's bytes are the repeated pattern, or the source's bytes as they were; every
other byte of memory, and every part of the state but the completing context and its kilns, is as before. The bodies' layouts are the
model's (log entry 20).
The first write of a step to a parcel takes a frame from the reserve of the die of the old frame and fills it (R229), and its table entry
a frame more where the table is full (R231); it changes no byte of the fired frame (R19, R229). Told for a FILL of part of one parcel that
has a fired frame and no shadow.
RESIDENT_LOAD and RESIDENT_STORE with one kiln (R76, R77, R89): the bytes go between scratch and the kiln's shelf, at 8 MiB a
kiln from 78_0000_0000. The bodies' layouts are the model's (log entry 20). -/
def Obligations.CopiesFillsAndShadows : Prop :=
  (∀ (a : OpArg) (s : State) (w : WinOp), Dispatched s a w 0x01 none → Released s a.ctx w → Fresh w →
       (w.desc.field 24 104 = 0 → w.desc.field 3 1 % 2 = 1 →
         Completes (.fence a) s fun t =>
           t.winOp a.ctx a.pos = none ∧ Completion a.ctx w 0 (completionPayload (startRun s a w)) s.datum t ∧
           (t.ctx a.ctx).fetchPos = (s.ctx a.ctx).fetchPos ∧ (t.ctx a.ctx).retirePos = (s.ctx a.ctx).retirePos ∧
           Keeps [.ctxs, .kilns] s t ∧ OnlyCtx a.ctx s t) ∧
       (w.desc.field 24 104 ≠ 0 → (s.ctx a.ctx).ring = .active →
         Completes (.fence a) s fun t =>
           CtxEvent a.ctx a.pos 0x06C0 (24 + ((a.pos % 2 ^ 64) <<< 64)) s t ∧ (t.ctx a.ctx).ring = .blocked ∧
           Keeps [.ctxs, .kilns, .log, .host] s t ∧ OnlyCtx a.ctx s t)) ∧
  (∀ (a : OpArg) (s : State) (w : WinOp) (n d : Nat),
       let inScratch (m : Nat) := s.pg a.ctx 0x028 ≤ m ∧ m + n ≤ s.pg a.ctx 0x028 + s.pg a.ctx 0x030 ∧ inMemory m n = true
       s.upsets = [] → Released s a.ctx w → Fresh w → 0 < n → n ≤ 2 ^ 45 → w.desc.field 24 8 = n → formOf (w.desc.field 40 8) = .scratch d →
       inScratch d → w.desc.field 48 80 = 0 →
       (Dispatched s a w 0x03 none →
         Completes (.fill a) s fun t =>
           t.winOp a.ctx a.pos = none ∧ Memory.getBytes t.mem d n = repeated (w.desc.field 32 8) n ∧ MemoryOutside d n s t ∧
           Keeps [.ctxs, .kilns, .mem] s t ∧ OnlyCtx a.ctx s t) ∧
       (∀ m, Dispatched s a w 0x02 none → formOf (w.desc.field 32 8) = .scratch m → inScratch m →
         Completes (.copy a) s fun t =>
           t.winOp a.ctx a.pos = none ∧ Memory.getBytes t.mem d n = Memory.getBytes s.mem m n ∧ MemoryOutside d n s t ∧
           Keeps [.ctxs, .kilns, .mem] s t ∧ OnlyCtx a.ctx s t)) ∧
  (∀ (a : OpArg) (s s1 s2 : State) (w : WinOp) (n x p off g : Nat) (e : PEntry),
       Dispatched s a w 0x03 none → s.upsets = [] → w.desc.field 24 8 = n → w.desc.field 48 80 = 0 →
       formOf (w.desc.field 40 8) = .state x → pieces x n = [(p, off, n)] → 0 < n → n < 4096 → (s.ctx a.ctx).loading = false →
       alook p (s.ctx a.ctx).shadows = none → (s.ctx a.ctx).shadows.length < 8800000 → (s.ctx a.ctx).migrations = [] →
       inMemory (s.pg a.ctx 0x018 + 8 * (p / 512)) 8 = true → (∀ b, s.entryAddr a.ctx p = some b → inMemory b 8 = true) →
       Released s a.ctx w → Fresh w → s.firedEntry a.ctx p = some e → e.where_ = 1 → inMemory e.frame 4096 = true →
       s.takeReserve (bits e.frame 39 1) = some (g, s1) → s1.takeTable a.ctx = some s2 →
       inMemory (g + off) n = true → (e.frame + 4096 ≤ g ∨ g + 4096 ≤ e.frame) →
       Completes (.fill a) s fun t =>
         alook p (t.ctx a.ctx).shadows = some { frame := g, filled := true, old := some e.frame } ∧
         t.frames0 = s2.frames0 ∧ t.frames1 = s2.frames1 ∧ (t.ctx a.ctx).tableFrames = (s2.ctx a.ctx).tableFrames ∧
         (0 < (s.frames (bits e.frame 39 1)).reserve → g = frameAddr (bits e.frame 39 1) (s.nextFrame (bits e.frame 39 1))) ∧
         Memory.getBytes t.mem (g + off) n = repeated (w.desc.field 32 8) n ∧
         Memory.getBytes t.mem g off = Memory.getBytes s.mem e.frame off ∧
         Memory.getBytes t.mem e.frame 4096 = Memory.getBytes s.mem e.frame 4096 ∧ MemoryOutside g 4096 s t ∧
         t.winOp a.ctx a.pos = none ∧ Keeps [.ctxs, .kilns, .mem, .frames, .tier] s t ∧ OnlyCtx a.ctx s t) ∧
  (∀ (a : OpArg) (s : State) (w : WinOp) (n m o k : Nat),
       let shelf := 0x7800000000 + k * 0x800000 + o
       s.upsets = [] → Released s a.ctx w → Fresh w → 0 < n → o + n ≤ s.residentSize a.ctx → w.desc.field 24 8 = n → w.desc.field 48 80 = 0 →
       (kilnsOf w.desc).2 = 1 → s.opKilns a.ctx w.desc = [k] → inMemory shelf n = true → inMemory m n = true →
       s.pg a.ctx 0x028 ≤ m → m + n ≤ s.pg a.ctx 0x028 + s.pg a.ctx 0x030 →
       (Dispatched s a w 0x04 none → formOf (w.desc.field 32 8) = .scratch m → formOf (w.desc.field 40 8) = .resident o →
         Completes (.residentLoad a) s fun t =>
           t.winOp a.ctx a.pos = none ∧ Memory.getBytes t.mem shelf n = Memory.getBytes s.mem m n ∧ MemoryOutside shelf n s t ∧
           Keeps [.ctxs, .kilns, .mem] s t ∧ OnlyCtx a.ctx s t) ∧
       (Dispatched s a w 0x05 none → formOf (w.desc.field 32 8) = .resident o → formOf (w.desc.field 40 8) = .scratch m →
         Completes (.residentStore a) s fun t =>
           t.winOp a.ctx a.pos = none ∧ Memory.getBytes t.mem m n = Memory.getBytes s.mem shelf n ∧ MemoryOutside m n s t ∧
           Keeps [.ctxs, .kilns, .mem] s t ∧ OnlyCtx a.ctx s t))

/-! ### Operations on numbers, attention and embedding tables: small forms, told whole (R91 to R94, R108 to R127, R133 to R157) -/

/-- Operations on numbers complete, on forms small enough to tell whole. R54 to R60, R91: PRODUCT of two F16 values into F32. R68:
PARTIAL_SUM of two values. R43: CONVERT of an F32 value to F16. R109: AMAX of one value. R93, R94: VECTOR of one block whose program
halts at once; the parameters stand in registers 8 to 15 of its kiln. R123, R124: OPT_SGD_MOMENTUM and OPT_ADAM of one element whose
state parcel has its shadow; a gradient, moment or master that is not finite leaves it as it was. R126, R127: OPT_ROWWISE_ADAGRAD of one
granule. Every other byte, and every part but those named, is as before. Bodies that the spec does not lay out are the model's (log entry
20). -/
def Obligations.ArithmeticOperationsComplete : Prop :=
  ∀ (a : OpArg) (s : State) (w : WinOp) (x y z : Nat), s.upsets = [] → Released s a.ctx w → Fresh w →
    let c := a.ctx
    let f (n : Nat) := w.desc.field n 8
    let f32 (n : Nat) : Flt.Val := Flt.decode Flt.fmtF32 n
    (Dispatched s a w 0x10 none →
      HasFields w.desc [(24, 4, 1), (28, 4, 1), (32, 4, 1), (36, 4, 0), (40, 8, 0x11), (56, 8, 0), (72, 8, 0), (80, 8, 0), (96, 32, 0)] →
      InScratch s c (f 48) 2 x → InScratch s c (f 64) 2 y → InScratch s c (f 88) 4 z →
      Completes (.product a) s fun t =>
        t.memNat z 4 = (element (s.heritage c) 0 1 1 0 (fun _ => decodeElem 1 (s.memNat x 2)) (fun _ => decodeElem 1 (s.memNat y 2))
          (fun _ => 0x7F) fun _ => 0x7F).total ∧
        MemoryOutside z 4 s t ∧ Ended a [.draw, .ctxs, .kilns, .mem, .log, .host] s t) ∧
    (Dispatched s a w 0x11 none →
      HasFields w.desc [(24, 4, 2), (28, 4, 0), (32, 4, 1), (36, 4, 1), (48, 8, 4), (64, 64, 0)] →
      InScratch s c (f 40) 8 x → InScratch s c (f 56) 4 z →
      Completes (.partialSum a) s fun t =>
        t.memNat z 4 = (Flt.treeSum [s.memNat x 4, s.memNat (x + 4) 4]).1 ∧ MemoryOutside z 4 s t ∧ Ended a [.ctxs, .kilns, .mem] s t) ∧
    (Dispatched s a w 0x20 none →
      HasFields w.desc [(24, 4, 1), (28, 4, 1), (32, 8, 0x10), (48, 8, 0), (64, 64, 0)] →
      InScratch s c (f 40) 4 x → InScratch s c (f 56) 2 z →
      Completes (.convert a) s fun t =>
        t.memNat z 2 = (Flt.toIeee Flt.fmtF16 .even (f32 (s.memNat x 4))).1 ∧ MemoryOutside z 2 s t ∧ Ended a [.ctxs, .kilns, .mem] s t) ∧
    (Dispatched s a w 0x21 none →
      HasFields w.desc [(24, 4, 1), (28, 4, 1), (32, 8, 0), (48, 16, 0), (72, 56, 0)] →
      InScratch s c (f 40) 4 x → InScratch s c (f 64) 4 z →
      Completes (.amax a) s fun t =>
        t.memNat z 4 = (amaxBits [f32 (s.memNat x 4)]).1 ∧ MemoryOutside z 4 s t ∧ Ended a [.ctxs, .kilns, .mem] s t) ∧
    (Dispatched s a w 0x28 none →
      HasFields w.desc [(32, 4, 1), (36, 4, 1), (48, 48, 0)] → f 24 % 8 = 0 →
      InScratch s c (f 24) 8 x → InScratch s c (f 120) 64 y → (viOf (BitVec.ofNat 64 (s.memNat x 8))).opc = 0x3E →
      Completes (.vector a) s fun t =>
        let k := (s.kilnSet c).getD (bits (f 16) 16 6) 0
        (∀ j, j < 8 → (vuOf t k).sreg (8 + j) = s.memNat (y + 8 * j) 8) ∧ (vuOf t k).sreg 6 = 0 ∧ (vuOf t k).halted = true ∧
        Ended a [.ctxs, .kilns] s t) ∧
    (∀ p sh, formOf (f 32) = .state (p * 4096) → (s.ctx c).loading = false → alook p (s.ctx c).shadows = some sh → inMemory sh.frame 4096 = true →
      HasFields w.desc [(24, 4, 1), (28, 4, 0), (48, 32, 0), (120, 8, 0)] → InScratch s c (f 40) 4 x →
      let o := optOf w.desc
      let g := (Flt.toIeee Flt.fmtF32 .even (Flt.mulVal (f32 (s.memNat x 4)) (f32 o.mult)).1).1
      let old (off : Nat) := s.memNat (sh.frame + off) 4
      let now (t : State) (off : Nat) := t.memNat (sh.frame + off) 4
      let whole (t : State) : Prop := MemoryOutside sh.frame 4096 s t ∧ Ended a [.ctxs, .kilns, .mem, .tier, .log, .host] s t
      (Dispatched s a w 0x50 none → HasFields w.desc [(92, 16, 0), (112, 8, 0)] →
        Completes (.optSgdMomentum a) s fun t =>
          let new := ((sgdStep o g (old 0) (old 2048)).run {}).1
          (finite32 g = true → finite32 new.1 = true → finite32 new.2 = true → now t 2048 = new.1 ∧ now t 0 = new.2) ∧
          (finite32 g = false → now t 2048 = old 2048 ∧ now t 0 = old 0) ∧ whole t) ∧
      (Dispatched s a w 0x52 none →
        Completes (.optAdam a) s fun t =>
          let new := ((adamStep o g (old 0) (old 1364) (old 2728)).run {}).1
          (finite32 g = true → finite32 new.1 = true → finite32 new.2.1 = true → finite32 new.2.2 = true →
            now t 1364 = new.1 ∧ now t 2728 = new.2.1 ∧ now t 0 = new.2.2) ∧
          (finite32 g = false → now t 1364 = old 1364 ∧ now t 2728 = old 2728 ∧ now t 0 = old 0) ∧ whole t)) ∧
    (Dispatched s a w 0x51 none → HasFields w.desc [(24, 4, 1), (28, 4, 0), (40, 12, 0), (64, 64, 0)] → InScratch s c (f 32) 80 x →
      s.memNat x 4 = 1 → s.memNat (x + 64) 8 % 8 = 0 → InScratch s c (s.memNat (x + 64) 8 / 64 * 64) 64 y →
      InScratch s c (s.memNat (x + 8) 8 + s.memNat (x + 72) 4 * 64) 64 z →
      Completes (.optRowwiseAdagrad a) s fun t =>
        let new := ((adagradGranule false 0 0 (w.desc.field 52 4) (w.desc.field 56 4) (w.desc.field 60 4)
          (Memory.getBytes s.mem y 64) (Memory.getBytes s.mem z 64)).run {}).1
        (∀ bs, new = some bs → Memory.getBytes t.mem y bs.length = bs) ∧
        (new = none → ∀ b, Memory.get t.mem b = Memory.get s.mem b) ∧ MemoryOutside y 64 s t ∧
        Ended a [.ctxs, .kilns, .mem, .log, .host] s t)

/-- R278 to R287: ATTENTION_FWD and ATTENTION_BWD of one query row over one sequence of a plain pool, of at most one block, which is held:
they read its pages, write their results and nothing else of memory, and touch the frames that the sequence holds (R280). With no token
the statistics are minus infinity and 0 (R284). Told without rotation and without a mask. -/
def Obligations.AttentionCompletes : Prop :=
  ∀ (a : OpArg) (s : State) (w : WinOp) (id h xp xl xq : Nat), s.upsets = [] → Released s a.ctx w → Fresh w →
    let c := a.ctx
    let f (n : Nat) := w.desc.field n 8
    let pn := s.seqPool id
    let p := s.pool pn
    let layer := w.desc.field 26 1
    let len := s.seqLength id layer
    let row := 4 * h * p.dim
    let touched (t : State) : Prop := ∀ j, j < 512 → s.holdsFrame pn (s.pageEntry id j) = true →
      c ∈ (t.pframe pn (s.pageEntry id j).frame).touch ∧ (t.pframe pn (s.pageEntry id j).frame).lastUse = s.datum
    HasFields w.desc [(24, 2, 1), (27, 1, h), (28, 4, 0)] → 1 ≤ h → h ≤ 64 → h % p.heads = 0 →
    InScratch s c (f 32) 64 xp → s.memNat (xp + 8) 2 = 0 → s.memNat (xp + 10) 1 ≤ 1 →
    InScratch s c (f 40) 32 xl → s.memNat xl 2 = id → id < 6144 → s.memNat (xl + 4) 4 = 1 → s.memNat (xl + 8) 4 = 0 →
    InScratch s c (f 48) row xq → inMemory (s.seqRec id) 128 = true → inMemory (s.seqList id) 4096 = true →
    s.memNat (s.seqRec id) 1 = 1 → s.memNat (s.seqRec id + 4) 2 = c → layer < p.layers → p.latent = false → p.ok = true → p.frames ≠ 0 →
    s.seqWindow id = 0 → len ≤ 64 →
    (0 < len → s.holdsFrame pn (s.pageEntry id 0) = true ∧ inMemory (p.frameAt (s.pageEntry id 0).frame) p.pageSize = true) →
    (Dispatched s a w 0x18 none → bits (f 16) 8 2 = 0 → HasFields w.desc [(72, 8, 0), (84, 44, 0)] → ∀ xo xs,
      InScratch s c (f 56) row xo → InScratch s c (f 64) (8 * h) xs →
      Completes (.attentionFwd a) s fun t =>
        (len = 0 → Memory.getBytes t.mem xs (8 * h) = (List.range h).flatMap fun _ => leBytes 4 negInf ++ leBytes 4 0) ∧ touched t ∧
        (∀ b, (b < xo ∨ xo + row ≤ b) → (b < xs ∨ xs + 8 * h ≤ b) → Memory.get t.mem b = Memory.get s.mem b) ∧
        Ended a [.draw, .ctxs, .kilns, .mem, .pframes, .log, .host] s t) ∧
    (Dispatched s a w 0x19 none → bits (f 16) 8 2 = 1 → HasFields w.desc [(104, 8, 0), (116, 12, 0)] → s.memNat (xl + 16) 8 = 0 →
      ∀ xo xg xs xdq xdk xdv,
      InScratch s c (f 56) row xo → InScratch s c (f 64) row xg → InScratch s c (f 72) (8 * h) xs → InScratch s c (f 80) row xdq →
      InScratch s c (f 88) (4 * p.heads * p.dim * len) xdk → InScratch s c (f 96) (4 * p.heads * p.dim * len) xdv →
      Completes (.attentionBwd a) s fun t =>
        touched t ∧
        (∀ b, (b < xdq ∨ xdq + row ≤ b) → (b < xdk ∨ xdk + 4 * p.heads * p.dim * len ≤ b) →
          (b < xdv ∨ xdv + 4 * p.heads * p.dim * len ≤ b) → Memory.get t.mem b = Memory.get s.mem b) ∧
        Ended a [.draw, .ctxs, .kilns, .mem, .pframes, .log, .host] s t)

/-- R137 to R146: GATHER_POOL of one lookup opens a batch with one ordinal and one coalescer entry: its row's 32-byte slice goes to the
slice buffer, a zeroed granule to the slab, and the pooled elements to the output. R147 to R150: SCATTER_GRAD adds the gradient of one
bag of one lookup to its slab granule, and its ordinal is done. R153 to R156: MIGRATE of a parcel that is in its class completes; of
another, it takes a mask frame and a frame of the destination die and waits for the copy, which completes it; the fired copy is read and
not changed. R204, R205: PREFETCH_ANNOUNCE of a parcel holds it until the step it names, and queues its promotion when it is on flash
only. R251: CHECK_LINE writes the digest of a fired parcel. Told with STRICT clear for GATHER_POOL and SCATTER_GRAD. -/
def Obligations.EmbeddingOperationsComplete : Prop :=
  ∀ (a : OpArg) (s : State) (w : WinOp) (x y z : Nat) (e : PEntry), s.upsets = [] → Released s a.ctx w → Fresh w →
    let c := a.ctx
    let f (n : Nat) := w.desc.field n 8
    let p := s.memNat x 8
    (∀ h sx bx, Dispatched s a w 0x30 none →
      HasFields w.desc [(24, 4, 1), (28, 4, 1), (32, 4, 0x10 + h), (36, 4, 1), (64, 16, 0), (88, 8, 0), (112, 4, 1), (116, 12, 0)] → h < 16 →
      (s.ctx c).strict = false → (∀ b ∈ (s.ctx c).batches, b.handle ≠ h) →
      (∀ v ∈ (s.ctx c).window, v.pos < a.pos → opcodeOf v.desc = 0x30 → v.st = .finished) → 0 < s.entriesFree →
      InScratch s c (f 56) 4 x → InScratch s c (f 80) 64 z → InScratch s c (f 96) 64 sx → InScratch s c (f 104) 32 bx →
      f 48 ≤ 2 ^ 39 → s.memNat x 4 < f 48 → f 40 % 4096 = 0 →
      ∀ tbl, formOf (f 40) = .state tbl →
      let at_ := tbl + s.memNat x 4 * 64
      formOf (f 40 + s.memNat x 4 * 64) = .state at_ → alook (at_ / 4096) (s.ctx c).shadows = none → InDram s c (at_ / 4096) e →
      (sx + 64 ≤ e.frame ∨ e.frame + 4096 ≤ sx) →
      Completes (.gatherPool a) s fun t =>
        (∀ i, i < 16 → t.memNat (z + 4 * i) 4 = ((fadd 0 (s.memNat (e.frame + at_ % 4096 + 2 * i) 2 <<< 16)).run {}).1) ∧
        (∀ b, (b < z ∨ z + 64 ≤ b) → (b < sx ∨ sx + 64 ≤ b) → (b < bx ∨ bx + 32 ≤ b) → Memory.get t.mem b = Memory.get s.mem b) ∧
        (∃ b ∈ (t.ctx c).batches, b.handle = h ∧ b.entries.map (·.row) = [s.memNat x 4] ∧ b.ords.map (·.done) = [true]) ∧
        t.entriesFree = s.entriesFree - 1 ∧ Ended a [.ctxs, .kilns, .mem, .entries, .tier] s t) ∧
    (∀ h b o row, Dispatched s a w 0x31 none → HasFields w.desc [(24, 4, 1), (28, 4, h), (40, 8, 0), (52, 76, 0)] → h < 16 →
      (s.ctx c).strict = false → (s.ctx c).batches.find? (fun b => b.handle == h) = some b → b.ords = [o] → o.done = true → o.scattered = false →
      o.bagLens = [1] → o.rows = [some row] → (gatherOf o.desc).bags = 1 → (gatherOf o.desc).weight = 0 → bits (gatherOf o.desc).flags 7 7 = 0 →
      InScratch s c (f 32) 64 x →
      let slab := ((b.entries.find? fun q => q.table == (gatherOf o.desc).table && q.row == row).map (·.slab)).getD 0
      formOf b.slabAddr = .scratch y → s.pg c 0x028 ≤ y → y + slab * 64 + 64 ≤ s.pg c 0x028 + s.pg c 0x030 → inMemory (y + slab * 64) 64 = true →
      Completes (.scatterGrad a) s fun t =>
        (∀ i, i < 16 → t.memNat (y + slab * 64 + 4 * i) 4 =
          (laneSum 0 (s.memNat (y + slab * 64 + 4 * i) 4)
            (Flt.treeSum [((fmul (widenF32 (decodeElem 0 (s.memNat (x + 4 * i) 4))) 0x3F800000).run {}).1]).1).1) ∧
        MemoryOutside (y + slab * 64) 64 s t ∧
        (∃ b' ∈ (t.ctx c).batches, b'.handle = h ∧ b'.ords.map (·.scattered) = [true]) ∧ Ended a [.ctxs, .kilns, .mem] s t) ∧
    (∀ dest, Dispatched s a w 0x32 none → HasFields w.desc [(24, 4, 1), (28, 4, dest), (40, 88, 0)] → dest < 4 → InScratch s c (f 32) 8 x →
      (s.ctx c).migrations = [] → (s.ctx c).maskFrames = [] → (s.entryAddr c p).isSome = true →
      (s.ctxs.map fun y => y.2.migrations.length).sum < 1048576 → s.firedEntry c p = some e → EntryInMemory s c p →
      (inClass e dest = true → Completes (.migrate a) s fun t => (t.ctx c).migrations = [] ∧ Ended a [.ctxs, .kilns] s t) ∧
      (∀ g k u v, inClass e dest = false → dest < 2 → s.takeReserve s.reserveDie = some (g, u) → u.takePool dest = some (k, v) →
        Completes (.migrate a) s fun t =>
          (t.ctx c).migrations = [{ parcel := p, dest := bits k 39 1, frame := k, pos := a.pos,
                                    dirty := if (alook p (s.ctx c).shadows).isSome then 2 ^ 64 - 1 else 0 }] ∧
          (t.ctx c).maskFrames = [g] ∧ (∃ w', t.winOp c a.pos = some w' ∧ w'.wait = some .other) ∧
          Keeps [.ctxs, .kilns, .frames, .tier] s t ∧ OnlyCtx c s t)) ∧
    (∀ m, (s.ctx c).migrations = [m] → m.parcel = p → m.pending = false → m.dest < 2 → m.pos = a.pos → a = { ctx := c, pos := a.pos } →
      Dispatched s a w 0x32 none → InDram s c p e →
      Completes (.migrationCopyComplete c p) s fun t =>
        (t.ctx c).migrations = [{ m with pending := true }] ∧ Memory.getBytes t.mem m.frame 4096 = Memory.getBytes s.mem e.frame 4096 ∧
        MemoryOutside m.frame 4096 s t ∧ Ended a [.ctxs, .kilns, .mem, .tier] s t) ∧
    (Dispatched s a w 0x60 none → HasFields w.desc [(24, 4, 1), (28, 4, 0x21), (32, 16, 0), (56, 72, 0)] → InScratch s c (f 48) 16 x →
      s.memNat (x + 8) 8 = 1 → 1 ≤ s.blk 11 0x0 → s.firedEntry c p = some e → EntryInMemory s c p → s.announced c p = false → s.heldParcels < s.blk 11 0x8 →
      s.tier.promoq.length < s.freePool + s.freeable → s.tier.dropped < 2 ^ 32 →
      let noted (t : State) : Prop := (t.ctx c).announces =
        (s.ctx c).announces ++ [{ target := s.step c + 1, by_ := s.step c, parcels := [p] }]
      (e.where_ = 1 → Completes (.prefetchAnnounce a) s fun t => noted t ∧ Ended a [.ctxs, .kilns] s t) ∧
      (e.where_ = 2 → e.lost = false → Completes (.prefetchAnnounce a) s fun t =>
        noted t ∧ t.tier = { s.tier with
          promoq := s.tier.promoq ++ (if s.tier.promoq.contains (homeKey c p) then [] else [homeKey c p]) } ∧
        Ended a [.ctxs, .kilns, .tier] s t)) ∧
    (Dispatched s a w 0x61 none → HasFields w.desc [(24, 8, 1), (48, 80, 0)] → InScratch s c (f 32) 16 x → InScratch s c (f 40) 16 z →
      s.memNat (x + 8) 8 = 1 → InDram s c p e →
      Completes (.checkLine a) s fun t =>
        t.memNat z 16 = checkDigest [(p, Memory.getBytes s.mem e.frame 4096)] ∧ MemoryOutside z 16 s t ∧
        Ended a [.ctxs, .kilns, .mem, .tier] s t)

/-! ### Pipeline queues (R97 to R102) and page control (R265 to R272) -/

/-- QUEUE_SEND takes a credit, or waits without one; QUEUE_RECV takes the next slot that has arrived and reports its address, or waits;
QUEUE_RELEASE gives a credit back (R98). The bodies' layouts are the model's (log entry 20). -/
def Obligations.QueueOperations : Prop :=
  ∀ (a : OpArg) (s : State) (w : WinOp) (id n m : Nat) (q : QueueRec),
    let e := (s.ctx a.ctx).queue id
    s.queueRec a.ctx id = some q → s.upsets = [] → inMemory (s.pg a.ctx 0x078 + 32 * id) 32 = true → Released s a.ctx w → Fresh w →
    w.desc.field 24 1 = id → w.desc.field 25 7 = 0 →
    (Dispatched s a w 0x48 none → q.recv = false → formOf (w.desc.field 32 8) = .scratch m → w.desc.field 40 8 = n → n ≤ q.slotBytes →
      w.desc.field 48 80 = 0 →
      (e.sends < e.credits + q.slots → 0 < n → inMemory m n = true → s.pg a.ctx 0x028 ≤ m →
        m + n ≤ s.pg a.ctx 0x028 + s.pg a.ctx 0x030 →
        Completes (.queueSend a) s fun t =>
          t.winOp a.ctx a.pos = none ∧ (t.ctx a.ctx).queue id = { e with sends := e.sends + 1 } ∧
          Keeps [.ctxs, .kilns, .ports, .out, .discards, .log, .host] s t ∧ OnlyCtx a.ctx s t) ∧
      (e.credits + q.slots ≤ e.sends →
        Completes (.queueSend a) s fun t =>
          t.winOp a.ctx a.pos = some { w with wait := some .queueCredit, told := w.told && w.wait == some .queueCredit, due := false } ∧ (t.ctx a.ctx).queue id = e ∧
          Keeps [.ctxs, .kilns] s t ∧ OnlyCtx a.ctx s t)) ∧
    (Dispatched s a w 0x49 none → q.recv = true → w.desc.field 32 96 = 0 →
      ((alook e.recvs e.sizes).isSome = true → w.desc.field 3 1 % 2 = 1 →
        Completes (.queueRecv a) s fun t =>
          let slot := q.base + e.recvs % q.slots * q.slotBytes
          t.winOp a.ctx a.pos = none ∧ (t.ctx a.ctx).queue id = { e with recvs := e.recvs + 1 } ∧
          Completion a.ctx w 0 (completionPayload { startRun s a w with own := [slot % 2 ^ 32, slot / 2 ^ 32 % 2 ^ 32] }) s.datum t ∧
          Keeps [.ctxs, .kilns] s t ∧ OnlyCtx a.ctx s t) ∧
      (alook e.recvs e.sizes = none →
        Completes (.queueRecv a) s fun t =>
          t.winOp a.ctx a.pos = some { w with wait := some .queueArrival, told := w.told && w.wait == some .queueArrival, due := false } ∧
          (t.ctx a.ctx).queue id = e ∧
          Keeps [.ctxs, .kilns] s t ∧ OnlyCtx a.ctx s t)) ∧
    (Dispatched s a w 0x4A none → q.recv = true → w.desc.field 32 96 = 0 →
      Completes (.queueRelease a) s fun t =>
        t.winOp a.ctx a.pos = none ∧ (t.ctx a.ctx).queue id = { e with releases := e.releases + 1 } ∧
        Keeps [.ctxs, .kilns, .ports, .out, .discards, .log, .host] s t ∧ OnlyCtx a.ctx s t)

/-- PAGE_CONTROL OPEN writes the record that R265 lays out: open, pool, class, context, window, first position, lengths 0, step; and an
empty page list. UNPIN and FREE take effect with the firing (R268, R272): in the step they are noted, and only the stamp of the last
change is written.
R273: APPEND of one token to a sequence without a window in a plain pool writes its slot, in the block's own frame or, where the block has
none, in a free frame that is then held, touched and counted (R267, R269); the length rises by one; a parked one goes on so when a frame
is free (R276). REFILL puts a dropped block's tokens into a free frame and its entry to it (R272, R278). PIN sets the pinned flag and
puts every frame that the sequence holds into class 4 (R267). FORK writes a record of the source's first tokens, its page list and one
more count of every frame held (R268, R272). -/
def Obligations.PageControlRecords : Prop :=
  (∀ (a : OpArg) (s : State) (w : WinOp) (id : Nat),
       w.desc.field 24 2 = id → id < 6144 → w.desc.field 57 71 = 0 → w.desc.field 56 1 = 0 → w.desc.field 40 8 = 0 →
       w.desc.field 48 8 = 0 → s.upsets = [] → Released s a.ctx w → Fresh w → inMemory (s.seqRec id) 128 = true → inMemory (s.seqList id) 4096 = true →
       (Dispatched s a w 0x1A (some 1) → (w.desc.field 32 2 = 0 ∨ (2 ≤ w.desc.field 32 2 ∧ w.desc.field 32 2 ≤ 512)) →
         w.desc.field 34 1 < 8 → w.desc.field 35 1 < 4 → w.desc.field 36 4 < 2 ^ 31 → s.tableFull = false → s.memNat (s.seqRec id) 1 = 0 →
         (s.pool (w.desc.field 34 1)).frames ≠ 0 → a.ctx < 65536 → s.step a.ctx < 2 ^ 64 →
         Completes (.openSeq a) s fun t =>
           let rec_ := s.seqRec id
           t.winOp a.ctx a.pos = none ∧ t.memNat rec_ 1 = 1 ∧ t.memNat (rec_ + 1) 1 = (if w.desc.field 32 2 = 0 then 0 else 2) ∧
           t.memNat (rec_ + 2) 1 = w.desc.field 34 1 ∧ t.memNat (rec_ + 3) 1 = w.desc.field 35 1 ∧ t.memNat (rec_ + 4) 2 = a.ctx ∧
           t.memNat (rec_ + 6) 2 = w.desc.field 32 2 ∧ t.memNat (rec_ + 8) 4 = w.desc.field 36 4 ∧ t.memNat (rec_ + 16) 64 = 0 ∧
           t.memNat (rec_ + 80) 8 = s.step a.ctx ∧ t.memNat (s.seqList id) 4096 = 0 ∧
           (∀ b, (b < rec_ ∨ rec_ + 128 ≤ b) → (b < s.seqList id ∨ s.seqList id + 4096 ≤ b) → Memory.get t.mem b = Memory.get s.mem b) ∧
           Keeps [.ctxs, .kilns, .mem, .upsets] s t ∧ OnlyCtx a.ctx s t) ∧
       (s.memNat (s.seqRec id) 1 = 1 → s.memNat (s.seqRec id + 4) 2 = a.ctx → (s.ctx a.ctx).pageActs.contains (.close id) = false →
         (Dispatched s a w 0x1A (some 5) → s.seqPinned id = true →
           Completes (.unpin a) s fun t =>
             t.winOp a.ctx a.pos = none ∧ PageAct.unpin id ∈ (t.ctx a.ctx).pageActs ∧ MemoryOutside (s.seqRec id + 80) 8 s t ∧
             Keeps [.ctxs, .kilns, .mem, .upsets] s t ∧ OnlyCtx a.ctx s t) ∧
         (Dispatched s a w 0x1A (some 6) →
           Completes (.freeSeq a) s fun t =>
             t.winOp a.ctx a.pos = none ∧ PageAct.close id ∈ (t.ctx a.ctx).pageActs ∧ MemoryOutside (s.seqRec id + 80) 8 s t ∧
             Keeps [.ctxs, .kilns, .mem, .upsets] s t ∧ OnlyCtx a.ctx s t))) ∧
  (∀ (a : OpArg) (s : State) (w : WinOp) (id : Nat),
       s.upsets = [] → Released s a.ctx w → w.progress = 0 → w.reads = [] → w.desc.field 24 2 = id → id < 6144 → w.desc.field 57 71 = 0 →
       inMemory (s.seqRec id) 128 = true → inMemory (s.seqList id) 4096 = true →
       let c := a.ctx
       let f (n : Nat) := w.desc.field n 8
       let rec_ := s.seqRec id
       let list := s.seqList id
       let pn := s.seqPool id
       let p := s.pool pn
       let token := 4 * p.heads * p.dim
       let own := s.memNat rec_ 1 = 1 ∧ s.memNat (rec_ + 4) 2 = c ∧ (s.ctx c).pageActs.contains (.close id) = false
       let page (g : Nat) : Prop := inMemory (p.frameAt g) p.pageSize = true ∧
         (rec_ + 128 ≤ p.frameAt g ∨ p.frameAt g + p.pageSize ≤ rec_) ∧ (list + 4096 ≤ p.frameAt g ∨ p.frameAt g + p.pageSize ≤ list)
       let within (g : Nat) (t : State) : Prop := ∀ b, (b < rec_ ∨ rec_ + 128 ≤ b) → (b < list ∨ list + 4096 ≤ b) →
         (b < p.frameAt g ∨ p.frameAt g + p.pageSize ≤ b) → Memory.get t.mem b = Memory.get s.mem b
       let written (t : State) : Prop := Ended a [.ctxs, .kilns, .mem, .pframes, .log, .host] s t
       (∀ x y g, own → w.desc.field 28 4 = 1 → w.desc.field 56 1 = 0 → s.seqWindow id = 0 → p.latent = false → p.ok = true → p.frames ≠ 0 →
         let layer := w.desc.field 27 1
         let len := s.seqLength id layer
         let e := s.pageEntry id (len / 64)
         layer < p.layers → s.seqFirst id + len < 2 ^ 31 → len < 32768 → InScratch s c (f 40) token x → InScratch s c (f 48) token y → page g →
         let appends (i : Instr) : Prop := Completes i s fun t =>
           t.seqLength id layer = len + 1 ∧ t.memNat (rec_ + 80) 8 = s.step c ∧ c ∈ (t.pframe pn g).touch ∧ (t.pframe pn g).count = 1 ∧
           within g t ∧ written t
         s.step c < 2 ^ 64 →
         (Dispatched s a w 0x1A (some 2) → e.valid = true → s.holdsFrame pn e = true → (s.pframe pn e.frame).count = 1 → g = e.frame →
           appends (.append a)) ∧
         (Dispatched s a w 0x1A (some 2) → e.valid = false → s.freeFrame pn = some g →
           appends (.append a) ∧ (w.wait = some .page → appends (.pageWaitResume a)))) ∧
       (∀ x y g, Dispatched s a w 0x1A (some 7) → own → w.desc.field 56 1 = 0 → s.seqWindow id = 0 → p.latent = false → p.ok = true →
         p.frames ≠ 0 →
         let b := w.desc.field 28 4
         let e := s.pageEntry id b
         let all := token * (64 * p.layers)
         b < s.seqBlocks id → b < 512 → e.valid = true → s.holdsFrame pn e = false → s.freeFrame pn = some g → s.step c < 2 ^ 64 →
         InScratch s c (f 40) all x → InScratch s c (f 48) all y → page g →
         let refills (i : Instr) : Prop := Completes i s fun t =>
           t.memNat (list + 8 * b) 8 = PageEntry.toNat { frame := g, valid := true, generation := (s.pframe pn g).generation } ∧
           t.memNat (rec_ + 80) 8 = s.step c ∧ c ∈ (t.pframe pn g).touch ∧ (t.pframe pn g).count = 1 ∧ within g t ∧ written t
         refills (.refill a) ∧ (w.wait = some .page → refills (.pageWaitResume a))) ∧
       (Dispatched s a w 0x1A (some 4) → own → w.desc.field 56 1 = 0 → f 40 = 0 → f 48 = 0 → w.events = [] → s.step c < 2 ^ 64 →
         Completes (.pin a) s fun t =>
           t.seqPinned id = true ∧ t.memNat (rec_ + 80) 8 = s.step c ∧
           (∀ j, j < 512 → s.holdsFrame pn (s.pageEntry id j) = true → (t.pframe pn (s.pageEntry id j).frame).cls = 4) ∧
           (∀ b, b ≠ rec_ + 1 → (b < rec_ + 80 ∨ rec_ + 88 ≤ b) → Memory.get t.mem b = Memory.get s.mem b) ∧
           Ended a [.ctxs, .kilns, .mem, .pframes] s t) ∧
       (Dispatched s a w 0x1A (some 3) → s.memNat rec_ 1 = 0 → w.desc.field 56 1 = 0 → f 40 = 0 → f 48 = 0 → w.events = [] → s.tableFull = false →
         c < 2 ^ 16 → s.step c < 2 ^ 64 →
         let src := w.desc.field 32 2
         let len := w.desc.field 28 4
         let from_ := s.seqPool src
         let n := min (ceilDiv len 64) (if s.seqWindow src = 0 then 512 else s.seqWindow src)
         let held := ((List.range n).map fun j => s.pageEntry src j).filter fun e => s.holdsFrame from_ e
         src < 6144 → inMemory (s.seqRec src) 128 = true → inMemory (s.seqList src) 4096 = true → s.memNat (s.seqRec src) 1 = 1 →
         s.memNat (s.seqRec src + 4) 2 = c → (∀ l, l < (s.pool from_).layers → len ≤ s.seqLength src l) →
         (∀ e ∈ held, (s.pframe from_ e.frame).count < 65535) → n ≤ 512 →
         Completes (.fork a) s fun t =>
           t.memNat rec_ 1 = 1 ∧ t.seqPool id = from_ ∧ t.memNat (rec_ + 4) 2 = c ∧ t.seqFirst id = s.seqFirst src ∧ t.seqWindow id = s.seqWindow src ∧
           t.seqPinned id = false ∧ (∀ l, l < 8 → t.seqLength id l = len) ∧ t.memNat (rec_ + 80) 8 = s.step c ∧
           Memory.getBytes t.mem list (8 * n) = Memory.getBytes s.mem (s.seqList src) (8 * n) ∧
           (∀ g, g < 2 ^ 20 → (t.pframe from_ g).count = (s.pframe from_ g).count + (held.filter fun e => e.frame == g).length) ∧
           (∀ b, (b < rec_ ∨ rec_ + 128 ≤ b) → (b < list ∨ list + 4096 ≤ b) → Memory.get t.mem b = Memory.get s.mem b) ∧
           Ended a [.ctxs, .kilns, .mem, .pframes] s t))

/-! ### Collectives (R328, R329) and CONE (R233) -/

/-- A collective whose last packet has been placed completes and leaves no collective behind; one that needs more packets stays in the
window, waiting for collective data (R86, R329).
R318, R323 to R327: in a team of one, with F32 or bytes unscaled in scratch, ALL_REDUCE, REDUCE_SCATTER, ALL_GATHER, EXCHANGE, PERMUTE
and BROADCAST complete at once: the destination takes the source's bytes, and the tag's next collective has the next sequence number
(R328). -/
def Obligations.CollectivesComplete : Prop :=
  (∀ row ∈ collectives, ∀ (a : OpArg) (s : State) (w : WinOp) (r : Run), Dispatched s a w row.2 none →
       (collBodyOp.run (startColl s a w) = (.ok true, r) → r.writes = 0 → r.events = [] → Released r.s a.ctx w →
         Completes (row.1 a) s fun t =>
           t.winOp a.ctx a.pos = none ∧ (t.ctx a.ctx).coll a.pos = none ∧
           (w.desc.field 3 1 % 2 = 1 → Completion a.ctx w 0 (completionPayload r) r.s.datum t) ∧
           Keeps [.ctxs, .kilns] r.s t ∧ OnlyCtx a.ctx r.s t) ∧
       (collBodyOp.run (startColl s a w) = (.ok false, r) →
         Completes (row.1 a) s fun t =>
           (∀ v ∈ (t.ctx a.ctx).window, v.pos = a.pos → v.wait = some .collective) ∧
           (t.ctx a.ctx).window.map (·.pos) = (r.s.ctx a.ctx).window.map (·.pos) ∧ Keeps [.ctxs, .kilns] r.s t ∧ OnlyCtx a.ctx r.s t)) ∧
  (∀ (a : OpArg) (s : State) (w : WinOp) (x y z : Nat),
       let c := a.ctx
       let f (n : Nat) := w.desc.field n 8
       let tag := w.desc.field 38 1
       let n := 4 * w.desc.field 24 4
       s.upsets = [] → Released s c w → s.members c = 1 → s.rank c = 0 → (s.ctx c).coll a.pos = none → w.desc.field 32 4 = (s.ctx c).epoch →
       ((s.ctx c).window.any fun v => decide (v.pos < a.pos) && isCollective (opcodeOf v.desc) && v.desc.field 38 1 == tag &&
         v.st != .finished && ((s.ctx c).coll v.pos).isNone) = false →
       (∀ e ∈ (s.ctx c).earlyReady, e.tag ≠ tag) →
       HasFields w.desc [(28, 4, 0), (36, 2, 0), (39, 1, 0), (44, 4, 0), (56, 8, 0), (72, 32, 0), (124, 4, 0)] →
       let copies (i : Instr) (from_ dest n : Nat) : Prop := Completes i s fun t =>
         Memory.getBytes t.mem dest n = Memory.getBytes s.mem from_ n ∧ MemoryOutside dest n s t ∧ (t.ctx c).coll a.pos = none ∧
         alook tag (t.ctx c).collSeq = some (((alook tag (s.ctx c).collSeq).getD 0 + 1) % 65536) ∧ Ended a [.ctxs, .kilns, .mem] s t
       (f 104 = 0 → InScratch s c (f 48) n x → InScratch s c (f 64) n y →
         (Dispatched s a w 0x40 none → copies (.allReduce a) x y n) ∧ (Dispatched s a w 0x41 none → copies (.reduceScatter a) x y n) ∧
         (Dispatched s a w 0x42 none → copies (.allGather a) x y n) ∧ (Dispatched s a w 0x45 none → copies (.broadcast a) x y n)) ∧
       (Dispatched s a w 0x43 none → f 104 = 0 → w.desc.field 24 4 = 1 → InScratch s c (f 48) (w.desc.field 112 4) x →
         InScratch s c (f 64) (w.desc.field 112 4) y → copies (.exchange a) x y (w.desc.field 112 4)) ∧
       (∀ k, Dispatched s a w 0x44 none → f 48 = 0 → f 64 = 0 → w.desc.field 24 4 = 2 → (s.ctx c).loading = false → InScratch s c (f 104) 48 z →
         s.memNat z 8 = 0 → s.memNat (z + 24) 8 = 2 ^ 16 → s.memNat (z + 16) 8 = k → s.memNat (z + 40) 8 = k → 1 ≤ k → k ≤ 2 ^ 40 →
         InScratch s c (s.memNat (z + 8) 8) k x → InScratch s c (s.memNat (z + 32) 8) k y → copies (.permute a) x y k))

/-- CONE (R233, R244): in a step with no open queue, no carried scale and no migration, its tally record is built and held, and the step
waits for CONE_BEND. A CONE with an unbalanced queue is stopped (R99, R233): outcome 2 with the event in its payload, ring BLOCKED.
CONE_BEND (R233 to R235): once the previous record is delivered and no backlog holds the firing (R211: in mode 0; in mode 1 the backlog
stops journalling instead), the step is BENT; a member that
has BENT from all its children sends BENT toward the leader; the leader chooses D = now + FLUE_FIRE_LEAD (R235) and is ARMED. -/
def Obligations.ConeClosesTheStep : Prop :=
  (∀ (a : OpArg) (s : State) (w : WinOp), Dispatched s a w 0x62 none → w.desc.field 24 104 = 0 → (s.ctx a.ctx).coneAt = none →
       (∀ fs u, (s.ctx a.ctx).queues = [] → (s.ctx a.ctx).carried = [] → (s.ctx a.ctx).migrations = [] → (s.ctx a.ctx).shadows = [] →
         (s.ctx a.ctx).watches = [] → s.takeTally (ceilDiv (s.tallyRecord a.ctx s.datum []).length 4096) = some (fs, u) → s.blk 11 0x40 = 0 →
         Completes (.cone a) s fun t =>
           (t.ctx a.ctx).coneAt = some (a.pos, s.datum, w.desc.field 4 4) ∧ (t.ctx a.ctx).bendDatum = s.datum ∧
           (t.ctx a.ctx).tallies =
             (s.ctx a.ctx).tallies ++ [{ step := s.step a.ctx, bytes := s.tallyRecord a.ctx s.datum [], frames := fs }] ∧
           (t.frames0 = u.frames0 ∧ t.frames1 = u.frames1) ∧
           (t.ctx a.ctx).step = (s.ctx a.ctx).step ∧ t.mem = s.mem ∧ (∀ d, (t.ctx d).fired = (s.ctx d).fired)) ∧
       (∀ q rest rec, (s.ctx a.ctx).queues = q :: rest → s.queueRec a.ctx q.id = some rec →
         ((rec.recv = false ∧ q.credits < q.sends) ∨ (rec.recv = true ∧ ((∃ b ∈ q.arrived, q.releases ≤ b.1) ∨ q.releases < q.recvs))) →
         (s.ctx a.ctx).ring = .active → s.upsets = [] →
         (∀ p ∈ (s.ctx a.ctx).queues, inMemory (s.pg a.ctx 0x078 + 32 * p.id) 32 = true) →
         Completes (.cone a) s fun t =>
           CtxEvent a.ctx a.pos 0x06C4 (q.id + (4 <<< 8) + ((a.pos % 2 ^ 64) <<< 64)) s t ∧ t.winOp a.ctx a.pos = none ∧
           Completion a.ctx w 2 (0x06C4 <<< 16) s.datum t ∧ (t.ctx a.ctx).ring = .blocked ∧ Keeps [.ctxs, .kilns, .log, .host] s t ∧
           OnlyCtx a.ctx s t)) ∧
  (∀ (a : OpArg) (s : State) (t0 tag : Nat),
       (s.ctx a.ctx).coneAt = some (a.pos, t0, tag) → (s.ctx a.ctx).step = .running → s.pwr.life = .ready →
       (s.prevDelivered a.ctx = false → exec (.coneBend a) s = .next s) ∧
       (s.prevDelivered a.ctx = true → s.backlogOver = true → s.tier.stopped = false → s.blk 11 0x40 = 0 → (s.ctx a.ctx).backTold = false →
         Completes (.coneBend a) s fun t =>
           CtxEvent a.ctx 0 0x0409 ((s.tier.backlog <<< 64) + (s.step a.ctx <<< 128)) s t ∧ (t.ctx a.ctx).step = .running ∧
           (t.ctx a.ctx).backTold = true ∧ Keeps [.ctxs, .log, .host] s t ∧ OnlyCtx a.ctx s t) ∧
       (s.prevDelivered a.ctx = true → s.backlogOver = true → s.tier.stopped = false → s.blk 11 0x40 = 1 →
         Completes (.coneBend a) s fun t => t.tier.stopped = true ∧ (t.ctx a.ctx).selfBent = true ∧ t.mem = s.mem) ∧
       (s.prevDelivered a.ctx = true → s.backlogOver = false → (s.ctx a.ctx).bentSent = false →
         (s.childrenBent a.ctx = false →
           Completes (.coneBend a) s fun t =>
             t.ctx a.ctx = { s.ctx a.ctx with step := .bent, selfBent := true, backTold := false, statusDirty := true } ∧ Keeps [.ctxs] s t ∧
             OnlyCtx a.ctx s t) ∧
         (s.childrenBent a.ctx = true → s.rank a.ctx ≠ 0 →
           Completes (.coneBend a) s fun t =>
             t.ctx a.ctx = { s.ctx a.ctx with step := .bent, selfBent := true, bentSent := true, backTold := false, statusDirty := true } ∧
             Keeps [.ctxs, .ports, .out, .discards, .log, .host] s t ∧ OnlyCtx a.ctx s t) ∧
         (s.childrenBent a.ctx = true → s.rank a.ctx = 0 →
           Completes (.coneBend a) s fun t =>
             t.ctx a.ctx = { s.ctx a.ctx with
               step := .armed, selfBent := true, bentSent := true, backTold := false, statusDirty := true
               fireD := some ((s.datum + s.blk 0 0x20 * 1000) % 2 ^ 64) } ∧
             Keeps [.ctxs, .ports, .out, .discards, .log, .host] s t ∧ OnlyCtx a.ctx s t)))

/-! ### Vector instructions (R94, R95) -/

/-- R94: each IEEE instruction writes the governed lanes of vd with the correctly rounded result in the format of its type field, ORs the
governed lanes' flags in, and changes nothing else of the kiln or of the state.
R94: the integer and bit instructions compute modulo 2^32 on the governed lanes, with no flags; a shift by 32 or more gives a free value
(log entry 76).
R94, R95: selection, conversion, rounding, broadcast, permutation, slide, random numbers, and the approximations, whose value
is free within 2 ulp, and its flags free (log entry 3), but for a NaN operand. -/
def Obligations.VectorLanes : Prop :=
  let lane (cmd : Nat → Word → Instr) (opc : Nat) (ok : VI → Bool) (val : Vu → VI → Nat → Nat × Flt.Flags) : Prop :=
    ∀ (k : Nat) (w : Word) (s : State), Executes k opc w s → ok (viOf w) = true →
      Completes (cmd k w) s fun t =>
        let u := vuOf s k
        let i := viOf w
        LanesTake k i (fun l => (val u i l).1) s t ∧
        GoesOnAs k { u with v := (vuOf t k).v, flags := u.flags ||| governedFlags u i fun l => (val u i l).2 } s t
  let float (cmd : Nat → Word → Instr) (opc : Nat) (op : Flt.Fmt → Flt.Rm → Nat → Nat → Nat → Nat × Flt.Flags) : Prop :=
    lane cmd opc VI.ieee (floatLane op)
  let int (cmd : Nat → Word → Instr) (opc : Nat) (op : Nat → Nat → Nat) : Prop := lane cmd opc (fun _ => true) (intLane op)
  let approx (cmd : Nat → Word → Instr) (opc : Nat) (f : Approx) : Prop :=
    lane cmd opc (fun i => i.type == 0) fun u i l => approxOp f (u.lane i.va l)
  let shift (opc : Nat) (f : BitVec 32 → Nat → BitVec 32) (a b : Nat) : Nat := if b < 32 then (f (BitVec.ofNat 32 a) b).toNat else shiftPast opc a b
  (float .vadd 0x01 (fun f rm a b _ => Flt.add f rm a b) ∧
   float .vsub 0x02 (fun f rm a b _ => Flt.sub f rm a b) ∧
   float .vmul 0x03 (fun f rm a b _ => Flt.mul f rm a b) ∧
   float .vfma 0x04 (fun f rm a b c => Flt.fma f rm a b c) ∧
   float .vfms 0x05 (fun f rm a b c => Flt.finish f rm (Flt.fmaVal rm (Flt.decode f a) (Flt.decode f b) (Flt.negVal (Flt.decode f c)))) ∧
   float .vfnma 0x06 (fun f rm a b c => Flt.finish f rm (Flt.fmaVal rm (Flt.negVal (Flt.decode f a)) (Flt.decode f b) (Flt.decode f c))) ∧
   float .vdiv 0x07 (fun f rm a b _ => Flt.div f rm a b) ∧
   float .vsqrt 0x08 (fun f rm a _ _ => Flt.sqrt f rm a) ∧
   float .vmin 0x09 (fun f _ a b _ => Flt.minmax f false a b) ∧
   float .vmax 0x0A (fun f _ a b _ => Flt.minmax f true a b) ∧
   float .vabs 0x0B (fun f _ a _ _ => (a % 2 ^ (f.width - 1), {})) ∧
   float .vneg 0x0C (fun f _ a _ _ => (a ^^^ 2 ^ (f.width - 1), {})) ∧
   float .vcopysign 0x0D (fun f _ a b _ => (a % 2 ^ (f.width - 1) + (b &&& 2 ^ (f.width - 1)), {}))) ∧
  (int .viadd 0x18 (fun a b => (BitVec.ofNat 32 a + BitVec.ofNat 32 b).toNat) ∧
   int .visub 0x19 (fun a b => (BitVec.ofNat 32 a - BitVec.ofNat 32 b).toNat) ∧
   int .vimul 0x1A (fun a b => (BitVec.ofNat 32 a * BitVec.ofNat 32 b).toNat) ∧
   int .vand 0x1B (fun a b => a &&& b) ∧
   int .vor 0x1C (fun a b => a ||| b) ∧
   int .vxor 0x1D (fun a b => a ^^^ b) ∧
   int .vshl 0x1E (shift 0x1E fun x n => x <<< n) ∧
   int .vshr 0x1F (shift 0x1F fun x n => x >>> n) ∧
   int .vsar 0x20 (shift 0x20 fun x n => x.sshiftRight n)) ∧
  (approx .vrsqrt 0x0E .rsqrt ∧
   approx .vexp 0x0F .exp ∧
   approx .vlog 0x10 .log ∧
   approx .vtanh 0x11 .tanh ∧
   approx .vsigmoid 0x12 .sigmoid ∧
   approx .verf 0x13 .erf ∧
   lane .vsel 0x15 (fun _ => true) (fun u i l => (if (u.preg (i.vc % 8)).testBit l then u.lane i.va l else u.lane i.vb l, {})) ∧
   lane .vcvt 0x16 (fun i => decide (0 ≤ i.imm ∧ i.imm < 4)) (fun u i l => cvtLane i.rm i.type i.imm.toNat (u.lane i.vd l) (u.lane i.va l)) ∧
   lane .vround 0x17 (fun i => i.type == 0) (fun u i l => Flt.roundIntegral Flt.fmtF32 i.rm (u.lane i.va l)) ∧
   lane .vbcast 0x21 (fun _ => true) (fun u i _ => (u.sreg i.va % 2 ^ 32, {})) ∧
   lane .vperm 0x22 (fun _ => true) (fun u i l => (u.lane i.va (u.lane i.vb l % 512), {})) ∧
   lane .vslide 0x23 (fun _ => true) (fun u i l =>
     (if (l : Int) + i.imm < 0 ∨ 512 ≤ (l : Int) + i.imm then 0 else u.lane i.va ((l : Int) + i.imm).toNat, {})) ∧
   lane .vrand 0x30 (fun _ => true) (fun u i l => (vrand u.seed (u.sreg 7) (u.sreg 6) l (i.imm % 256).toNat, {})))

/-- R94: the reductions combine all 512 lanes of va over the pairwise tree, in lane order, and put the result into every governed lane;
VSCAN leaves in lane l the sum of lanes 0 to l in lane order, so its lane 0 is the operand's, a NaN the canonical one (R24). -/
def Obligations.VectorReductions : Prop :=
  ∀ (k : Nat) (w : Word) (s : State), VI.ieee (viOf w) = true →
    let u := vuOf s k
    let i := viOf w
    let f := VI.format i
    let tree (op : Nat → Nat → Nat × Flt.Flags) := pairTree op 9 ((List.range 512).map fun l => outLane f (u.lane i.va l))
    let reduces (cmd : Instr) (opc : Nat) (op : Nat → Nat → Nat × Flt.Flags) : Prop := Executes k opc w s →
      Completes cmd s fun t =>
        LanesTake k i (fun l => inLane f (u.lane i.vd l) (tree op).1) s t ∧
        GoesOnAs k { u with v := (vuOf t k).v, flags := u.flags ||| (tree op).2.toNat } s t
    reduces (.vredadd k w) 0x24 (Flt.add f i.rm) ∧
    reduces (.vredmax k w) 0x25 (Flt.minmax f true) ∧
    reduces (.vredmin k w) 0x26 (Flt.minmax f false) ∧
    (Executes k 0x27 w s →
      Completes (.vscan k w) s fun t =>
        (∃ sum : Nat → Nat, sum 0 = (canonNan f (outLane f (u.lane i.va 0))).1 ∧
          (∀ l, l + 1 < 512 → sum (l + 1) = (Flt.add f i.rm (sum l) (outLane f (u.lane i.va (l + 1)))).1) ∧
          LanesTake k i (fun l => inLane f (u.lane i.vd l) (sum l)) s t) ∧
        GoesOnAs k { u with v := (vuOf t k).v, flags := (vuOf t k).flags } s t)

/-- R94: predicate instructions write the governed lanes of pd and no lane of p0, which reads all ones; VCMP compares under the type
field and ORs in invalid operation for a signalling NaN; PCNT counts. Condition numbers, operand types and PSET's value are the
model's (log entry 21).
R94: the scalar instructions compute modulo 2^64; SCMP sets the branch flag; BR, BRC, LOOP and HALT move the sequencer. A loop's
body is the next imm instructions, nesting to 4. Branch distances and condition numbers are the model's (log entry 21). -/
def Obligations.VectorPredicatesAndControl : Prop :=
  (∀ (k : Nat) (w : Word) (s : State),
       let u := vuOf s k
       let i := viOf w
       let a (l : Nat) := (u.preg (i.va % 8)).testBit l
       let b (l : Nat) := (u.preg (i.vb % 8)).testBit l
       let writes (t : State) (f : Nat → Bool) : Prop := ∀ q l, l < 512 →
         ((vuOf t k).preg q).testBit l = if q = i.vd % 8 ∧ q ≠ 0 ∧ u.active i l = true then f l else (u.preg q).testBit l
       let sets (cmd : Instr) (opc : Nat) (f : Nat → Bool) : Prop := Executes k opc w s →
         Completes cmd s fun t => writes t f ∧ GoesOnAs k { u with p := (vuOf t k).p } s t
       let c (l : Nat) := cmpLane i.type (u.lane i.va l) (u.lane i.vb l)
       sets (.pand k w) 0x31 (fun l => a l && b l) ∧
       sets (.por k w) 0x32 (fun l => a l || b l) ∧
       sets (.pnot k w) 0x33 (fun l => !a l) ∧
       sets (.pset k w) 0x34 (fun _ => true) ∧
       (Executes k 0x14 w s → 0 ≤ i.imm → i.imm ≤ 6 →
         Completes (.vcmp k w) s fun t =>
           writes t (fun l => (condOf i.imm (c l).1 (c l).2.1 (c l).2.2.1).getD false) ∧
           GoesOnAs k { u with p := (vuOf t k).p, flags := u.flags ||| governedFlags u i fun l => (c l).2.2.2 } s t) ∧
       (Executes k 0x35 w s →
         Completes (.pcnt k w) s fun t =>
           (∀ r, (vuOf t k).sreg r = if r % 16 = i.vd % 16 then ((List.range 512).filter fun l => u.active i l && a l).length else u.sreg r) ∧
           GoesOnAs k { u with s := (vuOf t k).s } s t)) ∧
  (∀ (k : Nat) (w : Word) (s : State),
       let u := vuOf s k
       let i := viOf w
       let a := u.sreg i.va
       let b := u.sreg i.vb
       let sets (cmd : Instr) (opc v : Nat) : Prop := Executes k opc w s →
         Completes cmd s fun t =>
           (∀ r, (vuOf t k).sreg r = if r % 16 = i.vd % 16 then v else u.sreg r) ∧ GoesOnAs k { u with s := (vuOf t k).s } s t
       let goes (cmd : Instr) (u' : Vu) : Prop := Completes cmd s fun t =>
         t.kiln k = { s.kiln k with vu := { u' with count := u.count + 1 } } ∧ Keeps [.kilns] s t ∧ OnlyKiln k s t
       sets (.sli k w) 0x36 (i.imm % 2 ^ 64).toNat ∧
       sets (.sadd k w) 0x37 ((BitVec.ofNat 64 a + BitVec.ofNat 64 b).toNat) ∧
       sets (.ssub k w) 0x38 ((BitVec.ofNat 64 a - BitVec.ofNat 64 b).toNat) ∧
       sets (.smul k w) 0x39 ((BitVec.ofNat 64 a * BitVec.ofNat 64 b).toNat) ∧
       (Executes k 0x3A w s → ∀ c,
         condOf i.imm (if i.type = 3 then decide (a < b) else (BitVec.ofNat 64 a).slt (BitVec.ofNat 64 b)) (a == b) false = some c →
         Completes (.scmp k w) s fun t => GoesOnAs k { u with flag := c } s t) ∧
       (Executes k 0x3B w s → 0 ≤ (u.pc : Int) + i.imm → goes (.br k w) { u with pc := ((u.pc : Int) + i.imm).toNat }) ∧
       (Executes k 0x3C w s →
         (u.flag = true → 0 ≤ (u.pc : Int) + i.imm → goes (.brc k w) { u with pc := ((u.pc : Int) + i.imm).toNat }) ∧
         (u.flag = false → Completes (.brc k w) s fun t => GoesOnAs k u s t)) ∧
       (Executes k 0x3D w s → 1 ≤ i.imm →
         (0 < a → u.loops.length < 4 →
           goes (.loop k w) { u with pc := u.pc + 1, loops := (u.pc + 1, u.pc + i.imm.toNat, a) :: u.loops }) ∧
         (a = 0 → goes (.loop k w) { u with pc := u.pc + (i.imm + 1).toNat })) ∧
       (Executes k 0x3E w s → goes (.halt k w) { u with halted := true }))

/-- R94: the loads put into each governed lane the 4 or 2 bytes at its shelf offset, when every governed lane reaches a block buffer or
the resident area; VLDN widens a packed element to F32, a signalling NaN with invalid operation (R24, R25). Nothing of memory changes.
R94: the stores put the governed lanes of vd at their shelf offsets; where lanes meet, the highest stays. Every byte outside the
stored ones, the registers and the other kilns are unchanged. VSTN packs elements; its codes of the IEEE formats are those of R40. -/
def Obligations.VectorMemory : Prop :=
  (∀ (k : Nat) (w : Word) (s : State),
       let u := vuOf s k
       let i := viOf w
       let n := typeBytes i.type
       let f := (i.imm % 16).toNat
       let base := u.sreg i.va
       let loads (cmd : Instr) (opc : Nat) (off : Nat → Int) : Prop := Executes k opc w s →
         (∀ l, l < 512 → u.active i l = true → 0 ≤ off l ∧ s.reaches k (off l).toNat n = true) →
         Completes cmd s fun t =>
           LanesTake k i (fun l =>
             let v := ofLeBytes (Memory.getBytes s.mem (shelfAt k (off l).toNat) n)
             if i.type = 1 then inLane Flt.fmtF16 (u.lane i.vd l) v else v) s t ∧
           GoesOnAs k { u with v := (vuOf t k).v } s t
       loads (.vld k w) 0x28 (fun l => (base : Int) + (l * n : Nat)) ∧
       loads (.vlds k w) 0x2A (fun l => (base : Int) + l * i.imm) ∧
       loads (.vgather k w) 0x2C (fun l => (base : Int) + (u.lane i.vb l : Nat)) ∧
       (Executes k 0x2E w s → f ≤ 9 →
         (∀ l, l < 512 → u.active i l = true → s.reaches k (base + (packedAt f l).1) (packedBytes f l) = true) →
         Completes (.vldn k w) s fun t =>
           let elem (l : Nat) := widenElem f
             (bits (s.shelfNat k (base + (packedAt f l).1) (packedBytes f l)) (packedAt f l).2 (fmtBits f))
           LanesTake k i (fun l => (elem l).1) s t ∧
           GoesOnAs k { u with v := (vuOf t k).v, flags := u.flags ||| governedFlags u i fun l => (elem l).2 } s t)) ∧
  (∀ (k : Nat) (w : Word) (s : State),
       let u := vuOf s k
       let i := viOf w
       let n := typeBytes i.type
       let f := (i.imm % 16).toNat
       let base := u.sreg i.va
       let act := u.actives i
       let next (t : State) (u' : Vu) : Prop :=
         vuOf t k = { u' with pc := (endLoops u.pc u.loops).1, loops := (endLoops u.pc u.loops).2, count := u.count + 1 } ∧
           t.kiln k = { s.kiln k with vu := vuOf t k, dirty := (t.kiln k).dirty } ∧ Keeps [.kilns, .mem, .upsets] s t ∧ OnlyKiln k s t
       let stores (cmd : Instr) (opc : Nat) (off : Nat → Int) : Prop := Executes k opc w s →
         (∀ l ∈ act, 0 ≤ off l ∧ s.reaches k (off l).toNat n = true) →
         Completes cmd s fun t =>
           (∀ l ∈ act, (∀ m ∈ act, l < m → off l + n ≤ off m ∨ off m + n ≤ off l) →
             Memory.getBytes t.mem (shelfAt k (off l).toNat) n = leBytes n (u.lane i.vd l)) ∧
           (∀ b, (∀ l ∈ act, b < shelfAt k (off l).toNat ∨ shelfAt k (off l).toNat + n ≤ b) → Memory.get t.mem b = Memory.get s.mem b) ∧
           next t u
       stores (.vst k w) 0x29 (fun l => (base : Int) + (l * n : Nat)) ∧
       stores (.vsts k w) 0x2B (fun l => (base : Int) + l * i.imm) ∧
       stores (.vscatter k w) 0x2D (fun l => (base : Int) + (u.lane i.vb l : Nat)) ∧
       (Executes k 0x2F w s → f ≤ 7 → (isVendor f = true → s.reaches k (u.sreg i.vc) 4 = true) →
         (∀ l ∈ act, s.reaches k (base + (packedAt f l).1) (packedBytes f l) = true) →
         Completes (.vstn k w) s fun t =>
           (isVendor f = false → ∀ l ∈ act,
             let ls := act.filter fun m => m / 32 == l / 32
             let g := convertGroup f 0x7F false (ls.map fun m => legValue 0 false f (Flt.decode Flt.fmtF32 (u.lane i.vd m)))
             Memory.getBytes t.mem (shelfAt k (base + (packedAt f l).1)) (packedBytes f l) =
               leBytes (packedBytes f l) (g.codes.getD (ls.idxOf l) 0)) ∧
           (∀ b, (∀ l ∈ act, b < shelfAt k (base + (packedAt f l).1) ∨ shelfAt k (base + (packedAt f l).1) + packedBytes f l ≤ b) →
             (isVendor f = true → b < shelfAt k (u.sreg i.vc) ∨ shelfAt k (u.sreg i.vc) + 4 ≤ b) →
             Memory.get t.mem b = Memory.get s.mem b) ∧
           next t { u with flags := (vuOf t k).flags, groups := (vuOf t k).groups }))

/-- R94, R87: a vector fault stops the VECTOR that the kiln serves with event 0x06C1: its cause, the instruction's index, the position and
the block. More than 1,048,576 instructions of a block are such a fault (cause 1); an instruction undefined in its type is another
(cause 2), as is an access outside the block buffers and the resident area (cause 3). -/
def Obligations.VectorFaults : Prop :=
  ∀ (k : Nat) (w : Word) (s : State) (op : WinOp),
    let u := vuOf s k
    let c := u.owner.1
    let faults (cmd : Instr) (cause : Nat) : Prop := Completes cmd s fun t =>
      CtxEvent c op.pos 0x06C1 (cause + ((u.pc % 2 ^ 32) <<< 32) + ((op.pos % 2 ^ 64) <<< 64) + ((u.sreg 6 % 2 ^ 64) <<< 128)) s t ∧
      Completion c op 2 op.endPayload s.datum t ∧ t.winOp c u.owner.2 = none ∧ (t.ctx c).ring = .blocked ∧
      Keeps [.ctxs, .kilns, .log, .host] s t ∧ OnlyCtx c s t
    k < 48 → s.pwr.life = .ready → s.pwr.current = 0 → s.holds k c = true → s.winOp c u.owner.2 = some op → op.st = .running → opcodeOf op.desc = 0x28 → (s.ctx c).ring = .active →
    (1048576 < u.count → faults (.vectorInstructionLimit k) 1) ∧
    (∀ x ∈ [(Instr.vadd, 0x01), (.vsub, 0x02), (.vmul, 0x03), (.vfma, 0x04), (.vfms, 0x05), (.vfnma, 0x06), (.vdiv, 0x07), (.vsqrt, 0x08),
        (.vmin, 0x09), (.vmax, 0x0A), (.vabs, 0x0B), (.vneg, 0x0C), (.vcopysign, 0x0D)],
      (viOf w).opc = x.2 → 2 ≤ (viOf w).type → faults (x.1 k w) 2) ∧
    ((viOf w).opc = 0x29 → (∃ l, l < 512 ∧ u.active (viOf w) l = true ∧
        s.reaches k (u.sreg (viOf w).va + l * typeBytes (viOf w).type) (typeBytes (viOf w).type) = false) → faults (.vst k w) 3)

/-! ### Dispatch and the kilns (R79 to R88, R102) -/

/-- R85, R83: a dispatch starts the oldest operation of the window that may start; its kilns, which hold the context, are RUNNING. With
none that may start, or with 4,096 entries that found the event ring full (R366), nothing happens. A descriptor that breaks R84 or R503
is refused with event 0x06C0 at its first wrong field. -/
def Obligations.DispatchStartsTheOldest : Prop :=
  ∀ (c : Nat) (s : State),
    let x := s.ctx c
    let next := (x.window.map (·.turn)).foldl max 0 + 1
    (s.eventsOver c ≥ 4096 → exec (.dispatch c) s = .next s) ∧
    ((x.window.all fun v => !eligible x.window v) = true → exec (.dispatch c) s = .next s) ∧
    (∀ w, s.pwr.life = .ready → s.pwr.current = 0 → s.pwr.transition = none → x.enabled = true → x.launch = none → x.step = .running →
      ringDispatches x = true → s.eventsOver c < 4096 → (x.window.find? fun v => eligible x.window v) = some w →
      (s.headerFault c w.desc = none → usesKiln w.desc = false →
        Completes (.dispatch c) s fun t =>
          t.ctx c = { x with
            window := x.window.map fun v => if v.pos = w.pos then { v with st := .running, turn := next } else v } ∧
          Keeps [.ctxs] s t ∧ OnlyCtx c s t) ∧
      (s.headerFault c w.desc = none → usesKiln w.desc = true → (∀ k ∈ s.opKilns c w.desc, s.holds k c = true) →
        Completes (.dispatch c) s fun t =>
          (t.ctx c).window = x.window.map (fun v => if v.pos = w.pos then { v with st := .running, turn := next } else v) ∧
          (∀ k ∈ s.opKilns c w.desc, (t.kiln k).st = .running ∧ (t.kiln k).ctx = some c) ∧
          (∀ k, k ∉ s.opKilns c w.desc → t.kiln k = s.kiln k) ∧ Keeps [.ctxs, .kilns] s t ∧ OnlyCtx c s t) ∧
      (∀ off bit, s.headerFault c w.desc = some (off, bit) → x.ring = .active →
        Completes (.dispatch c) s fun t =>
          CtxEvent c w.pos 0x06C0 (off + (bit <<< 16) + ((w.pos % 2 ^ 64) <<< 64)) s t ∧ Completion c w 1 0 s.datum t ∧
          (t.ctx c).ring = .blocked ∧ t.winOp c w.pos = none ∧ Keeps [.ctxs, .kilns, .log, .host] s t ∧ OnlyCtx c s t))

/-- R81 to R83, R86: a kiln that has starved for the wait-switch threshold, or has run its quantum, is put into SWITCHING toward the next
ready context, its starving counted; a threshold of 0 switches nothing.
R80, R82, R83: at the end of SWITCHING the outgoing context's saggars, vector registers and sequencer stand in its slot of the save
area, and the kiln runs the context that it switched to, or is IDLE; what that context met meanwhile acts now: with an operation of its own
under way there it is RUNNING, with others still to come STARVING. The order of the sequencer state inside the slot is the model's (log
entry 15). -/
def Obligations.KilnsChangeContexts : Prop :=
  (∀ (k c d : Nat) (s : State),
       let x := s.kiln k
       let switches (i : Instr) : Prop := Completes i s fun t =>
         (t.kiln k).st = .switching ∧ (t.kiln k).save = true ∧ (t.kiln k).next = some d ∧ (t.kiln k).ctx = some c ∧
         (t.kiln k).since = s.datum ∧ (t.kiln k).starving = none ∧ (t.kiln k).vu = x.vu ∧ Keeps [.kilns, .ctxs] s t ∧ OnlyKiln k s t ∧
         OnlyCtx c s t ∧ t.ctx c = { s.ctx c with starve := (t.ctx c).starve } ∧
         (∀ w, x.starving = some w →
           alook w.num (t.ctx c).starve = some (satAdd 64 ((alook w.num (s.ctx c).starve).getD 0) (s.starvedCycles k)))
       x.ctx = some c → s.nextFor k c = some d →
       (x.st = .starving → s.pg c 0x068 ≠ 0 → x.since + s.pg c 0x068 * 1000 ≤ s.datum → switches (.waitSwitchThreshold k)) ∧
       (s.pg c 0x068 = 0 → exec (.waitSwitchThreshold k) s = .next s) ∧
       ((x.st = .running ∨ x.st = .starving) → x.takenAt + s.pg c 0x060 * 1000 ≤ s.datum → s.priority d = s.priority c →
         switches (.quantum k)) ∧
       (s.datum < x.takenAt + s.pg c 0x060 * 1000 → exec (.quantum k) s = .next s)) ∧
  (∀ (k : Nat) (s : State),
       let x := s.kiln k
       (x.st ≠ .switching → exec (.switchComplete k) s = .next s) ∧
       (x.st = .switching → s.pwr.life = .ready → s.pwr.current = 0 →
         (∀ c, x.save = true → x.ctx = some c → SlotReady s c k ∧ ∀ b ∈ x.dirty, (b + 1) * 65536 ≤ s.residentSize c) →
         (∀ c, x.next = some c → SlotReady s c k → s.busyOn c k = true ∨ (s.parks c = false ∧ s.workFor c k = true) →
           Completes (.switchComplete k) s fun t =>
             (t.kiln k).st = (if s.busyOn c k then .running else .starving) ∧
             (t.kiln k).starving = (if s.busyOn c k then none else some (s.oldestCause c)) ∧
             (t.kiln k).ctx = some c ∧ (t.kiln k).next = none ∧ (t.kiln k).save = false ∧
             (t.kiln k).takenAt = s.datum ∧ Keeps [.kilns, .mem, .upsets] s t ∧ OnlyKiln k s t) ∧
         (x.next = none →
           Completes (.switchComplete k) s fun t =>
             (t.kiln k).st = .idle ∧ (t.kiln k).ctx = none ∧ Keeps [.kilns, .mem, .upsets] s t ∧ OnlyKiln k s t ∧
             (∀ c, x.save = true → x.ctx = some c → x.dirty = [] →
               Memory.getBytes t.mem (s.saveSlot c k) 65536 = packList x.saggar0 16384 4 0 ∧
               Memory.getBytes t.mem (s.saveSlot c k + 0x10000) 65536 = packList x.saggar1 16384 4 0))))

/-- R102, R338, R276: an operation that waits long raises its event once, and goes on waiting. -/
def Obligations.LongWaitsAreTold : Prop :=
  ∀ (c pos : Nat) (s : State) (w : WinOp), s.winOp c pos = some w →
    let tells (i : Instr) (code payload : Nat) : Prop := Completes i s fun t =>
      CtxEvent c pos code payload s t ∧ t.winOp c pos = some { w with told := true } ∧ Keeps [.ctxs, .log, .host] s t ∧ OnlyCtx c s t
    (w.told = true → exec (.creditWaitLong c pos) s = .next s ∧ exec (.collectiveWaitLong c pos) s = .next s ∧
      exec (.pageWaitLong c pos) s = .next s) ∧
    (w.told = false →
      (w.wait = some .queueCredit → tells (.creditWaitLong c pos) 0x06C3 (w.desc.field 24 1 + (1 <<< 8) + ((pos % 2 ^ 64) <<< 64))) ∧
      (w.wait = some .queueArrival → tells (.creditWaitLong c pos) 0x06C3 (w.desc.field 24 1 + (2 <<< 8) + ((pos % 2 ^ 64) <<< 64))) ∧
      (w.wait = some .page → tells (.pageWaitLong c pos) 0x0704 (s.seqPool (w.desc.field 24 2) + ((pos % 2 ^ 64) <<< 64))) ∧
      (∀ q rank what, (s.ctx c).coll pos = some q → q.awaits = some (rank, what) →
        tells (.collectiveWaitLong c pos) 0x0543 (q.who rank + (what <<< 40) + ((pos % 2 ^ 64) <<< 128))))

/-! ### Step control (R238 to R243, R255, R256) -/

/-- R243, R437: a write of FLUE_STEP_CONTROL enters the log with its source, and acts on the context's state: abort makes a RUNNING step
VOIDING (R240, R241); a step in doubt is resolved to void (R238). An action in another state, or with a step field that does not name
the current step, changes no context.
R238, R239, R236: a member in doubt that resolves to fire has fired the step and is STOPPED, its ring HALTED, unless it is to be
disabled. D is the datum of the resolution (log entry 29, the model's). -/
def Obligations.StepControlResolves : Prop :=
  (∀ (src : Src) (c n : Nat) (s : State), s.pwr.life = .ready →
       let x := s.ctx c
       let fits := n % 2 ^ 48 = s.step c % 2 ^ 48
       let idle (i : Instr) (action : Nat) : Prop := Completes i s fun t =>
         t.ctxs = s.ctxs ∧ t.mem = s.mem ∧ (t.log.recs.head?.map fun r => (r.kind, r.context, r.body)) =
           some (4, c % 1024, sourceBody src 0 (stepWord c action n)) ∧ Keeps [.log] s t
       (x.enabled = true → x.step = .running → x.loading = false → fits →
         Completes (.stepAbort src c n) s fun t =>
           (t.ctx c).step = .voiding ∧ (t.ctx c).window = [] ∧ (t.ctx c).fired = x.fired ∧ t.mem = s.mem) ∧
       (x.step ≠ .running ∨ x.enabled = false ∨ ¬ fits → idle (.stepAbort src c n) 1) ∧
       (x.enabled = true → x.step = .inDoubt → fits → (∀ w ∈ x.window, w.adderExc = 0) →
         Completes (.resolveToVoid src c n) s fun t =>
           (t.ctx c).step = .voiding ∧ (t.ctx c).stopAfter = true ∧ (t.ctx c).window = [] ∧ (t.ctx c).fired = x.fired ∧
           Keeps [.ctxs, .kilns, .setter, .log] s t ∧ OnlyCtx c s t) ∧
       (x.step ≠ .inDoubt ∨ x.enabled = false ∨ ¬ fits → idle (.resolveToVoid src c n) 3 ∧ idle (.resolveToFire src c n) 2) ∧
       (x.step ≠ .stopped ∨ x.enabled = false →
         idle (.load src c n) 4 ∧ idle (.sealCtx src c n) 5 ∧ idle (.restoreFromHearth src c n) 6)) ∧
  (∀ (src : Src) (c n : Nat) (s : State), s.pwr.life = .ready → (s.ctx c).enabled = true → (s.ctx c).step = .inDoubt →
       n % 2 ^ 48 = s.step c % 2 ^ 48 → (s.ctx c).disableAfter = false → (s.ctx c).ring = .active →
       Completes (.resolveToFire src c n) s fun t =>
         (t.ctx c).step = .stopped ∧ (t.ctx c).fired = (s.ctx c).fired + 1 ∧ (t.ctx c).lastSwitch = s.datum ∧ (t.ctx c).shadows = [] ∧
         (t.ctx c).ring = .halted ∧ (t.ctx c).window = [])

/-- R255: LOAD takes a STOPPED context into LOADING and cancels its launch; SEAL sets F to the step field, and raises 0x0609 with both
when F falls. R256, R210: RESTORE_FROM_HEARTH to h sets F = h; to a step that the hearth does not reach it raises 0x060A with h, and
nothing moves. -/
def Obligations.LoadSealRestore : Prop :=
  ∀ (src : Src) (c n : Nat) (s : State), s.pwr.life = .ready → (s.ctx c).enabled = true → (s.ctx c).step = .stopped →
    let x := s.ctx c
    let f := n % 2 ^ 48
    (x.loading = false → s.upsets = [] →
      Completes (.load src c n) s fun t =>
        (t.ctx c).loading = true ∧ (t.ctx c).launch = none ∧ (t.ctx c).step = .stopped ∧ (t.ctx c).fired = x.fired ∧
        Keeps [.ctxs, .kilns, .log, .host, .mem, .pframes] s t ∧ OnlyCtx c s t) ∧
    (x.fired ≤ f →
      Completes (.sealCtx src c n) s fun t =>
        (t.ctx c).fired = f ∧ (t.ctx c).loading = false ∧ (t.ctx c).step = .stopped ∧ Keeps [.ctxs, .log, .tier] s t ∧ OnlyCtx c s t) ∧
    (f < x.fired →
      Completes (.sealCtx src c n) s fun t =>
        (t.ctx c).fired = f ∧ (t.ctx c).loading = false ∧ (t.log.recs.head?.map fun r => (r.code, r.context, r.body >>> 128)) =
          some (0x0609, c, ((x.fired % 2 ^ 64) <<< 64) + (f <<< 128)) ∧ Keeps [.ctxs, .log, .host, .tier] s t ∧ OnlyCtx c s t) ∧
    (f = x.hearth →
      Completes (.restoreFromHearth src c n) s fun t =>
        (t.ctx c).fired = f ∧ (t.ctx c).loading = false ∧ (t.ctx c).step = .stopped ∧ (∀ d, d ≠ c → (t.ctx d).fired = (s.ctx d).fired)) ∧
    (f ≠ x.hearth → (s.tier.recordOf c f).1 = none →
      Completes (.restoreFromHearth src c n) s fun t =>
        CtxEvent c 0 0x060A ((x.hearth % 2 ^ 64) <<< 64) s t ∧ (t.ctx c).fired = x.fired ∧ (t.ctx c).step = .stopped ∧
        Keeps [.ctxs, .log, .host] s t ∧ OnlyCtx c s t)

/-! ### Contexts, launches and commits (R398, R399, R425 to R428, R464 to R468) -/

/-- R468: a context that passes the checks is enabled in STOPPED with F = 0 and E = 0, its ring ACTIVE at retire_pos and its positions
kept; one that fails them is not. A STOPPED context is disabled at once, keeps its positions, and its control register reads 0; a
RUNNING one is voided first. -/
def Obligations.ContextsAreEnabledAndDisabled : Prop :=
  ∀ (c : Nat) (s : State), s.pwr.life = .ready →
    let x := s.ctx c
    (x.enabled = false → s.enableBad c = none →
      Completes (.contextEnable c) s fun t =>
        let y := t.ctx c
        y.enabled = true ∧ y.step = .stopped ∧ y.fired = 0 ∧ y.epoch = 0 ∧ y.loading = false ∧ y.ring = .active ∧ y.fetchPos = x.retirePos ∧
        y.retirePos = x.retirePos ∧ y.cmdProducer = x.cmdProducer ∧ y.eventPos = x.eventPos ∧ y.tallyPos = x.tallyPos ∧
        t.pg c 0 = 1 ∧ Keeps [.ctxs, .regs, .frames] s t ∧ OnlyCtx c s t) ∧
    (∀ b, x.enabled = false → s.enableBad c = some b →
      Completes (.contextEnable c) s fun t => (t.ctx c).enabled = false ∧ t.regs = s.regs ∧ Keeps [.ctxs, .log, .host] s t) ∧
    (x.enabled = true → exec (.contextEnable c) s = .next s) ∧
    (x.enabled = true → x.step = .stopped →
      Completes (.contextDisable c) s fun t =>
        let y := t.ctx c
        y.enabled = false ∧ y.window = [] ∧ y.shadows = [] ∧ y.fired = x.fired ∧ y.fetchPos = x.retirePos ∧ y.retirePos = x.retirePos ∧
        y.cmdProducer = x.cmdProducer ∧ y.eventPos = x.eventPos ∧ y.tallyPos = x.tallyPos ∧ t.pg c 0 = 0 ∧ OnlyCtx c s t) ∧
    (x.enabled = true → x.step = .running → x.loading = false →
      Completes (.contextDisable c) s fun t =>
        (t.ctx c).enabled = true ∧ (t.ctx c).disableAfter = true ∧ (t.ctx c).step = .voiding ∧ t.mem = s.mem) ∧
    (x.enabled = true → (x.step = .bent ∨ x.step = .armed ∨ x.step = .inDoubt ∨ x.step = .voiding) → x.loading = false →
      exec (.contextDisable c) s = .next (s.setCtx c { x with disableAfter := true })) ∧
    (x.enabled = false → exec (.contextDisable c) s = .next s)

/-- R398, R399: DET_LAUNCH takes what it is told, and a launch is armed for a STOPPED context whose current step it names, when the datum is ALIGNED or ROOT and L lies at least
DET_LAUNCH_LEAD ahead; otherwise event 0x0885 gives the cause, in the order of R502. A cancelled launch is gone. At L the context runs
its step; 0x0886 tells that its first descriptor has not been fetched. -/
def Obligations.LaunchesStartTheStep : Prop :=
  ∀ (c n l : Nat) (s : State), s.pwr.life = .ready →
    let x := s.ctx c
    let startable := x.enabled = true ∧ x.loading = false ∧ x.step = .stopped ∧ n % 2 ^ 48 = s.step c % 2 ^ 48
    let steady := s.dat.st = .aligned ∨ s.dat.st = .root
    let lead := s.datum + s.blk 10 0x28 * 1000
    let told (s : State) : State := (s.setReg (pageAddr c 0x328) (n % 2 ^ 48 + 2 ^ 48)).setReg (pageAddr c 0x330) (l % 2 ^ 64)
    let refuses (cause : Nat) : Prop := Completes (.launchArm c n l) s fun t =>
      CtxEvent c 0 0x0885 cause s t ∧ (t.ctx c).launch = x.launch ∧ t.regs = (told s).regs ∧ Keeps [.ctxs, .regs, .log, .host] s t ∧ OnlyCtx c s t
    (s.pwr.current = 0 → startable → steady → lead ≤ l →
      exec (.launchArm c n l) s = .next ((told s).setCtx c { x with launch := some (s.step c, l) })) ∧
    (s.pwr.current = 2 → refuses 4) ∧
    (s.pwr.current ≠ 2 → ¬ startable → refuses 1) ∧
    (s.pwr.current ≠ 2 → startable → ¬ steady → refuses 2) ∧
    (s.pwr.current ≠ 2 → startable → steady → l < lead → refuses 3) ∧
    (Completes (.launchCancel c) s fun t =>
      t.ctx c = { x with launch := none } ∧ (t.pg c 0x328).testBit 48 = false ∧ Keeps [.ctxs, .regs] s t ∧ OnlyCtx c s t) ∧
    (∀ m, x.launch = some (m, l) → x.enabled = true → x.step = .stopped →
      (s.datum < l → exec (.launchRelease c) s = .next s) ∧
      (l ≤ s.datum → x.retirePos < x.fetchPos →
        exec (.launchRelease c) s = .next (s.setCtx c
          { x with launch := none, step := .running, fresh := false, lostRanks := [], statusDirty := true })) ∧
      (l ≤ s.datum → x.fetchPos ≤ x.retirePos →
        Completes (.launchRelease c) s fun t =>
          CtxEvent c 0 0x0886 (s.step c <<< 64) s t ∧ (t.ctx c).step = .running ∧ (t.ctx c).launch = none ∧
          Keeps [.ctxs, .log, .host] s t ∧ OnlyCtx c s t))

/-- R425 to R428: a commit of one written register of the tier's block takes its value into force when its checks pass, and leaves it,
its group marked refused, when they fail; the bank keeps the tag. A write to FLUE_COMMIT while the bank is busy is held, and a
second one is discarded with event 0x080C; the held one runs when the bank is free, one that the other bank held first before it.
A write of the steward never touches the management bank. -/
def Obligations.CommitsTakeEffectOrWait : Prop :=
  ∀ (src : Src) (v : Word) (s : State), s.pwr.life = .ready →
    let b := s.bankOf src
    let same (t : State) : Prop := if srcMgmt src then t.bankS = s.bankS else t.bankM = s.bankM
    (b.held.isSome = true →
      Completes (.flueCommit src v) s fun t =>
        ModEvent 0x080C (if srcMgmt src then 1 else 0) t ∧ Keeps [.log, .host] s t) ∧
    (b.held = none → s.datum < b.busyUntil →
      Completes (.flueCommit src v) s fun t =>
        t.bankOf src = { b with held := some (src, v.toNat), second := (s.otherBank src).held.isSome } ∧ same t ∧ t.regs = s.regs ∧
        Keeps [.log, .banks] s t) ∧
    (∀ off x r, b.held = none → (s.otherBank src).held = none → b.busyUntil ≤ s.datum → b.written = [(blockAddr 11 off, x)] → place (blockAddr 11 off) = .block 11 off →
      specOf (blockAddr 11 off) = some r → r.group = 11 → r.eff = .commit → v.toNat.testBit 11 = true →
      let a := blockAddr 11 off
      let bad := s.groupBad (s.tentative [(a, x)]) 11 [(a, x)]
      (bad = none →
        Completes (.flueCommit src v) s fun t =>
          t.reg a = r.keep x ∧ (t.bankOf src).written = [] ∧ (t.bankOf src).tag = bits v.toNat 32 32 ∧ (t.bankOf src).refused = 0 ∧ same t) ∧
      (∀ e, bad = some e → e.ctx = none →
        Completes (.flueCommit src v) s fun t =>
          t.reg a = s.reg a ∧ (t.bankOf src).written = b.written ∧ (t.bankOf src).tag = bits v.toNat 32 32 ∧
          (t.bankOf src).refused = 2 ^ 11 ∧ (t.bankOf src).first = e.event ∧ same t)) ∧
    (∀ u : Src, let k := if srcMgmt src then 1 else 0
      b.held = some (u, v.toNat) → srcMgmt u = srcMgmt src →
      (s.datum < b.busyUntil → exec (.heldCommit k) s = .next s) ∧
      (b.busyUntil ≤ s.datum → b.written = [] → (b.second = false ∨ (s.otherBank src).held = none) →
        Completes (.heldCommit k) s fun t =>
          (t.bankOf src).held = none ∧ (t.bankOf src).tag = bits v.toNat 32 32 ∧ (t.bankOf src).refused = 0 ∧ same t) ∧
      (∀ o n, b.busyUntil ≤ s.datum → b.written = [] → b.second = true → (s.otherBank src).held = some (o, n) → srcMgmt o ≠ srcMgmt src →
        Completes (.heldCommit k) s fun t =>
          (t.bankOf src).held = none ∧ (t.bankOf src).tag = bits v.toNat 32 32 ∧
          (t.otherBank src).held = none ∧ (t.otherBank src).tag = bits n 32 32))

/-! ### Registers (R7, R425, R437, R461 to R464, R485) -/

/-- R464, R437: a write of a staged register changes no value in force: it goes to its writer's bank, with the bits that belong to fields
and those that an address must leave zero, and enters the log with its source. The other bank keeps its values (R425). A write that is
not aligned, or that does not reach the module, does nothing.
R462, R464, R485: a read answers each word as the reader's bank sees it, and clears the RC fields of every word it returns: FAB
discards, channel counts, a context's retry counts. A write of ones to CLK_LOSS clears those bits and no others (R479). -/
def Obligations.RegistersStageAndRead : Prop :=
  (∀ (src : Src) (addr : Nat) (v : Word) (s : State),
       (s.takesWrite src = false ∨ addr % 8 ≠ 0 → exec (.registerWrite src addr v) s = .next s ∧ exec (.w1cClear src addr v) s = .next s) ∧
       (∀ r, s.takesWrite src = true → addr % 8 = 0 → specOf (inForceAddr addr) = some r →
         Completes (.registerWrite src addr v) s fun t =>
           t.bankOf src = { s.bankOf src with
             written := aset (inForceAddr addr) (r.keep v.toNat ||| v.toNat % 2 ^ r.aligned) (s.bankOf src).written } ∧
           (srcMgmt src = true → t.bankS = s.bankS) ∧ (srcMgmt src = false → t.bankM = s.bankM) ∧
           (t.log.recs.head?.map fun q => (q.kind, q.body)) = some (2, sourceBody src (inForceAddr addr) v.toNat) ∧ t.regs = s.regs ∧
           Keeps [.log, .banks] s t)) ∧
  (∀ (src : Src) (addr n : Nat) (v : Word) (s : State), s.pwr.life = .ready →
       (∀ lo hi, s.mayRead src addr = true → areaOf addr = some (lo, hi) → addr % 8 = 0 → addr + 8 * n ≤ hi →
         Completes (.rcRead src addr n) s fun t =>
           Sent (.mgmt 0 ((List.range n).flatMap fun i => leBytes 8 (s.readWord (s.bankOf src) (addr + 8 * i)))) t ∧
           t.mem = s.mem ∧ t.regs = s.regs ∧ t.log = s.log ∧ Keeps [.ctxs, .kilns, .setter, .entries, .tier, .ports, .discards, .host, .out] s t) ∧
       (Completes (.rcRead src 0x7001020400 1) s fun t =>
         t.discards = 0 ∧ Sent (.mgmt 0 (leBytes 8 s.discards)) t ∧ t.discardIn = s.discardIn ∧ Keeps [.discards, .out] s t) ∧
       (∀ c, c < 1024 →
         Completes (.rcRead src (0x7001030100 + 16 * c) 1) s fun t =>
           t.ctx c = { s.ctx c with rereadCount := 0, retryCount := 0 } ∧
           Sent (.mgmt 0 (leBytes 8 ((s.ctx c).rereadCount + ((s.ctx c).retryCount <<< 32)))) t ∧ Keeps [.ctxs, .out] s t ∧ OnlyCtx c s t) ∧
       (Completes (.w1cClear src (blockAddr 6 8) v) s fun t =>
         t.pwr = { s.pwr with lostSince := s.pwr.lostSince.filter fun i => !v.toNat.testBit (32 + i) } ∧ Keeps [.pwr, .log] s t))

/-! ### Power, resets and clocks (R405 to R424, R440 to R445) -/

/-- R419, R420: a request starts a change of state, is held during one, and is refused with event 0x0809 when R419 forbids it; RUN is
always granted. The end of a change raises 0x0808; DEEP leaves the stacks in self-refresh and no shelf byte. -/
def Obligations.PowerStateChanges : Prop :=
  ∀ (src : Src) (s : State), s.pwr.life = .ready →
    let waits (i : Instr) (r : Nat) : Prop := s.pwr.transition.isSome = true → Completes i s fun t =>
      t.pwr = { s.pwr with request := r, heldReq := some r } ∧ Keeps [.pwr, .log] s t
    let asks (i : Instr) (r : Nat) : Prop := s.pwr.transition = none → s.pwr.current = 0 →
      (s.mayLower r = true → Completes i s fun t => t.pwr = { s.pwr with request := r, transition := some r } ∧ Keeps [.pwr, .log] s t) ∧
      (s.mayLower r = false →
        Completes i s fun t => t.pwr = { s.pwr with request := r } ∧ ModEvent 0x0809 r t ∧ Keeps [.pwr, .log, .host] s t)
    waits (.requestRun src) 0 ∧ waits (.requestSleep src) 1 ∧ waits (.requestDeep src) 2 ∧
    asks (.requestSleep src) 1 ∧ asks (.requestDeep src) 2 ∧
    (s.pwr.transition = none → 0 < s.pwr.current →
      Completes (.requestRun src) s fun t => t.pwr = { s.pwr with request := 0, transition := some 0 } ∧ Keeps [.pwr, .log] s t) ∧
    (s.pwr.transition = none → exec .powerStateChangeDone s = .next s) ∧
    (∀ st, s.pwr.transition = some st → s.pwr.heldReq = none → s.pwr.current < 2 → st < 2 →
      Completes .powerStateChangeDone s fun t =>
        t.pwr = { s.pwr with current := st, transition := none } ∧ ModEvent 0x0808 st t ∧ Keeps [.pwr, .log, .host, .kilns, .ctxs] s t ∧
        (∀ c, t.ctx c = { s.ctx c with starve := (t.ctx c).starve }) ∧
        (∀ k, t.kiln k = { s.kiln k with counted := (t.kiln k).counted, starve := (t.kiln k).starve })) ∧
    (s.pwr.transition = some 2 → s.pwr.heldReq = none →
      Completes .powerStateChangeDone s fun t =>
        t.pwr.current = 2 ∧ t.pwr.transition = none ∧ ModEvent 0x0808 2 t ∧ (t.stack 0).selfRefresh = true ∧ (t.stack 1).selfRefresh = true ∧
        t.host.up1 = false ∧ (∀ a, Memory.get t.mem a = if isShelf a then 0 else Memory.get s.mem a) ∧
        (∀ c, t.ctx c = { s.ctx c with starve := (t.ctx c).starve }))

/-- R405, R469: a warm reset keeps DRAM, contexts and settings, clears the shelves, the trouble log and both banks, and leaves the module silent until it
has recovered in place (R416); a watchdog (R410) does the same by cause 1. The firmware slot that passes R449 runs. In the hold of
start-up a watchdog is told and captured, and the hold stays (R407).
R416: recovery in place ends READY in RUN, with its cause told. A step that was RUNNING or VOIDING is rolled back and its context
STOPPED at the same F; one that was BENT or ARMED is IN DOUBT. Neither happens while something keeps the module silent. -/
def Obligations.ResetsAndRecoveries : Prop :=
  (∀ (src : Src) (core : Nat) (s : State), s.pwr.failing = false → s.log.capture = none →
       let slot := if s.block2Reads then s.trust.selector % 2 else 0
       let resets (i : Instr) (cause : Nat) : Prop := Completes i s fun t =>
         t.pwr.life = .silent ∧ t.pwr.recovery = some cause ∧ (∀ a, Memory.get t.mem a = if isShelf a then 0 else Memory.get s.mem a) ∧
         t.ctxs = s.ctxs ∧ t.regs = s.regs ∧ t.bankS = { s.bankS with written := [], held := none, second := false } ∧
         t.bankM = { s.bankM with written := [], held := none, second := false } ∧ t.tier = s.tier ∧ t.datum = s.datum ∧
         t.log.head = 1 ∧ t.log.recs.map (·.kind) = [6] ∧ (t.stack 0).selfRefresh = true ∧ (t.stack 1).selfRefresh = true ∧
         t.trust.running = slot ∧ t.log.capture.isSome = true
       (s.slotFault slot = 0 → s.takesWrite src = true → s.pwr.life = .ready → resets (.warmReset src) 0) ∧
       (s.slotFault slot = 0 → s.pwr.life = .ready ∨ s.pwr.life = .silent → resets (.watchdog core) 1) ∧
       (s.pwr.life = .held → s.booting = false →
         Completes (.watchdog core) s fun t =>
           t.pwr = s.pwr ∧ ModEvent 0x080A core t ∧ (t.log.capture.map (·.cause)) = some 0x080A ∧ Keeps [.log, .host] s t)) ∧
  (∀ (s : State) (cause : Nat), s.pwr.recovery = some cause →
       (s.stillSilent = true → exec .recoveredInPlace s = .next s) ∧
       (s.pwr.life = .silent → s.stillSilent = false →
         Completes .recoveredInPlace s fun t =>
           t.pwr.life = .ready ∧ t.pwr.current = 0 ∧ t.pwr.recovery = none ∧ (t.stack 0).selfRefresh = (s.stack 0).tripped ∧
           (∀ c x, (c, x) ∈ s.ctxs → s.ctx c = x → x.enabled = true → x.disableAfter = false →
             (x.step = .bent ∨ x.step = .armed ∨ x.step = .inDoubt → (t.ctx c).step = .inDoubt ∧ (t.ctx c).fired = x.fired) ∧
             (x.step = .running ∨ x.step = .voiding ∨ x.step = .stopped → (t.ctx c).step = .stopped ∧ (t.ctx c).fired = x.fired))))

/-- R405, R406: a full reset, and the power-on of an unpowered module, end READY with no context and no kiln, and DRAM that holds nothing
but the home map, when nothing fails at start-up; without a config image the module is unconfigured and every register is at its reset
value (R451). A full reset keeps the datum count. No firmware that passes leaves boot recovery, with the checks that failed told to the
log of the start alone (R449, R434); a die that does not fit holds the module with event 0x0506 (R407). While a clock of the system class
is lost, or a trip stands, the start waits in its step 2 (R406, R415; log entry 101, the model's reading). -/
def Obligations.ColdStarts : Prop :=
  ∀ (src : Src) (rep : StartReport) (s : State),
    s.trust.cfgA = none → s.trust.cfgB = none → s.log.capture = none → s.pwr.failing = false →
    let slot := if s.block2Reads then s.trust.selector % 2 else 0
    let starts (i : Instr) (cause : Nat) : Prop :=
      let base := s.coldBase cause
      let clear := base.sourceLost = false ∧ base.thermLow = false
      (clear → s.slotFault slot = 0 → rep = { } → Completes i s fun t =>
        t.pwr.life = .ready ∧ t.pwr.startStep = 11 ∧ t.pwr.unconfigured = true ∧ (s.tier.homes = [] → t.mem = []) ∧ t.upsets = [] ∧
        t.regs = [] ∧ t.kilns = [] ∧ (∀ c, (t.ctx c).enabled = false) ∧ t.ports = [] ∧ t.host.up0 = true ∧ t.host.up1 = true ∧
        t.tier.mounted = true ∧ t.tier.homes = s.tier.homes ∧ t.trust.running = slot ∧ t.pending = s.pending) ∧
      (clear → s.slotFault 0 ≠ 0 → s.slotFault 1 ≠ 0 → Completes i s fun t =>
        t.pwr.life = .recovery ∧ t.pwr.holdEvent = 0x0902 ∧ t.mem = [] ∧ t.log.recs = [] ∧ t.log.start = [0x0901, 0x0901, 0x0902]) ∧
      (∀ d ty ver, clear → s.slotFault slot = 0 → rep.packageMismatch = some (d, ty, ver) → rep.idFault = 0 → rep.badCopies = [] →
        Completes i s fun t =>
          t.pwr.life = .held ∧ t.pwr.holdEvent = 0x0506 ∧ ModEvent 0x0506 (d + ((ty % 256) <<< 8) + ((ver % 65536) <<< 16)) t ∧ t.mem = []) ∧
      (base.sourceLost = true ∨ base.thermLow = true → Completes i s fun t =>
        t.pwr.life = .held ∧ t.pwr.startStep = 2 ∧ t.pwr.startWait = some (rep, cause) ∧ t.mem = [] ∧ t.log.recs = [])
    (s.takesWrite src = true → starts (.fullReset src rep) 1) ∧
    (s.takesWrite src = true → Completes (.fullReset src rep) s fun t => t.datum = s.datum) ∧
    (s.pwr.life = .off → starts (.powerOn rep) 0) ∧
    (s.pwr.life ≠ .off → exec (.powerOn rep) s = .next s)

/-- R413 to R415: a lost clock is noted and told once with 0x0801; one of the system class silences the module, with the stacks in
self-refresh and a capture; a host reference takes its port's link down. A clock that returns is told with 0x0802, and lets recovery
begin when nothing else keeps the module silent.
R414: a write of CLK_FCOUNT_CTRL_n starts or stops a measurement; the end of its gate leaves the count, valid; when it is monitored
and lies outside the limits, out_of_limits is set and event 0x0805 told, at most once a second.
R394, R395: an upstream that aligns takes an UNALIGNED or HOLDOVER datum to ALIGNED with event 0x0883, and corrects it: in one step
with no context enabled, by a slew otherwise, with 0x0884 above a microsecond; so does a return from the alternate. The correction is the offset that the port's
training measured, less the corrections since (R393, R394), and every port's offset follows it. A ROOT, and a primary that is neither UP nor DEGRADED,
stay as they are. An ALIGNED datum whose primary is gone goes on by the alternate (0x0880), or enters HOLDOVER (0x0881) with neither;
HOLDOVER at its limit is UNALIGNED (0x0882). -/
def Obligations.ClocksAndTheDatum : Prop :=
  (∀ (n : Nat) (s : State), s.pwr.life ≠ .off → n < 13 →
       (s.pwr.lost.contains n = true → exec (.clockLost n) s = .next s) ∧
       (s.pwr.lost.contains n = false → systemClass n = true → s.log.capture = none →
         Completes (.clockLost n) s fun t =>
           t.pwr.life = (if s.pwr.life = .ready then .silent else s.pwr.life) ∧ t.pwr.recovery = none ∧ t.pwr.lost = s.pwr.lost ++ [n] ∧ (t.stack 0).selfRefresh = true ∧ (t.stack 1).selfRefresh = true ∧
           t.host.up0 = false ∧ t.host.up1 = false ∧ (t.log.capture.map (·.cause)) = some 0x0801 ∧ t.ctxs = s.ctxs ∧ t.mem = s.mem ∧
           (s.dat.st = .aligned ∨ s.dat.st = .root → t.dat.st = .holdover)) ∧
       (s.pwr.lost.contains n = false → n = 3 ∨ n = 4 → s.booting = false →
         Completes (.clockLost n) s fun t =>
           t.pwr.lost = s.pwr.lost ++ [n] ∧ ModEvent 0x0801 n t ∧ t.host.up0 = (if n = 3 then false else s.host.up0) ∧
           t.host.up1 = (if n = 4 then false else s.host.up1) ∧ Keeps [.pwr, .log, .host] s t) ∧
       (s.pwr.lost.contains n = false → exec (.clockReturned n) s = .next s) ∧
       (s.pwr.lost.contains n = true → systemClass n = true → s.pwr.life = .silent → s.pwr.recovery = none →
         Completes (.clockReturned n) s fun t =>
           t.pwr.lost = s.pwr.lost.filter (· != n) ∧ ModEvent 0x0802 n t ∧ t.pwr.life = .silent ∧
           t.pwr.recovery = (if t.stillSilent then none else some 2) ∧ Keeps [.pwr, .log, .host] s t)) ∧
  (∀ (src : Src) (n k : Nat) (v : Word) (s : State), n < 16 → s.pwr.life = .ready →
       let f := s.fcount n
       let low := bits f.limit 0 32
       let high := bits f.limit 32 32
       (s.takesWrite src = true →
         Completes (.clkFcountCtrl src n v) s fun t =>
           t.fcount n = { f with ctrl := bits v.toNat 0 35, running := v.toNat.testBit 32 && bits v.toNat 8 24 != 0 } ∧
           (∀ m, m ≠ n → t.fcount m = s.fcount m) ∧ Keeps [.pwr, .log] s t) ∧
       (f.running = false → exec (.fcountGateEnd n k) s = .next s) ∧
       (f.running = true → (f.ctrl.testBit 34 = false ∨ (low ≤ k ∧ k ≤ high)) →
         Completes (.fcountGateEnd n k) s fun t =>
           t.fcount n = { f with count := k % 2 ^ 40, valid := true, running := f.ctrl.testBit 33 } ∧
           (∀ m, m ≠ n → t.fcount m = s.fcount m) ∧ Keeps [.pwr] s t) ∧
       (f.running = true → f.ctrl.testBit 34 = true → (k < low ∨ high < k) →
         (f.told = none →
           Completes (.fcountGateEnd n k) s fun t =>
             t.fcount n = { f with count := k % 2 ^ 40, valid := true, running := f.ctrl.testBit 33, outOfLimits := true, told := some s.datum } ∧
             ModEvent 0x0805 (n + ((k % 2 ^ 64) <<< 64)) t ∧ Keeps [.pwr, .log, .host] s t) ∧
         (∀ at_, f.told = some at_ → s.datum < at_ + 1000000000 →
           Completes (.fcountGateEnd n k) s fun t =>
             t.fcount n = { f with count := k % 2 ^ 40, valid := true, running := f.ctrl.testBit 33, outOfLimits := true } ∧ Keeps [.pwr] s t))) ∧
  (∀ (hops : Nat) (s : State), s.booting = false →
       let d := s.dat
       let prim := s.upstream.1
       let alt := s.upstream.2
       let off (p : Nat) : Int := (s.port p).offset
       let corr := off (prim.getD 0)
       let stepped (p : Nat) (t : State) : Prop := t.datum = (((s.datum : Int) + d.slew + off p) % 2 ^ 64).toNat
       let shifted (p : Nat) (t : State) : Prop :=
         t.ports = s.ports.map fun x => (x.1, { x.2 with offset := x.2.offset - off p })
       let taken : DatumSt := { d with st := .aligned, onAlt := false, port := prim.getD 0, hops := hops % 256 }
       (d.st = .root ∨ s.serves prim = false → exec (.datumAligned hops) s = .next s) ∧
       (s.serves prim = true → d.st = .aligned → (d.onAlt = true ∨ prim ≠ some d.port) →
         (s.anyEnabled = false → Completes (.datumAligned hops) s fun t =>
           stepped (prim.getD 0) t ∧ shifted (prim.getD 0) t ∧ t.dat = { taken with correction := corr, slew := 0 } ∧
           t.ctxs = s.ctxs ∧ t.mem = s.mem ∧ Keeps [.dat, .datum, .ports, .banks, .discards, .host, .tier] s t) ∧
         (s.anyEnabled = true → corr.natAbs ≤ 1000 → Completes (.datumAligned hops) s fun t =>
           shifted (prim.getD 0) t ∧ t.dat = { taken with correction := corr, slew := d.slew + corr } ∧ Keeps [.dat, .ports] s t)) ∧
       (s.serves prim = true → d.st = .aligned → d.onAlt = false → prim = some d.port →
         exec (.datumAligned hops) s = .next { s with dat := taken }) ∧
       (s.serves prim = true → (d.st = .unaligned ∨ d.st = .holdover) →
         (s.anyEnabled = false → Completes (.datumAligned hops) s fun t =>
           stepped (prim.getD 0) t ∧ shifted (prim.getD 0) t ∧ t.dat = { taken with correction := corr, slew := 0 } ∧
           ModEvent 0x0883 (signedBits 64 corr <<< 64) t ∧ Keeps [.dat, .datum, .ports, .log, .host, .banks, .discards, .tier] s t) ∧
         (s.anyEnabled = true → corr.natAbs ≤ 1000 → Completes (.datumAligned hops) s fun t =>
           shifted (prim.getD 0) t ∧ t.dat = { taken with correction := corr, slew := d.slew + corr } ∧
           ModEvent 0x0883 (signedBits 64 corr <<< 64) t ∧ Keeps [.dat, .ports, .log, .host] s t) ∧
         (s.anyEnabled = true → 1000 < corr.natAbs → Completes (.datumAligned hops) s fun t =>
           shifted (prim.getD 0) t ∧ t.dat = { taken with correction := corr, slew := d.slew + corr } ∧
           ModEvent 0x0884 (signedBits 64 corr <<< 64) t ∧ Keeps [.dat, .ports, .log, .host] s t)) ∧
       (s.serves prim = true ∨ d.st = .root ∨ d.st = .unaligned → exec .datumUpstreamChanged s = .next s) ∧
       (s.serves prim = false → s.serves alt = true → s.anyEnabled = false →
         (d.st = .holdover ∨ (d.st = .aligned ∧ ¬ (d.onAlt = true ∧ alt = some d.port))) →
         Completes .datumUpstreamChanged s fun t =>
           t.dat = { d with
             st := .aligned, onAlt := true, port := alt.getD 0, hops := t.dat.hops, correction := off (alt.getD 0), slew := 0 } ∧
           stepped (alt.getD 0) t ∧ shifted (alt.getD 0) t ∧ ModEvent 0x0880 (alt.getD 0) t ∧
           Keeps [.dat, .datum, .draw, .ports, .log, .host, .banks, .discards, .tier] s t) ∧
       (s.serves prim = false → s.serves alt = false → d.st = .aligned →
         Completes .datumUpstreamChanged s fun t =>
           t.dat = { d with st := .holdover, since := s.datum } ∧ ModEvent 0x0881 0 t ∧ Keeps [.dat, .log, .host] s t) ∧
       (d.st = .holdover →
         Completes .datumHoldoverLimit s fun t => t.dat = { d with st := .unaligned } ∧ ModEvent 0x0882 0 t ∧ Keeps [.dat, .log, .host] s t) ∧
       (d.st ≠ .holdover → exec .datumHoldoverLimit s = .next s))

/-- R421 to R423, R212: the input in its range clears the excursion; 44 to 48 V or 58 to 60 V is told once with 0x0807; below 44 V or
above 60 V, and on a power-fail warning, the module is silent, the time of the warning held, from which its flash is write protected (R212),
a capture begun; below 40 V, and when the
power stage stops, it is unpowered and its DRAM lost, what the flash holds kept. The current and power of PWR_INPUT are free (log entry
5).
R424, R443: a die sensor at 100 degrees is told once with 0x0A06 until it reads less; at 115 degrees the die trips (0x0A07) and the
module is silent with a capture. A capture that has reached flash stands in its slot and is told with 0x0904. -/
def Obligations.InputsAndTemperatures : Prop :=
  (∀ (mv : Nat) (s : State), s.pwr.life = .ready → s.pwr.failing = false → s.log.capture = none → mv < 65536 →
       let fails (i : Instr) : Prop := Completes i s fun t =>
         t.pwr.failing = true ∧ t.pwr.life = .silent ∧ t.pwr.failedAt = some s.datum ∧ t.tier.writeProtect = s.tier.writeProtect ∧
         (t.log.capture.map (·.cause)) = some 0x0806 ∧ t.mem = s.mem ∧
         (∀ c, (t.ctx c).step = (s.ctx c).step ∧ (t.ctx c).fired = (s.ctx c).fired)
       let stops (i : Instr) : Prop := Completes i s fun t =>
         t.pwr.life = .off ∧ t.mem = [] ∧ t.kilns = [] ∧ (∀ c, (t.ctx c).enabled = false) ∧ t.tier.homes = s.tier.homes ∧
         t.tier.mounted = false ∧ t.pending = s.pending
       (48000 ≤ mv → mv ≤ 58000 →
         Completes (.inputVoltage mv) s fun t =>
           t.pwr.mV = mv ∧ t.pwr.excursion = false ∧ t.pwr.life = .ready ∧ Keeps [.pwr, .draw] s t) ∧
       ((44000 ≤ mv ∧ mv < 48000) ∨ (58000 < mv ∧ mv ≤ 60000) →
         Completes (.inputVoltage mv) s fun t =>
           t.pwr.mV = mv ∧ t.pwr.excursion = true ∧ t.pwr.life = .ready ∧ (s.pwr.excursion = false → ModEvent 0x0807 mv t) ∧
           (s.pwr.excursion = true → t.log = s.log) ∧ Keeps [.pwr, .draw, .log, .host] s t) ∧
       ((40000 ≤ mv ∧ mv < 44000) ∨ 60000 < mv → fails (.inputVoltage mv)) ∧ fails (.powerFailWarning mv) ∧
       (mv < 40000 → stops (.inputVoltage mv)) ∧ stops .powerStageStop) ∧
  (∀ (die sensor : Nat) (t : Int) (s : State), s.pwr.life = .ready → die < 4 → sensor < dieSensors die →
       let key := 4 * die + sensor
       let pay := dieCode die + (sensor <<< 8) + (signedBits 16 t <<< 16)
       (s.pwr.tripped.contains die = false →
         (t < 400 →
           Completes (.dieTemperatureSample die sensor t) s fun u =>
             u.pwr = { s.pwr with dieTemps := aset key t s.pwr.dieTemps, hot := s.pwr.hot.filter (· != key) } ∧ Keeps [.pwr] s u) ∧
         (400 ≤ t → t < 460 → s.pwr.hot.contains key = false →
           Completes (.dieTemperatureSample die sensor t) s fun u =>
             u.pwr = { s.pwr with dieTemps := aset key t s.pwr.dieTemps, hot := s.pwr.hot ++ [key] } ∧ ModEvent 0x0A06 pay u ∧
             Keeps [.pwr, .log, .host] s u) ∧
         (460 ≤ t → s.log.capture = none →
           Completes (.dieTemperatureSample die sensor t) s fun u =>
             u.pwr.life = .silent ∧ u.pwr.tripped = s.pwr.tripped ++ [die] ∧ (u.log.capture.map (·.cause)) = some 0x0A07 ∧ u.thermLow = true ∧ u.mem = s.mem ∧
             u.ctxs = s.ctxs)) ∧
       (∀ w, s.log.capture = some w → (s.tier.lostChannels.any fun x => decide (x.1 < 4)) = false →
         Completes .witnessCaptured s fun u =>
           alook (w.captureSeq % 16) u.log.slots = some w ∧ u.log.capture = none ∧ u.log.durable = some w.captureSeq ∧
           ModEvent 0x0904 (w.captureSeq % 16 + (w.cause <<< 16) + ((w.captureSeq % 2 ^ 64) <<< 64)) u ∧ Keeps [.log, .host, .tier] s u) ∧
       (s.log.capture = none → exec .witnessCaptured s = .next s))

/-! ### The firing protocol (R232 to R252) -/

/-- R234, R235, R239: an ABORT that reaches the leader before it sent FIRE voids the step with the cause it carries, one in doubt with
STOPPED behind it, and VOID goes to every member, once; another member passes it on and stays as it is. VOID makes a RUNNING or BENT step
VOIDING, and a step in doubt VOIDING and then STOPPED. Neither moves a context whose step it does not name. The first cause of a step
stays (R240).
R241: a rollback leaves F as it is and undoes the step: no shadow, no queue count, E of the last fired step, one more attempt; event
0x0602 names the cause; the ring is HALTED at the first descriptor of the step, and a waiting CONE completes as voided. Told for a
step without migrations and page actions, in a module where no operation waits for a page. -/
def Obligations.AbortAndVoidDiscardTheStep : Prop :=
  (∀ (p : Packet) (s : State) (c step d orig code rank dig cx : Nat),
       let x := s.ctx c
       let voids (i : Instr) (stop : Bool) : Prop := Completes i s fun t =>
         (t.ctx c).step = .voiding ∧ (t.ctx c).cause = some (x.cause.getD (orig, code)) ∧ (t.ctx c).window = [] ∧ (t.ctx c).colls = [] ∧
         (t.ctx c).fired = x.fired ∧ (t.ctx c).stopAfter = (stop || x.stopAfter) ∧ t.mem = s.mem ∧ OnlyCtx c s t ∧
         Keeps [.ctxs, .kilns, .setter, .ports, .out, .discards, .log, .host] s t
       (s.control p 2 = some (c, step, d, orig, code, rank, dig, cx) →
         (step ≠ s.step c → exec (.abort p) s = .next s) ∧
         (step = s.step c → x.loading = false → (x.step = .running ∨ x.step = .bent) → s.rank c = 0 → voids (.abort p) false) ∧
         (step = s.step c → x.loading = false → x.step = .inDoubt → s.rank c = 0 → voids (.abort p) true) ∧
         (step = s.step c → x.loading = false → (x.step = .voiding ∨ x.step = .stopped) → s.rank c = 0 →
           (x.voidSent = true → exec (.abort p) s = .next s) ∧
           (x.voidSent = false →
             Completes (.abort p) s fun t => t.ctx c = { x with voidSent := true } ∧ Keeps [.ctxs, .ports, .out, .discards, .log, .host] s t ∧
               OnlyCtx c s t)) ∧
         (step = s.step c → x.loading = false → x.step ≠ .armed → s.rank c ≠ 0 →
           Completes (.abort p) s fun t => t.ctxs = s.ctxs ∧ Keeps [.ports, .out, .discards, .log, .host] s t) ∧
         (step = s.step c → (x.step = .armed ∨ x.loading = true) → exec (.abort p) s = .next s)) ∧
       (s.control p 4 = some (c, step, d, orig, code, rank, dig, cx) →
         (step ≠ s.step c → exec (.void p) s = .next s) ∧
         (step = s.step c → x.loading = false → (x.step = .running ∨ x.step = .bent) → voids (.void p) false) ∧
         (step = s.step c → x.loading = false → x.step = .inDoubt → voids (.void p) true) ∧
         (step = s.step c → x.loading = false → x.step = .voiding →
           Completes (.void p) s fun t => t.ctxs = s.ctxs ∧ Keeps [.ports, .out, .discards, .log, .host] s t) ∧
         (step = s.step c → x.loading = false → x.step = .stopped → exec (.void p) s = .next s) ∧
         (step = s.step c → x.loading = false → x.step = .armed → exec (.void p) s = .refused (.cannotOccur "VOID")))) ∧
  (∀ (c : Nat) (s : State),
       let x := s.ctx c
       let why := x.cause.getD (s.rank c, 0)
       ((s.ctx c).step ≠ .voiding → exec (.rollbackComplete c) s = .next s) ∧
       (s.pwr.life = .ready → x.step = .voiding → x.stopAfter = false → x.disableAfter = false → x.migrations = [] → x.pageActs = [] →
         x.ring = .active → (∀ d, ∀ w ∈ (s.ctx d).window, w.wait ≠ some .page) →
         Completes (.rollbackComplete c) s fun t =>
           let y := t.ctx c
           y.step = .running ∧ y.fired = x.fired ∧ y.shadows = [] ∧ y.firedShadows = x.firedShadows ∧ y.queues = [] ∧ y.carried = [] ∧
           y.epoch = x.firedEpoch ∧ y.attempt = x.attempt + 1 ∧ y.ring = .halted ∧ y.ringReason = why.2 ∧ y.fetchPos = x.retirePos ∧
           y.retirePos = x.retirePos ∧ y.window = [] ∧ y.coneAt = none ∧ t.mem = s.mem ∧
           CtxEvent c 0 0x0602 (why.1 % 65536 + ((why.2 % 65536) <<< 16) + (s.step c <<< 64)) s t ∧
           (∀ pos at_ tag, x.coneAt = some (pos, at_, tag) →
             (y.entryq.getLast?.map fun e => (e.kind, e.outcome, e.code, e.position, e.tag)) = some (1, 4, 0x62, pos, tag))))

/-- R236, R237, R239: FIRE arms a BENT step for the datum D it carries; a step that D has passed fires at once, and is late.
R236: at D the step has fired: F rises by one, the shadows are the fired copies, and the context runs its next step; the CONE
completes and retire_pos moves past it (R362, R365). Before D nothing happens.
R234, R235, R239: BENT of a child is noted once; a member whose own cone is not bent only notes it. The last BENT that the leader
waits for makes it choose D = now + FLUE_FIRE_LEAD and enter ARMED; the last that another member waits for makes it send its own. BENT
of a fired step is dropped. -/
def Obligations.FiringSwitches : Prop :=
  (∀ (p : Packet) (s : State) (c step d orig code rank dig cx : Nat), s.control p 3 = some (c, step, d, orig, code, rank, dig, cx) →
       let x := s.ctx c
       (step ≠ s.step c → exec (.fire p) s = .next s) ∧
       (step = s.step c → x.loading = false → x.step = .bent → s.datum ≤ d →
         Completes (.fire p) s fun t =>
           t.ctx c = { x with fireD := some d, step := .armed } ∧ Keeps [.ctxs, .ports, .out, .discards, .log, .host] s t ∧ OnlyCtx c s t) ∧
       (step = s.step c → x.loading = false → x.step = .bent → d < s.datum → x.stopAfter = false → x.disableAfter = false →
         Completes (.fire p) s fun t =>
           (t.ctx c).fired = x.fired + 1 ∧ (t.ctx c).step = .running ∧ (t.ctx c).late = true ∧ (t.ctx c).lastSwitch = d ∧
           (t.log.recs.head?.map fun r => (r.kind, r.code, r.context)) = some (1, 0x0604, c)) ∧
       (step = s.step c → x.loading = false → x.step = .inDoubt → s.datum ≤ d → x.disableAfter = false →
         Completes (.fire p) s fun t =>
           (t.ctx c).fired = x.fired + 1 ∧ (t.ctx c).step = .stopped ∧ (t.ctx c).lastSwitch = d ∧ (t.ctx c).shadows = []) ∧
       (step = s.step c → x.loading = false → (x.step = .armed ∨ x.step = .stopped) → exec (.fire p) s = .next s) ∧
       (step = s.step c → x.loading = false → (x.step = .running ∨ x.step = .voiding) →
         exec (.fire p) s = .refused (.cannotOccur "FIRE"))) ∧
  (∀ (c d : Nat) (s : State), (s.ctx c).fireD = some d → (s.ctx c).step = .armed → s.pwr.life = .ready →
       let x := s.ctx c
       (s.datum < d → exec (.switch c) s = .next s) ∧
       (d ≤ s.datum → x.stopAfter = false → x.disableAfter = false →
         Completes (.switch c) s fun t =>
           let y := t.ctx c
           y.fired = x.fired + 1 ∧ y.step = .running ∧ y.shadows = [] ∧ y.fireD = none ∧ y.attempt = 0 ∧ y.lastSwitch = d ∧ y.cause = none ∧
           y.selfBent = false ∧ y.bentSent = false ∧ y.coneAt = none ∧ y.carried = [] ∧ y.migrations = [] ∧ y.queues = [] ∧
           (x.migrations = [] → y.firedShadows = x.shadows.map fun e => (e.1, { frame := e.2.frame, old := e.2.old, step := s.step c })) ∧
           (∀ pos at_ tag, x.coneAt = some (pos, at_, tag) → y.retirePos = pos + 1) ∧ (x.coneAt = none → y.retirePos = x.retirePos))) ∧
  (∀ (p : Packet) (s : State) (c step d orig code rank dig cx : Nat), s.control p 1 = some (c, step, d, orig, code, rank, dig, cx) →
       let x := s.ctx c
       let now := x.bentFrom ++ [(rank, step)]
       let all := (treeChildren (s.rank c) (s.members c)).all fun r => now.contains (r, s.step c)
       (step < s.step c ∨ x.bentFrom.contains (rank, step) = true → exec (.bent p) s = .next s) ∧
       (s.step c ≤ step → x.bentFrom.contains (rank, step) = false →
         (x.selfBent = false ∨ all = false → exec (.bent p) s = .next (s.setCtx c { x with bentFrom := now })) ∧
         (x.selfBent = true → x.step = .bent → x.bentSent = false → all = true → s.rank c ≠ 0 →
           Completes (.bent p) s fun t =>
             t.ctx c = { x with bentFrom := now, bentSent := true } ∧ Keeps [.ctxs, .ports, .out, .discards, .log, .host] s t ∧ OnlyCtx c s t) ∧
         (x.selfBent = true → x.step = .bent → x.bentSent = false → all = true → s.rank c = 0 →
           Completes (.bent p) s fun t =>
             t.ctx c = { x with bentFrom := now, bentSent := true, step := .armed, fireD := some ((s.datum + s.blk 0 0x20 * 1000) % 2 ^ 64) } ∧
             Keeps [.ctxs, .ports, .out, .discards, .log, .host] s t ∧ OnlyCtx c s t)))

/-- R236: the commit walk writes each shadowed parcel's entry, with the step that it fired in, and gives the frame that it replaces back
to the reserve; a walk of one parcel changes no other byte.
R231: each die's shadow reserve is refilled to 6 % of its frames, as far as its free parcel pool has them; no frame is made or lost, and
demotion begins when the pool falls below TIER_FREE_LOW (R202). -/
def Obligations.WalkAndReserves : Prop :=
  (∀ (c : Nat) (s : State), s.pwr.life = .ready →
       (Completes (.commitWalk c) s fun t =>
         (t.ctx c).firedShadows = [] ∧ (t.ctx c).fired = (s.ctx c).fired ∧ (t.ctx c).step = (s.ctx c).step ∧
         (t.ctx c).shadows = (s.ctx c).shadows ∧ Keeps [.ctxs, .mem, .upsets, .frames, .setter, .log, .host] s t ∧ OnlyCtx c s t) ∧
       (∀ p f a, (s.ctx c).firedShadows = [(p, f)] → (s.ctx c).firedTable = [] → s.entryAddr c p = some a → s.upsets = [] → inMemory a 8 = true →
         Completes (.commitWalk c) s fun t =>
           t.ctx c = { s.ctx c with firedShadows := [] } ∧ Keeps [.ctxs, .mem, .upsets, .frames] s t ∧ OnlyCtx c s t ∧
           t.memNat a 8 = PEntry.toNat { where_ := 1, dirty := true, frame := f.frame, step := f.step % 2 ^ 28 } ∧ MemoryOutside a 8 s t ∧
           (∀ g, f.old = some g → (t.frames (bits g 39 1)).reserve = (s.frames (bits g 39 1)).reserve + 1) ∧
           (f.old = none → t.frames0 = s.frames0 ∧ t.frames1 = s.frames1))) ∧
  (∀ s : State, s.pwr.life = .ready →
       Completes .shadowReserveRefill s fun t =>
         let moved (f : Frames) := min (4529848 - f.reserve) f.pool
         t.frames0 = { s.frames0 with reserve := s.frames0.reserve + moved s.frames0, pool := s.frames0.pool - moved s.frames0 } ∧
         t.frames1 = { s.frames1 with reserve := s.frames1.reserve + moved s.frames1, pool := s.frames1.pool - moved s.frames1 } ∧
         (t.frames 0).reserve + (t.frames 0).pool = (s.frames 0).reserve + (s.frames 0).pool ∧
         (t.frames 1).reserve + (t.frames 1).pool = (s.frames 1).reserve + (s.frames 1).pool ∧
         (4529848 ≤ t.frames0.reserve → 4529848 ≤ t.frames1.reserve → t.refilling = false) ∧
         t.demoting = (decide (t.freePool < s.blk 11 0x10) || (s.demoting && decide (t.freePool < s.blk 11 0x18))) ∧ Keeps [.frames] s t)

/-- R234, R239: a member that finds a neighbour in the tree lost, or that hears of a loss, notes the rank once; a RUNNING step is
VOIDING and then STOPPED, a BENT one is IN DOUBT (event 0x0603), an ARMED or VOIDING one is STOPPED at its end. -/
def Obligations.LostMembersStopTheJob : Prop :=
  ∀ (c r : Nat) (p : Packet) (s : State) (step d code rank dig cx : Nat),
    let x := s.ctx c
    let loses (i : Instr) : Prop :=
      (x.step = .running → Completes i s fun t =>
        (t.ctx c).step = .voiding ∧ (t.ctx c).stopAfter = true ∧ (t.ctx c).lostRanks = x.lostRanks ++ [r] ∧
        (t.ctx c).cause = some (x.cause.getD (r, 0x0605)) ∧ (t.ctx c).fired = x.fired ∧ t.mem = s.mem ∧ OnlyCtx c s t) ∧
      (x.step = .bent → Completes i s fun t =>
        (t.ctx c).step = .inDoubt ∧ (t.ctx c).lostRanks = x.lostRanks ++ [r] ∧ CtxEvent c 0 0x0603 (s.step c <<< 64) s t ∧
        (t.ctx c).fired = x.fired ∧ t.mem = s.mem ∧ OnlyCtx c s t) ∧
      (x.step = .armed ∨ x.step = .voiding → Completes i s fun t =>
        (t.ctx c).step = x.step ∧ (t.ctx c).stopAfter = true ∧ (t.ctx c).lostRanks = x.lostRanks ++ [r] ∧ t.mem = s.mem ∧ OnlyCtx c s t)
    (s.pwr.life = .ready → x.enabled = true → x.lostRanks.contains r = false → (s.treeLinks c).contains r = true → loses (.memberLost c r)) ∧
    (s.control p 7 = some (c, step, d, r, code, rank, dig, cx) → x.lostRanks.contains r = false → loses (.lost p)) ∧
    (x.lostRanks.contains r = true → exec (.memberLost c r) s = .next s ∧
      (s.control p 7 = some (c, step, d, r, code, rank, dig, cx) → exec (.lost p) s = .next s))

/-- R234, R261, R300: a heartbeat is sent on a tree link, and one for this module changes nothing; one for another grid reference is
forwarded. A step that has waited 10 ms for the delivery of its predecessor's record is told once with 0x0608.
R252: the leader holds each member's digest of a step until it has all of them; a difference raises 0x0607 with the number of ranks
that differ from the majority and the lowest of them, on the leader and on every other member, which hears of it by a digest down the tree
(what brings it there is log entry 25). Another member passes a digest up the tree. R251 and R250: the automatic check line digests the checked lots as fired. -/
def Obligations.HeartbeatsAndDigests : Prop :=
  (∀ (c rank : Nat) (p : Packet) (s : State), s.pwr.life = .ready →
       ((s.ctx c).enabled = true → (s.treeLinks c).contains rank = true →
         exec (.heartbeatTimer c rank) s = .next (s.sendPacket
           { dest := s.gridOf c rank, src := s.gridRef, vc := 0, type := 5, slots := 1, hops := 0, job := s.job c
             body := .control (s.ctx c).fired 0 0 0 (s.rank c) (s.ctx c).step.code 0 0 })) ∧
       ((s.ctx c).enabled = false ∨ (s.treeLinks c).contains rank = false → exec (.heartbeatTimer c rank) s = .next s) ∧
       (s.isMine p = true → exec (.heartbeat p) s = .next s) ∧
       (s.isMine p = false → p.type = 5 → p.hops < 8 → p.vc = 0 →
         exec (.heartbeat p) s = .next (s.sendPacket { p with hops := p.hops + 1 })) ∧
       (∀ pos t0 tag, (s.ctx c).coneAt = some (pos, t0, tag) →
         (s.prevDelivered c = true ∨ (s.ctx c).heldTold = true ∨ s.datum < t0 + 10000000 → exec (.tallyHeld c) s = .next s) ∧
         (s.prevDelivered c = false → (s.ctx c).heldTold = false → t0 + 10000000 ≤ s.datum → (s.ctx c).step = .running →
           Completes (.tallyHeld c) s fun t =>
             CtxEvent c 0 0x0608 (s.step c <<< 64) s t ∧ (t.ctx c).heldTold = true ∧ (t.ctx c).step = .running ∧
             Keeps [.ctxs, .log, .host] s t ∧ OnlyCtx c s t))) ∧
  (∀ (c : Nat) (p : Packet) (s : State) (step d orig code rank v cx : Nat),
       let x := s.ctx c
       (s.control p 6 = some (c, step, d, orig, code, rank, v, cx) → s.rank c = 0 →
         ((x.digests.any fun e => e.1 == rank && e.2.1 == step) = false →
           ((x.digests.filter fun e => e.2.1 == step).length + 1 < s.members c →
             exec (.digest p) s = .next (s.setCtx c { x with digests := x.digests ++ [(rank, step, v)] })) ∧
           (∀ w, s.members c = 2 → rank = 1 → w ≠ v → x.digests = [(0, step, w)] →
             Completes (.digest p) s fun t =>
               (t.ctx c).digests = [] ∧ CtxEvent c 0 0x0607 (1 + (1 <<< 32) + (c <<< 48) + ((step % 2 ^ 64) <<< 64)) s t ∧
               Keeps [.ctxs, .ports, .out, .log, .host] s t ∧ OnlyCtx c s t)) ∧
         ((x.digests.any fun e => e.1 == rank && e.2.1 == step) = true → exec (.digest p) s = .next s)) ∧
       (s.control p 6 = some (c, step, d, orig, code, rank, v, cx) → s.rank c ≠ 0 → code = 0x0607 →
         (rank = treeParent (s.rank c) → Completes (.digest p) s fun t =>
           CtxEvent c 0 0x0607 (v % 2 ^ 32 + ((orig % 65536) <<< 32) + (c <<< 48) + ((step % 2 ^ 64) <<< 64)) s t ∧
           Keeps [.ctxs, .ports, .out, .log, .host] s t ∧ OnlyCtx c s t) ∧
         (rank ≠ treeParent (s.rank c) → exec (.digest p) s = .next s)) ∧
       (s.control p 6 = some (c, step, d, orig, code, rank, v, cx) → s.rank c ≠ 0 → code ≠ 0x0607 →
         exec (.digest p) s = .next (s.sendPacket { p with dest := s.gridOf c (treeParent (s.rank c)), src := s.gridRef, hops := 0 })) ∧
       (x.checkDue = [] → exec (.automaticCheckLine c) s = .next s) ∧
       (∀ n v rest, s.pwr.life = .ready → x.enabled = true → x.checkDue = (n, v) :: rest → s.rank c = 0 → 1 < s.members c → x.digests = [] →
         exec (.automaticCheckLine c) s = .next (s.setCtx c { x with checkDue := rest, digests := [(0, n, v)] })))

/-! ### Packets of collectives and queues (R98, R329 to R331, R337) -/

/-- A READY, DATA, FINISH, QUEUE_DATA or QUEUE_CREDIT for this module, from a member of a job that a context here holds (R298, R317).
Behind the context's step or attempt, it is discarded and counted, with event 0x0546 at most once per port per millisecond (R331). A
READY that is ahead, or whose collective has not started here, is recorded; a current one meets its collective and carries it on, as
current DATA and FINISH do. An epoch that differs from the collective's aborts it with 0x0540, a READY that disagrees with it with
0x0542, and the step is voided (R329, R337). DATA that leaves its peer's stream incomplete is kept, and its collective waits on; the
FINISH of the last peer completes the collective (R329; told for an ALL_GATHER of two members). Current
QUEUE_DATA lands in its slot and fills it; current QUEUE_CREDIT gives credits back (R98). -/
def Obligations.FabricDataIsTaken : Prop :=
  ∀ (p : Packet) (s : State) (c rank seq tag attempt step epoch : Nat), s.pwr.life = .ready → s.isMine p = true →
    s.jobPacket p = some (c, rank) →
    let x := s.ctx c
    let port := (primaryOf (s.route p.src)).getD 0
    let stale (i : Instr) : Prop := s.age c step attempt = .behind →
      ((s.port port).stale = none →
        Completes i s fun t => CtxEvent c 0 0x0546 (1 + (port <<< 32)) s t ∧ Keeps [.ctxs, .ports, .log, .host] s t ∧ OnlyCtx c s t ∧
          t.port port = { s.port port with stale := some (s.datum, 0) } ∧ OnlyPort port s t) ∧
      (∀ t0 n, (s.port port).stale = some (t0, n) → s.datum < t0 + 1000000 →
        exec i s = .next (s.setPort port { s.port port with stale := some (t0, n + 1) }))
    let carries (i : Instr) (k : Coll) (w : WinOp) (s' : State) (body : Op Bool) : Prop :=
      let start := startColl s' { ctx := c, pos := k.pos } w
      ∀ r, (body.run start = (.ok true, r) → r.writes = 0 → r.events = [] → Released r.s c w →
          Completes i s fun t => t.winOp c k.pos = none ∧ (t.ctx c).coll k.pos = none ∧
            (w.desc.field 3 1 % 2 = 1 → Completion c w 0 (completionPayload r) r.s.datum t) ∧ Keeps [.ctxs, .kilns] r.s t ∧ OnlyCtx c r.s t) ∧
        (body.run start = (.ok false, r) →
          Completes i s fun t => (∀ v ∈ (t.ctx c).window, v.pos = k.pos → v.wait = some .collective) ∧
            (t.ctx c).window.map (·.pos) = (r.s.ctx c).window.map (·.pos) ∧ Keeps [.ctxs, .kilns] r.s t ∧ OnlyCtx c r.s t)
    (∀ opcode sb rb start, p.type = 0x20 → p.body = .ready seq tag attempt step epoch opcode sb rb start →
      let e : EarlyReady := { tag := tag, seq := seq, rank := rank, opcode := opcode, sendBytes := sb, recvBytes := rb, start := start,
                              epoch := epoch, step := step, attempt := attempt }
      stale (.ready p) ∧
      (s.age c step attempt = .ahead ∨ (s.age c step attempt = .current ∧ x.collOf tag seq = none) →
        (x.earlyReady.length < 64 → exec (.ready p) s = .next (s.setCtx c { x with earlyReady := x.earlyReady ++ [e] })) ∧
        (64 ≤ x.earlyReady.length →
          exec (.ready p) s = .next (s.setPort port { s.port port with vc1wait := (s.port port).vc1wait ++ [p] }))) ∧
      (∀ k w, s.age c step attempt = .current → x.collOf tag seq = some k → s.winOp c k.pos = some w → w.st = .running →
        (∀ u, s.matchReady c k e = .ok u → carries (.ready p) k w u (readyPass rank start)) ∧
        (∀ code payload, s.matchReady c k e = .error (code, payload) → x.enabled = true → x.step = .running → x.loading = false →
          (∀ o ∈ x.window, o.adderExc = 0) →
          Completes (.ready p) s fun t =>
            CtxEvent c k.pos code payload s t ∧ (t.ctx c).step = .voiding ∧ (t.ctx c).window = [] ∧ (t.ctx c).colls = [] ∧
            (t.ctx c).fired = x.fired ∧ Keeps [.ctxs, .kilns, .setter, .ports, .out, .discards, .log, .host] s t ∧ OnlyCtx c s t))) ∧
    (∀ offset bs, p.type = 0x21 → p.body = .data seq tag attempt step epoch offset bs →
      stale (.data p) ∧
      (s.age c step attempt = .current → x.collOf tag seq = none → exec (.data p) s = .next s) ∧
      (∀ k w, s.age c step attempt = .current → x.collOf tag seq = some k → s.winOp c k.pos = some w → w.st = .running →
        (epoch = k.epoch →
          carries (.data p) k w (s.modColl c k.pos fun k =>
            { k.modPeer rank (fun q =>
                { q with got := q.got + bs.length, buf := Memory.putBytes q.buf offset bs, marks := q.marks ++ [(q.got + bs.length, k.clock)] })
              with clock := k.clock + 1 }) collPass) ∧
        (epoch ≠ k.epoch → x.enabled = true → x.step = .running → x.loading = false → (∀ o ∈ x.window, o.adderExc = 0) →
          Completes (.data p) s fun t =>
            CtxEvent c k.pos 0x0540 (k.who rank + (epoch <<< 64) + (k.epoch <<< 96)) s t ∧ (t.ctx c).step = .voiding ∧
            (t.ctx c).window = [] ∧ (t.ctx c).colls = [] ∧ (t.ctx c).fired = x.fired ∧
            Keeps [.ctxs, .kilns, .setter, .ports, .out, .discards, .log, .host] s t ∧ OnlyCtx c s t)) ∧
      (∀ k w pr, s.age c step attempt = .current → x.collOf tag seq = some k → x.coll k.pos = some k → s.winOp c k.pos = some w → w.st = .running →
        opcodeOf w.desc = 0x42 → epoch = k.epoch → k.peers = [pr] → pr.rank = rank → pr.ready = false → pr.finSent = false →
        pr.got + bs.length < pr.recvBytes →
        Completes (.data p) s fun t =>
          (∃ k', (t.ctx c).coll k.pos = some k' ∧ k'.clock = k.clock + 1 ∧ k'.peers =
            [{ pr with got := pr.got + bs.length, buf := Memory.putBytes pr.buf offset bs, marks := pr.marks ++ [(pr.got + bs.length, k.clock)] }]) ∧
          (∃ w', t.winOp c k.pos = some w' ∧ w'.wait = some .collective) ∧ Keeps [.ctxs, .kilns] s t ∧ OnlyCtx c s t)) ∧
    (∀ placed, p.type = 0x22 → p.body = .finish seq tag attempt step epoch placed →
      stale (.finish p) ∧
      (s.age c step attempt = .current → x.collOf tag seq = none → exec (.finish p) s = .next s) ∧
      (∀ k w, s.age c step attempt = .current → x.collOf tag seq = some k → s.winOp c k.pos = some w → w.st = .running →
        carries (.finish p) k w (s.modColl c k.pos fun k => k.modPeer rank fun q => { q with finGot := true }) collPass) ∧
      (∀ k w pr, s.age c step attempt = .current → x.collOf tag seq = some k → x.coll k.pos = some k → s.winOp c k.pos = some w → w.st = .running →
        opcodeOf w.desc = 0x42 → k.opcode = 0x42 → k.peers = [pr] → pr.rank = rank → pr.finSent = true → pr.sent = true → k.events = [] →
        s.blk 4 0x38 = 0 → Released s c w →
        Completes (.finish p) s fun t =>
          t.winOp c k.pos = none ∧ (t.ctx c).coll k.pos = none ∧ Keeps [.ctxs, .kilns] s t ∧ OnlyCtx c s t)) ∧
    (∀ queue number offset bs, p.type = 0x28 → p.body = .queueData queue attempt step number offset bs →
      stale (.queueData p) ∧
      (∀ q, s.age c step attempt = .current → s.queueRec c queue = some q → q.recv = true → q.peer = rank → s.upsets = [] → bs ≠ [] →
        let e := x.queue queue
        let n := e.releases + (number + 65536 - e.releases % 65536) % 65536
        let a := bits (q.slot n) 0 40 + offset
        inMemory a bs.length = true → inMemory (s.pg c 0x078 + 32 * queue) 32 = true → s.trayOf (q.slot n) = none →
        Completes (.queueData p) s fun t =>
          Memory.getBytes t.mem a bs.length = bs ∧ MemoryOutside a bs.length s t ∧
          alook n ((t.ctx c).queue queue).arrived = some ((alook n e.arrived).getD 0 + bs.length) ∧
          (bs.length < 16352 ∨ q.slotBytes ≤ (alook n e.arrived).getD 0 + bs.length →
            alook n ((t.ctx c).queue queue).sizes = some ((alook n e.arrived).getD 0 + bs.length)) ∧
          ((t.ctx c).queue queue).recvs = e.recvs ∧ Keeps [.ctxs, .mem] s t ∧ OnlyCtx c s t)) ∧
    (∀ queue number credits, p.type = 0x29 → p.body = .queueCredit queue attempt step number credits →
      stale (.queueCredit p) ∧
      (s.age c step attempt = .current →
        exec (.queueCredit p) s =
          .next (s.setCtx c (x.setQueue { x.queue queue with credits := (x.queue queue).credits + credits }))))

/-! ### Flits, lanes and ports (R296 to R311) -/

/-- R301, R296: a flit with an uncorrectable codeword or a bad CRC is counted on the lanes it came by and does nothing else, but that one
replay request asks for what follows the last in-order data flit, also after a data flit of another sequence than the one awaited. A good
data flit is counted and its header taken; a packet that it completes acts as that packet's command, and one not yet whole waits for its
other slots (R297). An idle flit brings credits and an ack, which takes acked flits off the replay buffer; a replay request has every
later one sent again as it was, with a fresh ack; the ack timer sends an idle flit with the slots freed. An ack of a flit never sent
(cause 5) or eight replays without progress (cause 1) are a link failure (R303). Told for a port with no packet waiting whose lanes stay
below their error limits.
R303, R304: a port spares one lane of four, tells the far end, runs DEGRADED, and raises 0x0501, for a lane that lost sync or reached an
error limit; lane control from the far end drops the same lane, once. A lane that fails among three (cause 3), two lanes that lose sync
(cause 4) and no flit for FAB_LINK_TIMEOUT (cause 2) are a link failure: DOWN, event 0x0502. Told for a port with nothing to send and no
job over it. -/
def Obligations.LinksCarryFlits : Prop :=
  (∀ (p : Nat) (f : Flit) (h : FlitHdr) (rx : RxReport) (s : State), s.pwr.life = .ready → (s.port p).linked = true →
       (s.port p).waiting = [] → (s.port p).vc1wait = [] →
       let x := s.port p
       let oldest := (x.replay.head?.map (·.seq)).getD x.txSeq
       let acked (h : FlitHdr) := if h.ackValid then (h.ack % 4096 + 4097 - oldest) % 4096 else 0
       let headed (h : FlitHdr) (y : Port) : Port :=
         { y with credits := (List.zipWith (· + ·) x.credits h.credits).zipWith min [64, 16384, 8192, 64], replay := x.replay.drop (acked h),
                  stuck := if acked h = 0 then x.stuck else 0 }
       let seen := x.laneReport rx
       let counted : Port :=
         { x with laneCs := x.laneCs.mapIdx fun i n => satAdd 64 n (((seen.filter (·.1 == i)).map (·.2.1)).sum),
                  laneUcw := x.laneUcw.mapIdx fun i n => satAdd 32 n (((seen.filter (·.1 == i)).map (·.2.2)).sum),
                  recent := (x.recent.filter fun e => decide (s.datum < e.1 + 1000000)) ++
                    (seen.filter fun e => e.2 != (0, 0)).map fun e => (s.datum, e),
                  rxTurn := nextTurn x.lanes x.rxTurn, eyeHeight := (rx.eye.getD (x.eyeHeight, x.eyeWidth)).1,
                  eyeWidth := (rx.eye.getD (x.eyeHeight, x.eyeWidth)).2 }
       let ack := (x.rxSeq + 4095) % 4096
       let bare (kind : Nat) (y : Port) (t : State) : Prop :=
         t.port p = { y with freed := [0, 0, 0, 0], unacked := 0, txTurn := nextTurn x.lanes x.txTurn, blocks := x.nextBlocks.2 } ∧
         Sent (.flit p x.nextBlocks.1 { kind := kind, hdr := { credits := x.freed, ack := ack, ackValid := true } }) t ∧
         Keeps [.ports, .out] s t ∧ OnlyPort p s t
       let broken := (∃ e ∈ rx.errors, fecCorrected e = none) ∨ rx.crcOk = false
       let fails (i : Instr) (cause : Nat) : Prop := s.enabledCtxs = [] → Completes i s fun t =>
         (t.port p).st = .down ∧ (t.port p).replay = [] ∧ (t.port p).linkFailures = satAdd 16 x.linkFailures 1 ∧
         ModEvent 0x0502 (p + (6 <<< 8) + (cause <<< 16)) t ∧
         Keeps [.ports, .log, .host, .dat, .datum, .draw, .banks, .discards, .tier] s t ∧ OtherPorts p s t
       let again (y : Port) (t : State) : Prop :=
         t.port p = { y with replays := satAdd 32 x.replays 1, replaysEver := x.replaysEver + 1, stuck := y.stuck + 1,
                             unacked := if y.replay = [] then x.unacked else 0, txTurn := (afterFlits x y.replay.length).txTurn
                             blocks := (afterFlits x y.replay.length).blocks } ∧
         t.out = (y.replay.mapIdx fun i g => Output.flit p (afterFlits x i).nextBlocks.1
           { kind := 0, seq := g.seq, hdr := { credits := g.hdr.credits, ack := ack, ackValid := true }, pieces := g.pieces }).reverse ++ s.out ∧
         Keeps [.ports, .out] s t ∧ OnlyPort p s t
       (x.replay ≠ [] → x.stuck < 7 → Completes (.replayTimeout p) s (again x)) ∧
       (x.replay ≠ [] → 7 ≤ x.stuck → fails (.replayTimeout p) 1) ∧
       (x.replay = [] → exec (.replayTimeout p) s = .next s) ∧
       (0 < x.unacked ∨ (∃ n ∈ x.freed, n ≠ 0) → Completes (.ackTimer p) s (bare 1 x)) ∧
       (x.unacked = 0 → (∀ n ∈ x.freed, n = 0) → exec (.ackTimer p) s = .next s) ∧
       ((∀ i, i < 4 → (s.setPort p counted).laneOver p i = false) →
         (broken → x.asking = false → Completes (.dataFlit p f rx) s (bare 2 { counted with asking := true })) ∧
         (broken → x.asking = true → exec (.dataFlit p f rx) s = .next (s.setPort p counted)) ∧
         (broken → exec (.idleFlit p h rx) s = .next (s.setPort p counted) ∧ exec (.replayRequest p h rx) s = .next (s.setPort p counted)) ∧
         (¬ broken → f.seq ≠ x.rxSeq → x.asking = false → Completes (.dataFlit p f rx) s (bare 2 { counted with asking := true })) ∧
         (¬ broken → f.seq = x.rxSeq → acked f.hdr ≤ x.replay.length → ∀ q, f.pieces = [q] →
           let y : Port := { headed f.hdr counted with rxSeq := (x.rxSeq + 1) % 4096, unacked := x.unacked + 1, asking := false,
                                                       flitsRx := (x.flitsRx + 1) % 2 ^ 64 }
           (q.first = 0 → q.count < q.pkt.slots → x.unacked + 1 < 32 →
             exec (.dataFlit p f rx) s = .next (s.setPort p
               (Port.countStalls { y with partials := (x.partials.filter fun z => z.1 != q.pkt) ++ [(q.pkt, q.count)] } s.datum))) ∧
           (q.first = 0 → q.pkt.slots ≤ q.count → x.usable = true → s.isMine q.pkt = true → s.readyWaits q.pkt = false →
             ∀ row ∈ [(1, Instr.bent), (2, .abort), (3, .fire), (4, .void), (5, .heartbeat), (6, .digest), (7, .lost), (0x18, .trayReadRequest),
                      (0x19, .trayReadResponse), (0x1A, .trayWrite), (0x20, .ready), (0x21, .data), (0x22, .finish), (0x28, .queueData),
                      (0x29, .queueCredit)],
               q.pkt.type = row.1 → ∀ t',
                 exec (row.2 q.pkt) (s.setPort p { y with
                   partials := x.partials.filter fun z => z.1 != q.pkt
                   freed := modAt x.freed q.pkt.vc fun n => n + q.pkt.slots }) = .next t' →
                 (∀ i, i < 4 → t'.laneOver p i = false) →
                 Completes (.dataFlit p f rx) s fun t => Keeps [.ports, .out] t' t ∧ OnlyPort p t' t)) ∧
         (¬ broken → acked h ≤ x.replay.length →
           exec (.idleFlit p h rx) s = .next (s.setPort p ((headed h counted).countStalls s.datum))) ∧
         (¬ broken → x.replay.length < acked h → fails (.idleFlit p h rx) 5 ∧ fails (.replayRequest p h rx) 5) ∧
         (¬ broken → acked h ≤ x.replay.length → (headed h x).stuck < 7 →
           Completes (.replayRequest p h rx) s (again (headed h counted))) ∧
         (¬ broken → acked h ≤ x.replay.length → 7 ≤ (headed h x).stuck → fails (.replayRequest p h rx) 1))) ∧
  (∀ (p lane sync : Nat) (h : FlitHdr) (s : State), s.pwr.life = .ready → (s.port p).linked = true → (s.port p).waiting = [] →
       (s.port p).replay = [] → s.enabledCtxs = [] → lane < 4 → sync < 16 →
       let x := s.port p
       let fails (i : Instr) (cause : Nat) : Prop := Completes i s fun t =>
         (t.port p).st = .down ∧ (t.port p).lanes = 0 ∧ (t.port p).linkFailures = satAdd 16 x.linkFailures 1 ∧
         ModEvent 0x0502 (p + (6 <<< 8) + (cause <<< 16)) t ∧
         Keeps [.ports, .log, .host, .dat, .datum, .draw, .banks, .discards, .tier] s t ∧ OtherPorts p s t
       let spares (t : State) (found : Nat) : Prop :=
         (t.port p).lanes = 15 - 2 ^ lane ∧ (t.port p).st = (if x.st = .up then .degraded else x.st) ∧
         (t.port p).spares = satAdd 16 x.spares 1 ∧ (t.port p).neighbour = x.neighbour ∧
         ModEvent 0x0501 (p + (lane <<< 8) + (found <<< 16)) t ∧ OnlyPort p s t
       let failing := sync = 2 ^ lane ∨ (sync = 0 ∧ s.laneOver p lane = true)
       fails (.linkTimeout p) 2 ∧
       (2 ≤ laneCount sync → fails (.laneFailure p lane sync) 4) ∧
       (failing → x.lanes.testBit lane = true → laneCount x.lanes ≤ 3 → fails (.laneFailure p lane sync) 3) ∧
       (failing → x.lanes = 15 → Completes (.laneFailure p lane sync) s fun t =>
         spares t 1 ∧
         Sent (.flit p ({ x with lanes := 15 - 2 ^ lane, txTurn := 0 } : Port).nextBlocks.1
           { kind := 3, hdr := { credits := x.freed, ack := (x.rxSeq + 4095) % 4096, ackValid := true }, mask := 15 - 2 ^ lane }) t ∧
         (t.port p).laneSync = x.laneSync.mapIdx (fun i n => if i = lane ∧ sync ≠ 0 then satAdd 16 n 1 else n) ∧
         Keeps [.ports, .out, .log, .host, .ctxs] s t) ∧
       (sync = 0 → s.laneOver p lane = false → Completes (.laneFailure p lane sync) s fun t =>
         t.port p = x ∧ Keeps [.ports] s t ∧ OnlyPort p s t) ∧
       ((∀ i, i < 4 → s.laneOver p i = false) → h.ackValid = false →
         (x.lanes = 15 → Completes (.laneControl p h (15 - 2 ^ lane) {}) s fun t => spares t 0 ∧ Keeps [.ports, .log, .host, .ctxs] s t) ∧
         (x.lanes = 15 - 2 ^ lane → Completes (.laneControl p h (15 - 2 ^ lane) {}) s fun t =>
           (t.port p).lanes = x.lanes ∧ (t.port p).st = x.st ∧ (t.port p).spares = x.spares ∧ (t.port p).replay = [] ∧
           Keeps [.ports] s t ∧ OnlyPort p s t)))

/-- R307: enable and retrain take a port into TRAINING, on all four lanes and with nothing held, but for one in TRAINING already and for
an UP or DEGRADED one that carries a route of an enabled job (event 0x0509); disable takes it to DISABLED under the same rule. Training
ends in TRAVERSE on four or three lanes, and in DOWN with event 0x0505 on fewer; a DOWN port retrains after the interval, unless that
is 0; training patterns from the far end bring a port to TRAINING, a linked one through a link failure of cause 6. Told for a port
with no packet waiting.
R309 to R311: a HELLO is kept, and judged by the rules of R311 in their order. In TRAVERSE a rule that fails quarantines the port with
its reason (event 0x0503), and no packet waits on it any more; with no grid reference known the port stays; when every rule passes, the
port comes up, 0x0504, once the neighbour passes too. In UP or DEGRADED the same identity and reference change nothing else. The timer
sends this module's own HELLO, with its identity, versions 2.3 and 2.0, its port and whether its check has passed. -/
def Obligations.PortsTraverse : Prop :=
  (∀ (p lanes h w delay : Nat) (offset : Int) (s : State), s.pwr.life = .ready → (s.port p).waiting = [] → s.portRuns p = true →
       let x := s.port p
       let cleared (t : State) : Prop :=
         (t.port p).txSeq = 0 ∧ (t.port p).rxSeq = 0 ∧ (t.port p).replay = [] ∧ (t.port p).credits = [64, 16384, 8192, 64] ∧
         (t.port p).neighbour = none ∧ (t.port p).passed = false ∧ (t.port p).lanes = 0 ∧ OtherPorts p s t
       let trains (i : Instr) : Prop := Completes i s fun t => (t.port p).st = .training ∧ cleared t ∧ Sent (.lanes p 1) t
       let held : Prop := x.usable = true ∧ s.carriesJob p = true
       (x.st ≠ .training → ¬ held → trains (.portEnable p) ∧ trains (.portRetrain p)) ∧
       (x.st = .training → exec (.portEnable p) s = .next s ∧ exec (.portRetrain p) s = .next s) ∧
       (held →
         (∀ i, i = .portEnable p ∨ i = .portRetrain p → Completes i s fun t => ModEvent 0x0509 (p + (1 <<< 8)) t ∧ Keeps [.log, .host] s t) ∧
         Completes (.portDisable p) s fun t => ModEvent 0x0509 (p + (2 <<< 8)) t ∧ Keeps [.log, .host] s t) ∧
       (x.st ≠ .disabled → ¬ held →
         Completes (.portDisable p) s fun t => (t.port p).st = .disabled ∧ cleared t ∧ Sent (.lanes p 0) t) ∧
       (x.st = .disabled → exec (.portDisable p) s = .next s) ∧
       (x.st = .training → 3 ≤ laneCount lanes →
         exec (.trainingEnd p lanes h w offset delay) s = .next (s.setPort p
           { x with st := .traverse, lanes := lanes % 16, eyeHeight := h, eyeWidth := w, offset := offset, delay := delay }) ∧
         exec (.trainingTimeout p lanes) s = .next s) ∧
       (x.st = .training → laneCount lanes < 3 →
         ∀ i, i = .trainingEnd p lanes h w offset delay ∨ i = .trainingTimeout p lanes → Completes i s fun t =>
           (t.port p).st = .down ∧ cleared t ∧ ModEvent 0x0505 (p + ((lanes % 16) <<< 8)) t) ∧
       (x.st ≠ .training → exec (.trainingEnd p lanes h w offset delay) s = .next s ∧ exec (.trainingTimeout p lanes) s = .next s) ∧
       (x.st = .down → s.blk 4 0x28 ≠ 0 → trains (.retrainInterval p)) ∧
       (x.st ≠ .down ∨ s.blk 4 0x28 = 0 → exec (.retrainInterval p) s = .next s) ∧
       (x.st = .down → trains (.trainingPatternReceived p)) ∧
       (x.linked = true → s.enabledCtxs = [] → Completes (.trainingPatternReceived p) s fun t =>
         (t.port p).st = .training ∧ cleared t ∧ (t.port p).linkFailures = satAdd 16 x.linkFailures 1 ∧
         ModEvent 0x0502 (p + (6 <<< 8) + (6 <<< 16)) t) ∧
       (x.st = .disabled ∨ x.st = .training → exec (.trainingPatternReceived p) s = .next s)) ∧
  (∀ (p : Nat) (q : Packet) (s : State) (ident hport lanes version least grid expect expectPort status : Nat), s.pwr.life = .ready →
       q.type = 0x10 → q.body = .hello ident hport lanes version least grid expect expectPort status → (s.port p).waiting = [] →
       let x := s.port p
       let map := s.blk 4 (0x180 + 8 * p)
       let comes : Prop := ident ≠ s.trust.serial ∧ compatible version least = true ∧ map.testBit 17 = true
       let quarantines (r : Nat) : Prop := Completes (.hello p q) s fun t =>
         t.port p = { x with neighbour := some q, st := .quarantined, reason := r, passed := false,
                             quarantines := satAdd 16 x.quarantines 1 } ∧
         ModEvent 0x0503 (quarantinePayload p r q.body) t ∧ Keeps [.ports, .log, .host] s t ∧ OnlyPort p s t
       (x.st = .traverse → s.trust.serial ≠ 0 → s.gridValid = true →
         (ident = s.trust.serial → quarantines 1) ∧
         (ident ≠ s.trust.serial → compatible version least = false → quarantines 2) ∧
         (ident ≠ s.trust.serial → compatible version least = true → map.testBit 17 = false → quarantines 3) ∧
         (comes → grid.testBit 15 = false →
           exec (.hello p q) s = .next (s.setPort p { x with neighbour := some q, passed := false })) ∧
         (comes → grid.testBit 15 = true → grid % 2 ^ 14 = s.gridRef → quarantines 5) ∧
         (comes → grid.testBit 15 = true → grid % 2 ^ 14 ≠ s.gridRef → (grid % 2 ^ 14 ≠ bits map 0 14 ∨ hport ≠ bits map 14 3) →
           quarantines 4) ∧
         (comes → grid.testBit 15 = true → grid % 2 ^ 14 ≠ s.gridRef → grid % 2 ^ 14 = bits map 0 14 → hport = bits map 14 3 →
           (status.testBit 0 = true → Completes (.hello p q) s fun t =>
             (t.port p).st = (if laneCount x.lanes = 4 then .up else .degraded) ∧ (t.port p).passed = true ∧ (t.port p).reason = 0 ∧
             ModEvent 0x0504 (p + ((x.lanes % 16) <<< 8)) t ∧ Keeps [.ports, .log, .host, .ctxs] s t ∧ OnlyPort p s t ∧
             (∀ c, t.ctx c = { s.ctx c with degraded := (t.ctx c).degraded })) ∧
           (status.testBit 0 = false →
             exec (.hello p q) s = .next (s.setPort p { x with neighbour := some q, passed := true })))) ∧
       (x.usable = true → (∀ o, x.neighbour = some o → helloId o.body = helloId q.body) → x.neighbour ≠ none →
         exec (.hello p q) s = .next (s.setPort p { x with neighbour := some q })) ∧
       (x.st = .disabled ∨ x.st = .down ∨ x.st = .training → exec (.hello p q) s = .next s) ∧
       (x.linked = true → 1 ≤ x.credits.getD 3 0 → x.replay.length < 2048 →
         Completes (.helloTimer p) s fun t =>
           (t.port p).txSeq = (x.txSeq + 1) % 4096 ∧ (t.port p).replay.length = x.replay.length + 1 ∧ (t.port p).waiting = [] ∧
           (t.port p).credits.getD 3 0 = x.credits.getD 3 0 - 1 ∧ (t.port p).st = x.st ∧
           let hi : Packet :=
             { dest := 0, src := if s.gridValid then s.gridRef else 0, vc := 3, type := 0x10, slots := 1, hops := 0, job := 0,
               body := .hello s.trust.serial p x.lanes 0x0203 0x0200 (if s.gridValid then s.gridRef + 2 ^ 15 else 0)
                 (bits map 0 14 + (if map.testBit 17 then 2 ^ 15 else 0)) (bits map 14 3)
                 ((if x.passed then 1 else 0) + (if x.st = .quarantined then 2 else 0) + ((x.reason % 8) <<< 2)) }
           Sent (.flit p x.nextBlocks.1
             { kind := 0, seq := x.txSeq % 4096, hdr := { credits := x.freed, ack := (x.rxSeq + 4095) % 4096, ackValid := true },
               pieces := [{ pkt := hi, first := 0, count := 1 }] }) t ∧ Output.packet p hi ∈ t.out ∧
           Keeps [.ports, .out] s t ∧ OnlyPort p s t) ∧
       (x.linked = false → exec (.helloTimer p) s = .next s))

/-- R312: a tray read of the scratch range or of a receive queue's slots is answered with the bytes read, and a tray write puts its bytes
there; a range outside them (cause 2), or in reserved space (cause 3), is refused with event 0x0507 and changes no byte, and the job's
step is voided. A response with data changes nothing here; one without tells of the refusal (log entry 20). -/
def Obligations.TrayAccessesAreAnswered : Prop :=
  ∀ (p : Packet) (s : State) (a n c : Nat) (data : List Byte), s.pwr.life = .ready → s.isMine p = true → p.body = .tray a n data →
    s.ctxOfJob p.job = some c → s.upsets = [] →
    let told (code payload : Nat) (t : State) : Prop := (∀ o ∈ (s.ctx c).window, o.adderExc = 0) → ModEvent code payload t
    let stops (t : State) : Prop := (s.ctx c).step = .running → (s.ctx c).loading = false → (s.ctx c).enabled = true →
      (t.ctx c).step = .voiding ∧ (t.ctx c).stopAfter = true ∧ (t.ctx c).fired = (s.ctx c).fired
    (p.type = 0x18 → 0 < n →
      (inMemory a n = true → s.inJobRanges c a n = true →
        exec (.trayReadRequest p) s = .next (s.sendPacket
          { dest := p.src, src := s.gridRef, vc := 1, type := 0x19, slots := max 1 (ceilDiv (16 + n) 64), hops := 0, job := p.job,
            body := .tray a n (Memory.getBytes s.mem a n) })) ∧
      (∀ cause, (if inMemory a n then (if s.inJobRanges c a n then 0 else 2) else 3) = cause → cause ≠ 0 →
        Completes (.trayReadRequest p) s fun t => t.mem = s.mem ∧ stops t ∧
          ((s.portTo p.src false).isSome = true → told 0x0507 (s.gridRef % 8 + (1 <<< 8) + (cause <<< 16) + (a <<< 64)) t))) ∧
    (p.type = 0x1A → data ≠ [] →
      (inMemory a data.length = true → s.inJobRanges c a data.length = true →
        Completes (.trayWrite p) s fun t =>
          Memory.getBytes t.mem a data.length = data ∧ MemoryOutside a data.length s t ∧ Keeps [.mem] s t) ∧
      (∀ cause, (if inMemory a data.length then (if s.inJobRanges c a data.length then 0 else 2) else 3) = cause → cause ≠ 0 →
        Completes (.trayWrite p) s fun t =>
          t.mem = s.mem ∧ told 0x0507 (s.gridRef % 8 + (cause <<< 16) + (a <<< 64)) t ∧ stops t)) ∧
    (p.type = 0x19 →
      (data ≠ [] → exec (.trayReadResponse p) s = .next s) ∧
      (data = [] → 0 < n → Completes (.trayReadResponse p) s fun t =>
        t.mem = s.mem ∧ told 0x0507 (p.src % 8 + (1 <<< 8) + (2 <<< 16) + (a <<< 64)) t ∧ stops t))

/-! ### The datum (R392 to R395) -/

/-! ### Bonded memory (R161 to R186) -/

/-- R168, R169, R172, R173, R176: a burst read corrects what its code can, counts it, and writes back a correction of three or four
symbols; what it cannot correct poisons the granule's four bursts, with event 0x0302. A read of poison on behalf of a step raises 0x0303
and the step is voided. The patrol scrub does the same, for a burst that its pass has not read yet; the last of a die ends the pass. Told
for a burst that no noise meets.
R162, R165, R175: a write of a whole burst puts its 64 bytes with a fresh code; a write of some bytes merges them into the burst as
read, and leaves a poisoned burst as it is. No other byte changes. An access to a reserved range is not performed: event 0x0305, and
the step that it serves is voided. -/
def Obligations.MemoryBursts : Prop :=
  (∀ (addr : Nat) (s : State) (e : Symbols.Pattern), s.pwr.life = .ready →
       let a := addr / 64 * 64
       let g := a / 256 * 256
       let d := (locate a).1
       let ch := (locate a).2.1
       isDie a = true → inMemory a 64 = true → s.serving a = true → s.upset a = e →
       let poisoned (src : PoisonSource) (t : State) : Prop :=
         (∀ b ∈ [g, g + 64, g + 128, g + 192], t.upset b = Symbols.poison) ∧ MemoryOutside g 256 s t ∧
         ModEvent 0x0302 (whereBytes a + (src.code <<< 32) + (g <<< 64)) t ∧
         (t.chan d ch).uncorrectable = satAdd 16 (s.chan d ch).uncorrectable 1
       let corrects (i : Instr) : Prop := ∀ q, Symbols.decode (s.blk 2 0) e = .corrected q → (∀ y ∈ q, y.1 < 72) → q ≠ [] →
         (s.chan d ch).window < s.blk 2 0x8 →
         (q.length ≤ 2 → Completes i s fun t => t.upset a = e ∧ t.mem = s.mem ∧
           (t.chan d ch).corrected = satAdd 32 (s.chan d ch).corrected 1 ∧ (t.chan d ch).window = (s.chan d ch).window + 1 ∧
           Keeps [.setter, .upsets] s t) ∧
         (3 ≤ q.length → Symbols.Pattern.xor e q = [] → Completes i s fun t => t.upset a = [] ∧ (∀ b, Memory.get t.mem b = Memory.get s.mem b) ∧
           (t.chan d ch).corrected = satAdd 32 (s.chan d ch).corrected 1 ∧ Keeps [.setter, .upsets, .mem] s t)
       (e = [] → exec (.burstRead addr none []) s = .next s) ∧
       (e ≠ [] → e.clean = e → e ≠ Symbols.poison →
         corrects (.burstRead addr none []) ∧
         (Symbols.decode (s.blk 2 0) e = .uncorrectable →
           Completes (.burstRead addr none []) s fun t => poisoned .read t ∧ Keeps [.setter, .upsets, .mem, .log, .host] s t)) ∧
       (e = Symbols.poison →
         (Completes (.burstRead addr none []) s fun t => t.mem = s.mem ∧ t.upset a = Symbols.poison ∧ Keeps [.upsets] s t) ∧
         (∀ c pos, (s.ctx c).step = .running → (s.ctx c).enabled = true → (s.ctx c).loading = false →
           (s.ctx c).memTold.contains (pos, 0x0303) = false → (∀ o ∈ (s.ctx c).window, o.adderExc = 0) →
           Completes (.burstRead addr (some (c, pos)) []) s fun t =>
             CtxEvent c pos 0x0303 (poisonPayload a pos) s t ∧ (t.ctx c).step = .voiding ∧ (t.ctx c).fired = (s.ctx c).fired ∧ t.mem = s.mem ∧
             OnlyCtx c s t)) ∧
       let pass (u : Setter) := if d = 0 then u.scrubbed0 else u.scrubbed1
       let seen : Prop := ∃ y ∈ pass s.setter, y.1 ≤ a ∧ a < y.2
       (seen → exec (.patrolScrubRead addr []) s = .next s) ∧
       (s.pwr.current = 0 → ¬ seen →
         let l := addRange a (pass s.setter)
         let last := decide (l = [(dieStart d, dieEnd d)])
         let passes (u : Setter) := if d = 0 then u.scrub0 else u.scrub1
         let scrubbed (t : State) : Prop := pass t.setter = (if last then [] else l) ∧
           passes t.setter = (passes s.setter + if last then 1 else 0) % 2 ^ 32 ∧
           (d = 0 → t.setter.scrubbed1 = s.setter.scrubbed1 ∧ t.setter.scrub1 = s.setter.scrub1) ∧
           (d ≠ 0 → t.setter.scrubbed0 = s.setter.scrubbed0 ∧ t.setter.scrub0 = s.setter.scrub0)
         (e = [] → Completes (.patrolScrubRead addr []) s fun t => scrubbed t ∧ Keeps [.setter] s t) ∧
         (e ≠ [] → e.clean = e → e ≠ Symbols.poison →
           corrects (.patrolScrubRead addr []) ∧
           (Symbols.decode (s.blk 2 0) e = .uncorrectable →
             Completes (.patrolScrubRead addr []) s fun t => scrubbed t ∧ poisoned .scrub t ∧ Keeps [.setter, .upsets, .mem, .log, .host] s t))) ∧
       (s.pwr.current ≠ 0 → exec (.patrolScrubRead addr []) s = .next s)) ∧
  (∀ (addr mask : Nat) (img : List Byte) (s : State), s.pwr.life = .ready →
       let a := addr / 64 * 64
       (inMemory a 64 = true → s.serving a = true →
         (mask % 2 ^ 64 = 2 ^ 64 - 1 → img.length = 64 →
           Completes (.burstWrite addr mask img none) s fun t =>
             Memory.getBytes t.mem a 64 = img ∧ t.upset a = [] ∧ MemoryOutside a 64 s t ∧ Keeps [.mem, .upsets] s t) ∧
         (mask % 2 ^ 64 ≠ 2 ^ 64 - 1 → s.upset a = [] →
           Completes (.burstWrite addr mask img none) s fun t =>
             (∀ i, i < 64 → Memory.get t.mem (a + i) = if mask.testBit i then img.getD i 0 else Memory.get s.mem (a + i)) ∧
             MemoryOutside a 64 s t ∧ Keeps [.mem, .upsets] s t) ∧
         (mask % 2 ^ 64 ≠ 2 ^ 64 - 1 → isDie a = true → s.upset a = Symbols.poison →
           Completes (.burstWrite addr mask img none) s fun t =>
             t.mem = s.mem ∧ t.upset a = Symbols.poison ∧ Keeps [.upsets] s t)) ∧
       (inMemory a 64 = false →
         (Completes (.burstWrite addr mask img none) s fun t => ModEvent 0x0305 (reservedPayload true addr 0) t ∧ Keeps [.log, .host] s t) ∧
         (Completes (.burstRead addr none []) s fun t => ModEvent 0x0305 (reservedPayload false addr 0) t ∧ Keeps [.log, .host] s t) ∧
         (∀ c pos, (s.ctx c).step = .running → (s.ctx c).enabled = true → (s.ctx c).loading = false →
           (s.ctx c).memTold.contains (pos, 0x0305) = false → (∀ o ∈ (s.ctx c).window, o.adderExc = 0) →
           Completes (.burstWrite addr mask img (some (c, pos))) s fun t =>
             CtxEvent c pos 0x0305 (reservedPayload true addr pos) s t ∧ (t.ctx c).step = .voiding ∧ t.mem = s.mem ∧ OnlyCtx c s t)))

/-- R177, R179, R180, R182: a refresh notes its time. Above 85 degrees the refresh interval halves (0x0A01), and it is whole again after
10 ms at 82 or below; at 105 degrees, or with a faulty sensor (0x0A05), the stack is hard throttled to at most 50 % (0x0A03); at 110 it
trips: both stacks in self-refresh, and a READY module silent. Told for a module whose control firmware runs. Readings are in quarter degrees.
R180, R181, R172: every millisecond the issue level falls by 25 when the stack stands at its soft limit or above and does not cool
down, to 25 at least (0x0A02); three degrees below the limit it rises by 25, to 100, and to 50 while hard throttled; hard throttle
ends below 100 degrees with no faulty sensor. Each change of level is noted for the tally record. The corrected-burst windows of all
channels begin anew together. -/
def Obligations.StacksThrottle : Prop :=
  (∀ (die sensor ch : Nat) (s : State), s.pwr.life ≠ .off → s.booting = false → die < 2 → sensor < 13 → ch < 512 →
       let x := s.stack die
       (x.selfRefresh = false → Completes (.refresh die ch) s fun t =>
         t.chan die ch = { s.chan die ch with refreshed := s.datum } ∧ Keeps [.setter] s t) ∧
       (x.selfRefresh = true → exec (.refresh die ch) s = .next s) ∧
       (∀ t0, x.coolSince = some t0 → x.doubled = true →
         (t0 + 10000000 ≤ s.datum → Completes (.refreshIntervalRestore die) s fun t =>
           t.stack die = { x with doubled := false } ∧ ModEvent 0x0A01 (die + (3900 <<< 32)) t ∧ Keeps [.setter, .log, .host] s t) ∧
         (s.datum < t0 + 10000000 → exec (.refreshIntervalRestore die) s = .next s)) ∧
       (x.coolSince = none ∨ x.doubled = false → exec (.refreshIntervalRestore die) s = .next s) ∧
       (∀ r, (r = none ∨ ∃ v, r = some v ∧ (v < -80 ∨ 520 < v)) →
         (sensor ∈ x.faulty → exec (.layerTemperatureSample die sensor r) s = .next s) ∧
         (sensor ∉ x.faulty → x.hard = false → Completes (.layerTemperatureSample die sensor r) s fun t =>
           t.stack die = { x with faulty := x.faulty ++ [sensor], hard := true, level := min x.level 50 } ∧
           ModEvent 0x0A03 (die + (min x.level 50 <<< 8)) t ∧
           ((t.log.recs.drop 1).head?.map fun q => (q.code, q.body)) = some (0x0A05, (die + (sensor <<< 8)) <<< 128) ∧
           Keeps [.setter, .log, .host] s t) ∧
         (sensor ∉ x.faulty → x.hard = true → Completes (.layerTemperatureSample die sensor r) s fun t =>
           t.stack die = { x with faulty := x.faulty ++ [sensor] } ∧ ModEvent 0x0A05 (die + (sensor <<< 8)) t ∧
           Keeps [.setter, .log, .host] s t)) ∧
       (∀ v : Int, -80 ≤ v → v ≤ 520 →
         let cool (h : Int) : Option Nat := if h ≤ 328 then some (x.coolSince.getD s.datum) else none
         let y : Stack := { x with temps := aset sensor v x.temps, faulty := x.faulty.filter (· != sensor) }
         let hot := y.hottest.2
         let now : Stack := { y with coolSince := cool hot }
         let sample := Instr.layerTemperatureSample die sensor (some v)
         (x.tripped = false → (hot ≤ 340 ∨ (hot < 420 ∧ x.doubled = true)) →
           Completes sample s fun t => t.stack die = now ∧ Keeps [.setter] s t) ∧
         (x.tripped = false → 340 < hot → hot < 420 → x.doubled = false →
           Completes sample s fun t => t.stack die = { now with doubled := true } ∧ ModEvent 0x0A01 (die + (1950 <<< 32)) t ∧
             Keeps [.setter, .log, .host] s t) ∧
         (x.tripped = false → 420 ≤ hot → hot < 440 → x.hard = false →
           Completes sample s fun t => t.stack die = { now with doubled := true, hard := true, level := min x.level 50 } ∧
             ModEvent 0x0A03 (die + (min x.level 50 <<< 8)) t ∧ Keeps [.setter, .log, .host] s t) ∧
         (x.tripped = false → 440 ≤ hot →
           Completes sample s fun t => (t.stack die).tripped = true ∧ (t.stack 0).selfRefresh = true ∧ (t.stack 1).selfRefresh = true ∧
             t.pwr.life = (if s.pwr.life = .ready then .silent else s.pwr.life) ∧ t.host.up0 = false ∧ t.host.up1 = false ∧ t.mem = s.mem ∧ t.ctxs = s.ctxs ∧ t.log.capture.isSome = true ∧
             (∀ q, (t.port q).usable = false ∨ 8 ≤ q)) ∧
         (x.tripped = true → 360 < hot → hot < 420 → x.doubled = true → Completes sample s fun t => t.stack die = now ∧ Keeps [.setter] s t) ∧
         (x.tripped = true → (hot ≤ 340 ∨ (hot ≤ 360 ∧ x.doubled = true)) →
           Completes sample s fun t => (t.stack die).tripped = false ∧ (t.stack die).selfRefresh = x.selfRefresh ∧
             Keeps [.setter, .pwr] s t))) ∧
  (∀ (die : Nat) (s : State),
       (s.pwr.life ≠ .off → s.booting = false → die < 2 →
         let x := s.stack die
         let hot := x.hottest.2
         let soft : Int := 4 * (s.blk 2 0x20 : Nat)
         let hard := x.hard && !(decide (hot < 400) && x.faulty.isEmpty)
         let moves (level : Nat) : Prop := Completes (.throttleEvaluation die) s fun t =>
           t.stack die = { x with level := level, hard := hard, prev := hot } ∧ ModEvent 0x0A02 (die + (level <<< 8)) t ∧
           t.setter.throttles = s.setter.throttles ++ [(s.datum, die, level, 0)] ∧ Keeps [.setter, .log, .host] s t
         (soft ≤ hot → x.prev - 2 ≤ hot → 25 < x.level → moves (x.level - 25)) ∧
         (hot < soft - 12 → x.level < 100 → ¬ (hard = true ∧ 50 ≤ x.level) → moves (x.level + 25)) ∧
         ((hot < soft ∧ (soft - 12 ≤ hot ∨ 100 ≤ x.level ∨ (hard = true ∧ 50 ≤ x.level))) ∨ (soft ≤ hot ∧ (hot < x.prev - 2 ∨ x.level ≤ 25)) →
           Completes (.throttleEvaluation die) s fun t => t.stack die = { x with hard := hard, prev := hot } ∧ Keeps [.setter] s t)) ∧
       (Completes .ceWindowEnd s fun t =>
         (∀ d ch, t.chan d ch = { s.chan d ch with window := 0, told := false }) ∧ t.setter.windowStart = s.datum ∧
         t.setter.layers = s.setter.layers ∧ Keeps [.setter] s t))

/-- R184 to R186: a setter adder adds each addend whose mask bit is set to its lane, in the update's format, and leaves the other lanes
and every other byte; the flags go to its operation, and the lanes that saturate are counted there for event 0x0306 at its end (R190,
R192); with no such operation the event is raised at once. On a poisoned burst nothing is added, and the step is voided with 0x0303.
With STRICT set, an update waits until every lower key of its order domain is closed; with 4,096 domains open, or 65,536 updates held on
the die, it is not accepted. A close lets the held updates in, in increasing key. -/
def Obligations.SetterAddersAdd : Prop :=
  ∀ (u : AdderUpdate) (s : State), s.pwr.life = .ready → u.addr % 64 = 0 → isDie u.addr = true → s.serving u.addr = true →
    let w := laneBytes u.format
    let sum (i : Nat) := laneSum u.format (ofLeBytes (Memory.getBytes s.mem (u.addr + w * i) w)) (u.addends.getD i 0 % 2 ^ (8 * w))
    let x := s.ctx u.ctx
    let exc := ((List.range (64 / w)).filter fun j => u.mask.testBit j && (sum j).2.2).length
    let isOpen := s.setter.domains.any fun d => d.id == u.domain
    let d := s.domain u.domain
    let put (t : State) : Prop :=
      (∀ j, j < 64 / w → Memory.getBytes t.mem (u.addr + w * j) w =
        if u.mask.testBit j then leBytes w (sum j).1 else Memory.getBytes s.mem (u.addr + w * j) w) ∧ MemoryOutside u.addr 64 s t
    let added (i : Instr) : Prop := s.upset u.addr = [] →
      (exc = 0 ∨ (s.winOp u.ctx u.pos).isSome = true → Completes i s fun t =>
        put t ∧ Keeps [.mem, .upsets, .ctxs, .setter] s t ∧ OnlyCtx u.ctx s t ∧
        (∀ v, s.winOp u.ctx u.pos = some v → ∃ n, t.winOp u.ctx u.pos = some { v with
            adderFlags := n, adderExc := v.adderExc + exc, adderFirst := if exc ≠ 0 ∧ v.adderExc = 0 then u.addr else v.adderFirst } ∧
          ∀ j, j < 64 / w → u.mask.testBit j = true → (sum j).2.1.toNat &&& n = (sum j).2.1.toNat)) ∧
      (exc ≠ 0 → s.winOp u.ctx u.pos = none → x.memTold.contains (u.pos, 0x0306) = false → Completes i s fun t =>
        put t ∧ CtxEvent u.ctx u.pos 0x0306 (exc + (u.addr <<< 64)) s t ∧ (t.ctx u.ctx).step = x.step)
    (x.strict = false →
      added (.setterAdderUpdate u) ∧
      (s.upset u.addr = Symbols.poison → x.step = .running → x.enabled = true → x.loading = false →
        x.memTold.contains (u.pos, 0x0303) = false → (∀ o ∈ x.window, o.adderExc = 0) →
        Completes (.setterAdderUpdate u) s fun t =>
          CtxEvent u.ctx u.pos 0x0303 (poisonPayload u.addr u.pos) s t ∧ (t.ctx u.ctx).step = .voiding ∧ t.mem = s.mem ∧ OnlyCtx u.ctx s t)) ∧
    (x.strict = true →
      (isOpen = true →
        (u.key ≤ d.closed → added (.setterAdderUpdate u)) ∧
        (d.closed < u.key → s.heldOn (bits u.addr 39 1) < 65536 → Completes (.setterAdderUpdate u) s fun t =>
          t.domain u.domain = { d with held := d.held ++ [u] } ∧ Keeps [.setter] s t) ∧
        (d.closed < u.key → 65536 ≤ s.heldOn (bits u.addr 39 1) → exec (.setterAdderUpdate u) s = .next s)) ∧
      (isOpen = false → s.setter.domains.length < 4096 →
        (u.key = 0 → added (.setterAdderUpdate u)) ∧
        (0 < u.key → s.heldOn (bits u.addr 39 1) < 65536 → Completes (.setterAdderUpdate u) s fun t =>
          t.domain u.domain = { id := u.domain, held := [u] } ∧ Keeps [.setter] s t)) ∧
      (isOpen = false → 4096 ≤ s.setter.domains.length → exec (.setterAdderUpdate u) s = .next s)) ∧
    (∀ key, let i := u.domain
      let upto := max d.closed (key + 1)
      (isOpen = false → s.setter.domains.length < 4096 → key + 1 < 2 ^ 32 → Completes (.orderKeyClose i key) s fun t =>
        t.domain i = { id := i, closed := key + 1 } ∧ Keeps [.setter] s t) ∧
      (isOpen = false → 4096 ≤ s.setter.domains.length → exec (.orderKeyClose i key) s = .next s) ∧
      (isOpen = true → upto < 2 ^ 32 →
        ((∀ v ∈ d.held, upto < v.key) → Completes (.orderKeyClose i key) s fun t =>
          t.domain i = { d with closed := upto } ∧ Keeps [.setter] s t) ∧
        (∀ v v', d.held = [v, v'] → v.key ≤ upto → v'.key ≤ upto → v'.key < v.key → (∀ c, ∀ o ∈ (s.ctx c).window, o.st ≠ .finished) →
          exec (.orderKeyClose i key) s = .next (((s.setDomain { d with closed := upto, held := [] }).applyAdder v').applyAdder v))))

/-! ### The flash tier (R193 to R218) and waits for pages (R276) -/

/-- R201, R202, R206, R155: a promotion, and a demand miss, put the home's 4,096 bytes into a free frame and the parcel's entry to it;
cleaning gives a dirty copy a new home with its fired contents, and its entry loses the dirty bit; demotion takes the least recently
used clean copy out of DRAM, and its frame goes back to the pool. No other byte changes. A queued promotion of a parcel with a shadow or
a migration is dropped. A migration's copy that lands carries its MIGRATE on (R156), and a page wait that may end carries its
operation on. A demand-missed parcel with a shadow or a migration is lent to the step in a frame of its own, and its entry stays (R201).
Told of cleaning where the home map needs no frame more. -/
def Obligations.ParcelsMoveBetweenTheTiers : Prop :=
  ∀ (c p loc stall : Nat) (s : State) (a : Nat),
    let key := homeKey c p
    let x := s.ctx c
    let dir := s.pg c 0x018 + 8 * (p / 512)
    let apart (f m n : Nat) : Prop := m + n ≤ f ∨ f + 4096 ≤ m
    let promoted (e : PEntry) (h : Home) (f : Nat) (t : State) : Prop :=
      Memory.getBytes t.mem f 4096 = imageBytes h.image ∧
      t.memNat a 8 = PEntry.toNat { where_ := 1, frame := f, step := e.step } ∧
      (∀ b, (b < f ∨ f + 4096 ≤ b) → (b < a ∨ a + 8 ≤ b) → Memory.get t.mem b = Memory.get s.mem b) ∧
      t.tier = { s.tier with promotions := (s.tier.promotions + 1) % 2 ^ 64, lastUse := aset key s.datum s.tier.lastUse
                             promoq := s.tier.promoq.filter (· != key) }
    s.entryAddr c p = some a →
    (∀ e h f s1, s.firedEntry c p = some e → e.where_ = 2 → e.lost = false → alook key s.tier.homes = some h → h.lost = false →
      s.takePool s.poolDie = some (f, s1) → apart f a 8 → apart f dir 8 → s.upsets = [] → inMemory a 8 = true →
      (s.tierRuns = true → s.tier.promoq.contains key = true → s.shadowed c p = false → s.migrating c p = false →
        (x.missing.contains p = false → Completes (.promotion c p) s fun t =>
          promoted e h f t ∧ t.frames0 = s1.frames0 ∧ t.frames1 = s1.frames1 ∧ Keeps [.mem, .upsets, .frames, .tier] s t) ∧
        (∀ t0, x.missing = [p] → alook p x.missedAt = some t0 → Completes (.promotion c p) s fun t =>
          promoted e h f t ∧ (t.ctx c).missing = [] ∧ (t.ctx c).missCount = satAdd 32 x.missCount 1 ∧
          (t.ctx c).missStall = satAdd 64 x.missStall (s.datum - t0) ∧ (∀ w ∈ (t.ctx c).window, w.wait ≠ some .demandMiss) ∧
          Keeps [.mem, .upsets, .frames, .tier, .ctxs] s t ∧ OnlyCtx c s t)) ∧
      (s.pwr.life = .ready → s.tier.mounted = true → x.missing = [p] → (s.shadowed c p = true ∨ s.migrating c p = true) →
        Completes (.demandMiss c p stall) s fun t =>
          Memory.getBytes t.mem f 4096 = imageBytes h.image ∧ MemoryOutside f 4096 s t ∧ (t.ctx c).lent = aset p f x.lent ∧
          (t.ctx c).missing = [] ∧ (t.ctx c).missCount = satAdd 32 x.missCount 1 ∧ Keeps [.mem, .upsets, .frames, .ctxs] s t ∧ OnlyCtx c s t) ∧
      (s.pwr.life = .ready → s.tier.mounted = true → x.missing = [p] → s.shadowed c p = false → s.migrating c p = false →
        Completes (.demandMiss c p stall) s fun t => promoted e h f t ∧ (t.ctx c).missing = [] ∧
          (t.ctx c).missCount = satAdd 32 x.missCount 1 ∧ (t.ctx c).missStall = satAdd 64 x.missStall stall ∧
          (∀ w ∈ (t.ctx c).window, w.wait ≠ some .demandMiss) ∧ Keeps [.mem, .upsets, .frames, .tier, .ctxs] s t ∧ OnlyCtx c s t)) ∧
    (s.tierRuns = true → s.tier.promoq.contains key = true → (s.shadowed c p = true ∨ s.migrating c p = true) →
      exec (.promotion c p) s = .next { s with tier := { s.tier with promoq := s.tier.promoq.filter (· != key) } }) ∧
    (∀ d e, s.tierRuns = true → alook key s.tier.dirtySince = some d → s.platEntry c p = some e → e.where_ = 1 →
      alook p x.firedShadows = none →
      ((∀ y ∈ s.tier.dirtySince, y.1 / 2 ^ 33 = c → d ≤ y.2) ∨ (s.demotes = true ∧ s.demotable c p = true ∧ s.olderCopy c p = false)) →
      s.mayHome c p = true → s.tier.homes.length + 1 < s.tier.capacity → 8 * (s.tier.homes.length + 1) ≤ 4096 * s.tier.mapFrames.length →
      (∀ m ∈ s.tier.mapFrames, apart m a 8 ∧ apart m dir 8) → s.upsets = [] → inMemory a 8 = true →
      Completes (.cleaning c p loc) s fun t =>
        alook key t.tier.homes = some { loc := s.tier.place (loc % 2 ^ 33), step := s.fullStep c e.step, sequence := s.tier.writeSeq
                                        image := imageOf (Memory.getBytes s.mem e.frame 4096) } ∧
        alook key t.tier.dirtySince = none ∧ t.memNat a 8 = PEntry.toNat { e with dirty := false } ∧
        (∀ b, (b < a ∨ a + 8 ≤ b) → (∀ m ∈ s.tier.mapFrames, b < m ∨ m + 4096 ≤ b) → Memory.get t.mem b = Memory.get s.mem b) ∧
        t.tier.cleanings = (s.tier.cleanings + 1) % 2 ^ 64 ∧ (∀ k, k ≠ key → alook k t.tier.homes = alook k s.tier.homes) ∧
        (∀ b, t.ctx b = { s.ctx b with hearth := (t.ctx b).hearth, rebase := (t.ctx b).rebase, tallies := (t.ctx b).tallies }) ∧
        Keeps [.mem, .upsets, .tier, .frames, .ctxs] s t) ∧
    (∀ e, s.tierRuns = true → s.demotes = true → s.demotable c p = true → s.platEntry c p = some e → s.cleanCopy c p = true →
      s.olderCopy c p = false → s.upsets = [] → inMemory a 8 = true →
      Completes (.demotion c p) s fun t =>
        t.memNat a 8 = PEntry.toNat { where_ := 2, step := e.step } ∧ MemoryOutside a 8 s t ∧
        (t.frames (frameOf e.frame).1).pool = (s.frames (frameOf e.frame).1).pool + 1 ∧ t.tier.homes = s.tier.homes ∧
        t.tier.demotions = (s.tier.demotions + 1) % 2 ^ 64 ∧ Keeps [.mem, .upsets, .frames, .tier] s t) ∧
    (s.demotable c p = false → Completes (.demotion c p) s fun t => t.tier.homes = s.tier.homes ∧ Keeps [.tier] s t) ∧
    (∀ m w r, x.migrations.find? (fun m => m.parcel == p && !m.pending) = some m → Dispatched s { ctx := c, pos := m.pos } w 0x32 none →
      ((copyParcel p).run (startRun s { ctx := c, pos := m.pos } w) = (.ok (), r) → r.writes = 0 → r.events = [] → Released r.s c w →
        Completes (.migrationCopyComplete c p) s fun t =>
          t.winOp c m.pos = none ∧ (∀ m' ∈ (t.ctx c).migrations, m'.parcel = p → m'.pending = true) ∧
          (w.desc.field 3 1 % 2 = 1 → Completion c w 0 (completionPayload r) r.s.datum t) ∧ Keeps [.ctxs, .kilns] r.s t ∧ OnlyCtx c r.s t) ∧
      ((copyParcel p).run (startRun s { ctx := c, pos := m.pos } w) = (.error (.hold .other), r) → Released r.s c w →
        Completes (.migrationCopyComplete c p) s fun t =>
          (∀ m' ∈ (t.ctx c).migrations, m'.parcel = p → m'.pending = true) ∧
          (∀ v ∈ (t.ctx c).window, v.pos = m.pos → v.wait = some .other) ∧ Keeps [.ctxs, .kilns] r.s t ∧ OnlyCtx c r.s t)) ∧
    (∀ (o : OpArg) w r n body, Dispatched s o w 0x1A (some n) → (n = 2 ∧ body = appendBody ∨ n = 7 ∧ body = refillBody) →
      w.wait = some .page →
      ((s.freeFrame (s.seqPool (w.desc.field 24 2))) = none → exec (.pageWaitResume o) s = .next s) ∧
      ((s.freeFrame (s.seqPool (w.desc.field 24 2))).isSome = true → body.run (startRun s o w) = (.ok (), r) → r.writes = 0 → r.events = [] →
        Released r.s o.ctx w → Completes (.pageWaitResume o) s fun t =>
          t.winOp o.ctx o.pos = none ∧ (w.desc.field 3 1 % 2 = 1 → Completion o.ctx w 0 (completionPayload r) r.s.datum t) ∧
          Keeps [.ctxs, .kilns] r.s t ∧ OnlyCtx o.ctx r.s t))

/-- R196, R208 to R211: a flush programs a context's items up to a step, as far as they fit the journal's 256 GiB, and closes the stripes
that hold them, so that they are durable; h rises over the steps whose tally record and fired marker are durable, never beyond, and never
falls; none while journalling is stopped. With no dirty copy left, a stopped journal goes on at the last fired step of every context.
Garbage collection reclaims what is settled, moves a block's sectors without changing them, and erases it.
R214 to R218: a due block is re-fired into a fresh one, and no home or journal sector stays in it; a failed program or erase retires the
block with event 0x0405 (the projected capacity of 0x0406 and where a sector goes are free, log entries 5 and 13); a sector read that
needed retries is counted, one that its stripe gives is rebuilt, and one that nothing recovers is a lost home (0x0404); a channel out of
service is told once (0x040D), and its rebuild takes a TiB of spare. R447, R443: the blocks of the boot area and of the witness slots are
left alone. Told for a module whose control firmware runs. -/
def Obligations.FlashKeepsState : Prop :=
  (∀ (c n block : Nat) (pages : List Nat) (s : State),
       let contents (s : State) := s.tier.homes.map fun h => (h.1, h.2.step, h.2.lost, h.2.image)
       let maps (s t : State) : Prop :=
         ∀ b, (∀ f ∈ t.tier.mapFrames, b < f ∨ f + 4096 ≤ b) → Memory.get t.mem b = Memory.get s.mem b
       (s.tierRuns = true →
         (s.tier.stopped = false → Completes (.journalFlush c n pages) s fun t =>
           t.tier.journal = s.tier.journal.map (fun i => { i with durable := i.durable || t.tier.safe i }) ∧
           (∀ i ∈ t.tier.journal, i.ctx = c → i.step ≤ n → s.tier.fits i = true → i.durable = true) ∧
           ((s.ctx c).rebase = none →
             (s.ctx c).hearth ≤ (t.ctx c).hearth ∧
             (∀ j, (s.ctx c).hearth < j → j ≤ (t.ctx c).hearth → t.tier.stepDurable c j = true) ∧
             (t.tier.stepDurable c ((s.ctx c).hearth + 1) = true → (s.ctx c).hearth < (t.ctx c).hearth)) ∧
           (∀ b, t.ctx b = { s.ctx b with hearth := (t.ctx b).hearth, rebase := (t.ctx b).rebase, tallies := (t.ctx b).tallies }) ∧
           contents t = contents s ∧ Keeps [.ctxs, .tier, .frames, .log, .host] s t) ∧
         (s.tier.stopped = true → exec (.journalFlush c n pages) s = .next s) ∧
         (s.tier.stopped = true → s.tier.dirtySince = [] →
           Completes .journalResume s fun t =>
             t.tier.stopped = false ∧ t.tier.journal = [] ∧ (∀ d ∈ s.enabledCtxs, (t.ctx d).hearth = (s.ctx d).fired) ∧
             ModEvent 0x040A (2 + ((t.moduleHearth.1 % 2 ^ 64) <<< 64)) t ∧ contents t = contents s ∧ Keeps [.ctxs, .tier, .log, .host] s t) ∧
         (s.tier.stopped = false ∨ s.tier.dirtySince ≠ [] → exec .journalResume s = .next s) ∧
         (reservedBlock block = false → Completes (.garbageCollection block) s fun t =>
           t.tier.journal = (s.tier.journal.filter fun i => decide (s.settled i.ctx < i.step)).map
             (fun i => { i with durable := i.durable || t.tier.safe i }) ∧
           contents t = contents s ∧ (t.tier.block block).cycles = (s.tier.block block).cycles + 1 ∧ (t.tier.block block).reads = 0 ∧
           (∀ l ∈ t.tier.flash, blockOf l.1 ≠ block) ∧
           (∀ b, b ≠ block → t.tier.block b = { s.tier.block b with written := (t.tier.block b).written }) ∧ maps s t ∧
           Keeps [.tier, .draw, .mem, .upsets, .frames, .ctxs, .log, .host] s t) ∧
         (reservedBlock block = true → exec (.garbageCollection block) s = .next s)) ∧
       (s.tierRuns = false → exec (.journalFlush c n pages) s = .next s ∧ exec .journalResume s = .next s ∧
         exec (.garbageCollection block) s = .next s)) ∧
  (∀ (loc fresh upto ch : Nat) (erase : Bool) (r : SectorRead) (s : State), s.tier.mounted = true → s.pwr.life ≠ .off → s.booting = false →
       let contents (s : State) := s.tier.homes.map fun h => (h.1, h.2.step, h.2.lost, h.2.image)
       let block := blockOf loc
       let y := s.tier.block block
       let rb := blockOf r.loc
       let lch := bits r.loc 0 5
       let good := s.tier.readGood r.loc
       let reads (t : State) : Prop := (t.tier.block rb).reads = (s.tier.block rb).reads + 1 ∧
         ((t.tier.block rb).refire = true ↔
           (s.tier.block rb).refire = true ∨ s.blk 11 0x50 ≤ min r.eccLoad 32 ∨ 100000 ≤ (s.tier.block rb).reads + 1)
       let again (t : State) (n k : Nat) : Prop := alook lch t.tier.recov =
         some (satAdd 32 ((alook lch s.tier.recov).getD (0, 0)).1 n, satAdd 32 ((alook lch s.tier.recov).getD (0, 0)).2 k)
       (s.tierRuns = true → s.refireDue block = true → s.tier.freshBlock fresh = true → fresh < 2 ^ 21 → fresh ≠ block →
         4 * (s.tier.liveIn block).length ≤ (((List.range 4096).map (sectorOf fresh)).filter s.tier.fresh).length →
         Completes (.reFiring block fresh) s fun t =>
           (∀ h ∈ t.tier.homes, blockOf h.2.loc ≠ block) ∧ (∀ x ∈ t.tier.stream, blockOf x.2.1 ≠ block) ∧ contents t = contents s ∧
           t.tier.refirings = (s.tier.refirings + 1) % 2 ^ 32 ∧ (t.tier.block block).cycles = y.cycles + 1 ∧
           (t.tier.block block).refire = false ∧ Keeps [.tier, .mem, .upsets, .frames, .ctxs, .log, .host] s t) ∧
       (s.refireDue block = false → exec (.reFiring block fresh) s = .next s) ∧
       (reservedBlock block = true ∨ s.tier.writeProtect = true →
         ∀ ok, exec (.flashProgramDone loc erase ok upto) s = .next s) ∧
       (reservedBlock block = false → s.tier.writeProtect = false →
         (Completes (.flashProgramDone loc false true upto) s fun t =>
           (∀ l ∈ loc :: pageSectors loc, (alook l t.tier.flash).isSome = true) ∧
           (alook loc s.tier.flash = none → t.tier.block block = { y with written := some (y.written.getD s.poweredTime) }) ∧
           s.tier.programmed ≤ t.tier.programmed ∧ contents t = contents s ∧
           t.tier.journal = s.tier.journal.map (fun i => { i with durable := i.durable || t.tier.safe i }) ∧
           Keeps [.tier, .ctxs, .frames] s t) ∧
         (s.tier.liveIn block = [] → Completes (.flashProgramDone loc true true upto) s fun t =>
           t.tier.block block = { y with cycles := y.cycles + 1, reads := 0, refire := false, written := none } ∧
           (∀ l ∈ t.tier.flash, blockOf l.1 ≠ block) ∧ contents t = contents s ∧ Keeps [.tier, .log, .host] s t) ∧
         (s.tier.liveIn block ≠ [] → exec (.flashProgramDone loc true true upto) s = .next s) ∧
         (y.retired = true → exec (.flashProgramDone loc erase false upto) s = .next s) ∧
         (y.retired = false → 5120 * 1024 + 16 ≤ s.tier.spareMiB →
           Completes (.flashProgramDone loc erase false upto) s fun t =>
             (t.tier.block block).retired = true ∧ contents t = contents s ∧ t.tier.spareMiB = s.tier.spareMiB - 16 ∧
             ModEvent 0x0405 (block / 65536 + ((block / 8192 % 8) <<< 8) + ((block / 4096 % 2) <<< 16) + ((if erase then 2 else 1) <<< 24) +
               ((block % 4096) <<< 32)) t ∧ Keeps [.tier, .draw, .mem, .upsets, .frames, .log, .host] s t)) ∧
       (s.tier.serves lch = true →
         (∀ d rest, r.tries = d :: rest → good d = true → Completes (.sectorReadDone r) s fun t =>
           reads t ∧ contents t = contents s ∧ t.tier.recov = s.tier.recov ∧ Keeps [.tier] s t) ∧
         (∀ n, 0 < n → n < 9 → n < r.tries.length → (∀ i, i < n → good (r.tries.getD i none) = false) →
           good (r.tries.getD n none) = true → Completes (.sectorReadDone r) s fun t =>
           reads t ∧ again t n 0 ∧ contents t = contents s ∧ Keeps [.tier, .log, .host] s t) ∧
         (0 < r.tries.length → r.tries.length ≤ 9 → (∀ q ∈ r.tries, good q = false) → (∀ z ∈ s.tier.lostChannels, z.2 = true) →
           alook (stripeOf r.loc) s.tier.stripes = none → good (rebuiltSector r.others) = true →
           Completes (.sectorReadDone r) s fun t =>
             again t (r.tries.length - 1) 1 ∧ (t.tier.block rb).retired = true ∧ contents t = contents s ∧
             t.tier.sectorsLost = s.tier.sectorsLost ∧ Keeps [.tier, .mem, .upsets, .frames, .log, .host, .draw] s t) ∧
         (∀ key h, 0 < r.tries.length → (∀ q ∈ r.tries, good q = false) → good (rebuiltSector r.others) = false → r.journal = none →
           (s.tier.homes.find? fun z => z.2.loc == r.loc) = some (key, h) → s.platEntry (key / 2 ^ 33) (key % 2 ^ 33) = none →
           let told := 1 + ((key / 2 ^ 33) <<< 16) + ((key % 2 ^ 33) <<< 64)
           (Completes (.sectorReadDone r) s fun t =>
             (∃ h', alook key t.tier.homes = some h' ∧ h'.lost = true ∧ h'.step = h.step ∧ h'.image = h.image) ∧
             t.tier.sectorsLost = satAdd 32 s.tier.sectorsLost 1 ∧ (t.tier.block rb).retired = true ∧
             (∃ q ∈ t.log.recs, s.log.head ≤ q.seq ∧ q.kind = 1 ∧ q.code = 0x0404 ∧ q.context = 0xFFFF ∧ q.body = told <<< 128) ∧
             Keeps [.tier, .mem, .upsets, .frames, .log, .host, .draw] s t) ∧
           ((s.tier.block rb).retired = true →
             Completes (.sectorReadDone r) s fun t => ModEvent 0x0404 told t ∧ Keeps [.tier, .log, .host] s t))) ∧
       ((s.tier.lostChannels.any fun z => z.1 == ch) = false →
         Completes (.channelLost ch) s fun t =>
           t.tier = { s.tier with lostChannels := s.tier.lostChannels ++ [(ch, false)] } ∧ ModEvent 0x040D ch t ∧
           Keeps [.tier, .log, .host] s t) ∧
       ((s.tier.lostChannels.any fun z => z.1 == ch) = true → exec (.channelLost ch) s = .next s) ∧
       (s.pwr.life = .ready → s.tier.lostChannels.contains (ch, false) = true →
         Completes (.channelRebuildDone ch) s fun t =>
           (ch, true) ∈ t.tier.lostChannels ∧ (ch, false) ∉ t.tier.lostChannels ∧ t.tier.spareMiB = s.tier.spareMiB - 1048576 ∧
           contents t = contents s ∧ Keeps [.tier, .draw, .mem, .upsets, .frames, .ctxs, .log, .host] s t))

/-! ### Hosts (R345 to R355, R373 to R380) -/

/-- R348, R349: a REQ whose private data is not as R348 lays it out is rejected with reason 4, a source that is not listed with 1, an
endpoint that is attached with 2, a context that is not enabled or whose rings are not set with 3; each with event 0x010B and no queue
pair. An accepted steward REQ, and an accepted context REQ, get a queue pair and a REP with an rkey (free, log entry 5); the REP gives
the context's positions. R375, R369: a REQ for an ORPHANED context re-attaches it, with event 0x0109; its ring goes back to the state
before, and the consumer positions take up what has not been acknowledged. Told where no live queue pair has this source.
R345, R350, R505: an RTU completes a connection, and the WRITEs that it can carry go out from their first unacknowledged byte. R369, R373:
a DREQ, answered by a DREP, a fatal NAK, and a host that does not answer lose the queue pair; a context that loses its last one is
ORPHANED with event 0x0108 in the steward ring and the log, and its step and ring positions stay; one that has another holds what was in
flight until that one can carry it, and issues it again there. A DREP ends a disconnect that the module began; a host port link that goes
down loses nothing yet. Told of a link where no transfer is held. -/
def Obligations.HostsAttach : Prop :=
  (∀ (port addr qpn : Nat) (d : ReqData) (s : State), s.hostHears port = true →
       let c := d.ctx
       let conn : Conn := { kind := d.kind, ctx := if d.kind = 2 then d.ctx else 0, port := port, addr := addr, qpn := qpn }
       let x := s.ctx c
       let valid : Prop := d.magic = 0x4252 ∧ d.version = 1 ∧ (d.kind = 1 ∨ (d.kind = 2 ∧ d.ctx ≤ 1023)) ∧ d.reservedZero = true
       let rejects (r : Nat) : Prop := Completes (.req port addr qpn d) s fun t =>
         Sent (.cm 2 conn (rejBytes r)) t ∧
         ModEvent 0x010B (r + ((d.kind % 256) <<< 8) + ((d.ctx % 65536) <<< 16) + (port <<< 32) + (((addr >>> 64) % 2 ^ 64) <<< 128)) t ∧
         t.host.qps = s.host.qps ∧ Keeps [.out, .log, .host] s t
       let fresh : Prop := (s.host.qps.any fun q => !q.closing && sameEndpoint q.conn conn && q.conn.port == port && q.conn.addr == addr) = false
       (¬ valid → fresh → rejects 4) ∧
       (valid → fresh →
         (s.allowed addr d = false → rejects 1) ∧
         (s.allowed addr d = true → s.busy conn = true → rejects 2) ∧
         (s.allowed addr d = true → s.busy conn = false → d.kind = 2 → (x.enabled = false ∨ s.ringsSet c = false) → rejects 3) ∧
         (s.allowed addr d = true → s.busy conn = false → d.kind = 1 →
           Completes (.req port addr qpn d) s fun t => ∃ rkey, rkey < 2 ^ 32 ∧ t.host.qps.head? = some { conn := conn, rkey := rkey, reads := min 16 d.resources } ∧
             Sent (.cm 1 conn (stewardRepBytes rkey)) t ∧
             (t.log.recs.head?.map fun q => (q.kind, q.body)) = some (5, sourceBody { via := port, addr := addr, qpn := qpn } 0 1) ∧
             Keeps [.out, .log, .host, .draw] s t) ∧
         (s.allowed addr d = true → s.busy conn = false → d.kind = 2 → x.enabled = true → s.ringsSet c = true →
           (x.ring ≠ .orphaned →
             Completes (.req port addr qpn d) s fun t => ∃ rkey, t.host.qps.head? = some { conn := conn, rkey := rkey, reads := min 16 d.resources } ∧
               Sent (.cm 1 conn (leBytes 2 1 ++ leBytes 1 x.ring.code ++ leBytes 1 0 ++ leBytes 4 rkey ++ leBytes 8 (0x7000100000 + c * 0x1000 + 0) ++
                 leBytes 8 x.fetchPos ++ leBytes 8 x.retirePos ++ leBytes 8 x.eventPos ++ leBytes 8 x.tallyPos ++ leBytes 8 x.fired ++
                 leBytes 8 0)) t ∧ Keeps [.out, .host, .draw] s t) ∧
           (x.ring = .orphaned →
             Completes (.req port addr qpn d) s fun t =>
               (t.ctx c).ring = x.ringBefore ∧ (t.ctx c).ringReason = 0x0109 ∧ (t.ctx c).eventConsumer = x.eventPos ∧
               (t.ctx c).tallyPos = x.tallyDone ∧ (t.ctx c).tallyConsumer = x.tallyDone ∧ (t.ctx c).cmdProducer = x.fetchPos ∧
               (∀ y ∈ (t.ctx c).tallies, y.delivered = false → y.written = false) ∧ CtxEvent c 0 0x0109 (port <<< 32) s t ∧
               Keeps [.out, .host, .draw, .ctxs, .log] s t ∧ OnlyCtx c s t)))) ∧
  (∀ (conn : Conn) (q : Qp) (s : State), s.hostHears conn.port = true → conn.kind = 2 → s.liveQp conn = some q →
       let c := conn.ctx
       let x := s.ctx c
       let others := s.host.qps.filter fun r => !r.closing && sameEndpoint r.conn conn && r.conn != conn
       let pay (cause : Nat) := (conn.port <<< 32) + (cause <<< 40)
       let orphans (i : Instr) (cause : Nat) (o : Output) : Prop := others = [] → x.enabled = true → x.ring ≠ .orphaned →
         Completes i s fun t =>
           t.ctx c = { x.dropFlight conn.port with
             ring := .orphaned, ringReason := 0x0108, ringBefore := x.ring, statusDirty := true, starve := (t.ctx c).starve } ∧
           (∀ w ∈ (t.ctx c).writes, w.port = conn.port → w.sent = false) ∧
           CtxEvent c 0 0x0108 (pay cause) s t ∧ (t.host.stewardq.getLast?.map fun e => (e.code, e.context, e.payload)) = some (0x0108, c, pay cause) ∧
           Sent o t ∧ t.liveQp conn = none ∧ Keeps [.ctxs, .kilns, .out, .log, .host] s t ∧ OnlyCtx c s t
       let elsewhere : List Qp := s.host.qps.filter fun r => r.conn.kind == 2 && r.conn.ctx == c && r.conn != conn
       let moves (i : Instr) : Prop := others ≠ [] →
         ((∀ r ∈ elsewhere, r.est = false) → Completes i s fun t =>
           t.ctx c = x.dropFlight conn.port ∧ t.liveQp conn = none ∧ Keeps [.ctxs, .out, .host] s t ∧ OnlyCtx c s t) ∧
         (∀ r w, elsewhere = [r] → r.est = true → s.portOpen r.conn.port = true → x.ring ≠ .orphaned → x.window = [] → x.writes = [w] →
           w.port = conn.port → w.sent = true → windowHolds s c (hostParts w.addr).1 (hostParts w.addr).2 w.bytes.length true = true →
           (s.pg c (0x100 + 0x20 * (hostParts w.addr).1 + 0x10)).testBit (34 + r.conn.port) = true → Completes i s fun t =>
             (t.ctx c).writes = [{ w with sent := true, acked := 0, port := r.conn.port }] ∧ Sent (.write c w.addr w.bytes) t ∧
             t.liveQp conn = none ∧ Keeps [.ctxs, .out, .host] s t ∧ OnlyCtx c s t)
       let up : State :=
         { s with host := { s.host with qps := s.host.qps.map fun r => if r.conn = conn then { r with est := true } else r } }
       (q.est = false →
         (Completes (.rtu conn) s fun t => t.liveQp conn = some { q with est := true } ∧ Keeps [.ctxs, .host, .out] s t ∧ OnlyCtx c s t) ∧
         (x.ring ≠ .orphaned → (∀ v ∈ x.window, v.reads = []) →
           (∀ w ∈ x.writes, w.sent = false → (up.writePort c w).isSome = true) → Completes (.rtu conn) s fun t =>
             (t.ctx c).writes = x.writes.map (fun w => if w.sent then w else { w with sent := true, port := (up.writePort c w).getD 0 }) ∧
             t.out = ((x.writes.filter fun w => !w.sent).map fun w => Output.write c (w.addr + w.acked) (w.bytes.drop w.acked)).reverse ++
               s.out)) ∧
       (q.est = true → exec (.rtu conn) s = .next s) ∧
       orphans (.dreq conn) 1 (.cm 3 conn []) ∧ moves (.dreq conn) ∧
       orphans (.fatalNak conn) 2 (.cm 4 conn []) ∧ moves (.fatalNak conn) ∧
       orphans (.hostTimeout conn) 3 (.cm 4 conn []) ∧ moves (.hostTimeout conn) ∧
       (∀ u : Conn, s.hostHears u.port = true →
         Completes (.drep u) s fun t => t.host = { s.host with qps := s.host.qps.filter fun r => !(r.conn == u && r.closing) } ∧
           t.liveQp conn = some q ∧ Keeps [.host] s t) ∧
       (NoneHeld s →
         (Completes (.hostLinkDown 0 true) s fun t => t.host = { s.host with up0 := false, paused0 := false } ∧ t.liveQp conn = some q ∧
           (∀ d, t.ctx d = s.ctx d) ∧ Keeps [.ctxs, .host] s t) ∧
         (s.pwr.lost.contains 4 = false → s.pwr.current ≠ 2 → Completes (.hostLinkDown 1 false) s fun t =>
           t.host = { s.host with up1 := true } ∧ (∀ d, t.ctx d = s.ctx d) ∧ Keeps [.ctxs, .host] s t)) ∧
       (s.pwr.lost.contains 4 = true ∨ s.pwr.current = 2 → exec (.hostLinkDown 1 false) s = .next s))

/-- R352, R353, R462: an RDMA READ of a valid window by its owner answers the bytes of scratch memory, or the context's fired contents; a
WRITE of a scratch window puts its bytes and is acknowledged; a READ or an aligned 8-byte WRITE of the register space by the steward
answers as the register space does. Anything else is a NAK: counted, event 0x0106 at most once per source and millisecond (R380), and
nothing changes. A congestion notification is counted; a pause frame of the configured priority pauses its port (R345; told where no
transfer is held). R418: in DEEP a window answers nothing (log entry 102). -/
def Obligations.HostAccessesAreAnswered : Prop :=
  ∀ (conn : Conn) (q : Qp) (rkey addr n : Nat) (bs : List Byte) (s : State), s.hostHears conn.port = true → conn.port < 2 →
    s.liveQp conn = some q → q.est = true →
    let naks (i : Instr) : Prop :=
      (s.host.refusedIn.find? fun z => z.1 == conn.addr) = none →
      Completes i s fun t => ModEvent 0x0106
        (1 + ((conn.qpn % 2 ^ 24) <<< 32) + ((addr % 2 ^ 64) <<< 64) + (((conn.addr >>> 64) % 2 ^ 64) <<< 128)) t ∧ Sent (.nak conn) t ∧
        t.host.refused = satAdd 32 s.host.refused 1 ∧ t.host.hostRead = s.host.hostRead ∧
        t.host.hostWritten = s.host.hostWritten ∧ Keeps [.out, .log, .host] s t
    (∀ w, s.inWindow rkey = some w →
      (w.grants conn addr n = false → naks (.inboundRdmaRead conn rkey addr n)) ∧
      (w.grants conn addr bs.length = false → naks (.inboundRdmaWrite conn rkey addr bs)) ∧
      (s.pwr.current = 2 →
        (w.grants conn addr n = true → exec (.inboundRdmaRead conn rkey addr n) s = .next s) ∧
        (w.grants conn addr bs.length = true → exec (.inboundRdmaWrite conn rkey addr bs) s = .next s)) ∧
      (s.pwr.current ≠ 2 → w.grants conn addr n = true → w.scratch = true → inMemory addr n = true → s.upsets = [] →
        Completes (.inboundRdmaRead conn rkey addr n) s fun t =>
          Sent (.readData conn (Memory.getBytes s.mem addr n)) t ∧
          t.host = { s.host with hostRead := modAt s.host.hostRead conn.port fun k => (k + n) % 2 ^ 64 } ∧ Keeps [.out, .host] s t) ∧
      (s.pwr.current ≠ 2 → w.grants conn addr n = true → w.scratch = false → (s.ctx w.ctx).enabled = true → ∀ bytes, s.hostState w.ctx (pieces addr n) = some (s, bytes, false) →
        Completes (.inboundRdmaRead conn rkey addr n) s fun t => Sent (.readData conn bytes) t ∧ t.mem = s.mem ∧ Keeps [.out, .host] s t) ∧
      (s.pwr.current ≠ 2 → w.grants conn addr bs.length = true → w.scratch = true → inMemory addr bs.length = true → bs ≠ [] → s.upsets = [] →
        Completes (.inboundRdmaWrite conn rkey addr bs) s fun t =>
          Memory.getBytes t.mem addr bs.length = bs ∧ MemoryOutside addr bs.length s t ∧ Sent (.writeAck conn) t ∧
          t.host = { s.host with hostWritten := modAt s.host.hostWritten conn.port fun k => (k + bs.length) % 2 ^ 64 } ∧
          Keeps [.mem, .out, .host] s t) ∧
      (s.pwr.current ≠ 2 → w.grants conn addr bs.length = true → w.scratch = false → naks (.inboundRdmaWrite conn rkey addr bs))) ∧
    (s.inWindow rkey = none → q.rkey ≠ rkey → naks (.inboundRdmaRead conn rkey addr n) ∧ naks (.inboundRdmaWrite conn rkey addr bs)) ∧
    (s.inWindow rkey = none → q.rkey = rkey → (∀ c off, place addr ≠ .doorbell c off) →
      (conn.kind ≠ 1 → naks (.inboundRdmaRead conn rkey addr n) ∧ naks (.inboundRdmaWrite conn rkey addr bs)) ∧
      (conn.kind = 1 → regRange addr n = true →
        Completes (.inboundRdmaRead conn rkey addr n) s fun t =>
          Sent (.readData conn ((List.range (n / 8)).flatMap fun i => leBytes 8 (s.readWord s.bankS (addr + 8 * i)))) t ∧
          t.mem = s.mem ∧ t.regs = s.regs ∧ t.log = s.log) ∧
      (∀ r, conn.kind = 1 → bs.length = 8 → regRange addr 8 = true → specOf (inForceAddr addr) = some r → inRegWindow addr = false →
        Completes (.inboundRdmaWrite conn rkey addr bs) s fun t =>
          Sent (.writeAck conn) t ∧ t.regs = s.regs ∧ t.bankM = s.bankM ∧
          t.bankS = { s.bankS with
            written := aset (inForceAddr addr) (r.keep (ofLeBytes bs) ||| ofLeBytes bs % 2 ^ r.aligned) s.bankS.written } ∧
          Keeps [.out, .host, .log, .banks] s t)) ∧
    (Completes (.congestionNotificationPacket conn.port) s fun t =>
      t.host = { s.host with cnps := modAt s.host.cnps conn.port fun k => satAdd 32 k 1 } ∧ Sent (.hostTx conn.port 2) t ∧
      Keeps [.out, .host] s t) ∧
    (∀ prio pause, (s.blk 5 0x148).testBit 3 = true →
      (bits (s.blk 5 0x148) 0 3 = prio → NoneHeld s → Completes (.pfcPauseFrame conn.port prio pause) s fun t =>
        (if conn.port = 0 then t.host.paused0 = pause ∧ t.host.paused1 = s.host.paused1
         else t.host.paused1 = pause ∧ t.host.paused0 = s.host.paused0) ∧
        Sent (.hostTx conn.port (if pause then 0 else 1)) t ∧ (∀ d, t.ctx d = s.ctx d) ∧ Keeps [.out, .host, .ctxs] s t) ∧
      (bits (s.blk 5 0x148) 0 3 ≠ prio → exec (.pfcPauseFrame conn.port prio pause) s = .next s))

/-! ### Management (R449, R454 to R458, R495) -/

/-- R454 to R458: what the control firmware answers to a controller that it hears: its certificate and signed measurements, or completion 3
without an identity; the log records that are still there, the witness bytes, and words of the register space; completion 1 for a
request that is not formed as R457 says, 4 for a range outside. A register write goes to the management bank. Not heard, nothing
happens, but that the boot ROM shows the start-up stage and its events in boot recovery too (R434). Sensor numbers and MCTP bodies are the
model's (log entry 28).
R449, R456, R495: a target without a dynamic address answers ENTDAA with its provisioned ID and takes the address; MCTP control and
PLDM base messages are answered where the controller is heard, in boot recovery too. An update puts the image into the firmware slot
that is not running; when it passes the checks of R449, 0x0906, it may be activated, and the selector names its slot; when it does not,
0x0907, it is not. R450, R456: an owner record is enrolled when it verifies. Told of an update where the control firmware runs, and of a
signature by the outcome of its check, which the image carries (log entry 98). -/
def Obligations.ManagementServes : Prop :=
  (∀ (eid first count addr : Nat) (nonce : List Byte) (v : Word) (s : State),
       let answers (i : Instr) (code : Nat) (body : List Byte) : Prop := exec i s = .next { s with out := .mgmt code body :: s.out }
       (s.fwHears = false →
         (∀ i ∈ [Instr.getCertificate eid, .getMeasurements eid nonce count, .readLog eid first count, .readWitness eid first count,
             .registerRead eid addr, .managementRegisterWrite eid addr v], exec i s = .next s) ∧
         (s.i3cHears = false ∨ (count ≠ 42 ∧ count < 44) → exec (.pldmSensorPoll count) s = .next s)) ∧
       (s.i3cHears = true →
         answers (.pldmSensorPoll 42) 0 (leBytes 1 (s.flueStatus % 16)) ∧ answers (.pldmSensorPoll 44) 0 (leBytes 2 s.pwr.holdEvent) ∧
         (∀ n code, s.log.start[n]? = some code → answers (.pldmSensorPoll (45 + n)) 0 (leBytes 2 code)) ∧
         (∀ n, s.log.start[n]? = none → answers (.pldmSensorPoll (45 + n)) 0x80 [])) ∧
       (s.fwHears = true →
         (s.trust.idOk = true → s.certificate.length = 4096 ∧ answers (.getCertificate eid) 0 s.certificate) ∧
         (s.trust.idOk = false → answers (.getCertificate eid) 3 [] ∧ answers (.getMeasurements eid nonce count) 3 []) ∧
         (s.trust.idOk = true →
           (nonce.length ≠ 32 → answers (.getMeasurements eid nonce count) 1 []) ∧
           (nonce.length = 32 → 64 ≤ count → answers (.getMeasurements eid nonce count) 4 []) ∧
           (nonce.length = 32 → count < 64 → ∃ body, answers (.getMeasurements eid nonce count) 0 (nonce ++ leBytes 8 s.trust.serial ++
             leBytes 8 s.datum ++ leBytes 1 ((List.range 6).filter count.testBit).length ++ body))) ∧
         (count = 0 ∨ 16 < count → answers (.readLog eid first count) 4 []) ∧
         (∀ r, s.log.recs.find? (fun q => q.seq == first) = some r → first < s.log.head → s.log.head < first + 16384 →
           answers (.readLog eid first 1) 0 (logBytes r)) ∧
         (s.log.head ≤ first ∨ first + 16384 ≤ s.log.head → answers (.readLog eid first 1) 0 []) ∧
         (count % 1024 ≠ 0 → answers (.readWitness eid first count) 1 []) ∧
         (count % 1024 = 0 → (16 < first ∨ 65536 ≤ count) → answers (.readWitness eid first count) 4 []) ∧
         (count % 1024 = 0 → first ≤ 16 → count < 65536 → answers (.readWitness eid first count) 0
           ((List.range 1024).map fun i => s.witnessByte (first * 0x10000 + count + i))) ∧
         (regCode addr ≠ 0 → answers (.registerRead eid addr) (regCode addr) [] ∧ answers (.managementRegisterWrite eid addr v) (regCode addr) []) ∧
         (regCode addr = 0 → Completes (.registerRead eid addr) s fun t =>
           Sent (.mgmt 0 (leBytes 8 (s.readWord s.bankM addr))) t ∧ t.mem = s.mem ∧ t.regs = s.regs ∧ t.bankM = s.bankM ∧ t.bankS = s.bankS) ∧
         (∀ r, regCode addr = 0 → specOf (inForceAddr addr) = some r → Completes (.managementRegisterWrite eid addr v) s fun t =>
           t.bankM = { s.bankM with
             written := aset (inForceAddr addr) (r.keep v.toNat ||| v.toNat % 2 ^ r.aligned) s.bankM.written } ∧ t.bankS = s.bankS ∧
           t.regs = s.regs ∧ Sent (.mgmt 0 []) t ∧
           (t.log.recs.head?.map fun q => (q.kind, q.body)) = some (2, sourceBody (mgmtSrc eid) (inForceAddr addr) v.toNat) ∧
           Keeps [.log, .banks, .out] s t) ∧
         answers (.pldmSensorPoll 0) 0 (leBytes 2 s.pwr.mV) ∧ answers (.pldmSensorPoll 41) 0 (leBytes 1 s.pwr.current) ∧
         (∀ n, n < 12 → answers (.pldmSensorPoll (3 + n)) 0 (leBytes 2 (signedBits 16 ((alook n s.setter.stack0.temps).getD 0)))))) ∧
  (∀ (eid a : Nat) (fw : FwSlot) (cfg : CfgSlot) (owner : OwnerRec) (s : State),
       let u := s.trust
       let answers (i : Instr) (code : Nat) (body : List Byte) : Prop := exec i s = .next { s with out := .mgmt code body :: s.out }
       (s.pwr.life ≠ .off → u.i3c = none →
         exec (.entdaa a) s = .next { s with
           trust := { u with i3c := some (a % 128) }
           out := .mgmt 0 (leBytes 6 (if u.serial = 0 then 2 ^ 48 - 1 else u.serial % 2 ^ 48)) :: s.out }) ∧
       (s.pwr.life = .off ∨ u.i3c ≠ none → exec (.entdaa a) s = .next s) ∧
       (s.i3cHears = false →
         ∀ i ∈ [Instr.setEndpointId eid, .getEndpointId, .getMctpVersionSupport a, .getMessageTypeSupport, .getVendorMessageSupport a,
           .pldmBaseRequest a, .pldmFirmwareUpdate a fw cfg owner, .activateFirmware], exec i s = .next s) ∧
       (s.i3cHears = true →
         (0 < eid → eid < 255 → exec (.setEndpointId eid) s = .next { s with
           trust := { u with eid := eid }, out := .mgmt 0 [0, BitVec.ofNat 8 eid, 0] :: s.out }) ∧
         (eid = 0 ∨ eid = 255 → answers (.setEndpointId eid) 2 []) ∧
         answers .getEndpointId 0 [BitVec.ofNat 8 u.eid, 0, 0] ∧ answers .getMessageTypeSupport 0 [2, 1, 0x7F] ∧
         (∃ code body, answers (.pldmBaseRequest a) code body) ∧
         ((a = 0 ∨ a = 1 ∨ a = 0x7F ∨ a = 0xFF) → ∃ body, answers (.getMctpVersionSupport a) 0 body) ∧
         (¬ (a = 0 ∨ a = 1 ∨ a = 0x7F ∨ a = 0xFF) → answers (.getMctpVersionSupport a) 0x80 []) ∧
         (∃ rest, answers (.getVendorMessageSupport 0) 0 ([0xFF, 1, 0, 0, 0xE5, 0xC3] ++ rest)) ∧
         (a ≠ 0 → answers (.getVendorMessageSupport a) 2 []) ∧
         (s.pwr.life ≠ .recovery → u.running < 2 → Completes (.pldmFirmwareUpdate 1 fw cfg owner) s fun t =>
           t.fwSlot (1 - u.running) = fw ∧ t.fwSlot u.running = s.fwSlot u.running ∧ t.trust.stagedFw = some fw ∧
           t.trust.selector = u.selector ∧ 1 ∉ t.trust.verified ∧ Keeps [.trust, .out] s t) ∧
         (s.pwr.life = .recovery → Completes (.pldmFirmwareUpdate 1 fw cfg owner) s fun t =>
           t.fwSlot 0 = fw ∧ t.fwSlot 1 = s.fwSlot 1 ∧ t.trust.selector = 0 ∧ Keeps [.trust, .out] s t) ∧
         (s.pwr.life ≠ .recovery → Completes (.pldmFirmwareUpdate 3 fw cfg owner) s fun t =>
           t.trust = { u with stagedOwner := some owner } ∧ Keeps [.trust, .out] s t) ∧
         (u.verified.contains 1 = true → Completes .activateFirmware s fun t =>
           t.trust = { u with selector := 1 - u.running, verified := [], badCopies := [], rewritten := true } ∧ Sent (.mgmt 0 []) t ∧
           Keeps [.trust, .out] s t) ∧
         (u.verified.contains 1 = false → answers .activateFirmware 1 [])) ∧
       (s.pwr.life ≠ .off → s.booting = false →
         (∀ f, u.stagedFw = some f →
           let good : Prop := f.magic = 0x46573254 ∧ f.version = 1 ∧ f.stepping = 0xB0 ∧
             u.romDigests[f.keyIndex]? = some (Sha3.sha3 f.publicKey) ∧ f.signature.valid = true ∧
             ∀ p ∈ f.components, fitBytes 32 p.digest = Sha3.sha3 ((f.body.drop (p.offset - 4096)).take p.length)
           (good → Completes (.verifyComplete 1) s fun t =>
             t.trust = { u with stagedFw := none, verified := 1 :: u.verified } ∧ ModEvent 0x0906 1 t ∧ Keeps [.trust, .log, .host] s t) ∧
           (¬ good → Completes (.verifyComplete 1) s fun t =>
             t.trust = { u with stagedFw := none } ∧ ModEvent 0x0907 1 t ∧ Keeps [.trust, .log, .host] s t)) ∧
         (∀ o, u.stagedOwner = some o →
           let good : Prop := o.signature.valid = true ∧ o.keyIndex < 4 ∧ (o.serial = 0 ∨ o.serial = u.serial)
           (good → Completes (.verifyComplete 3) s fun t =>
             t.trust = { u with stagedOwner := none, owner := some o, badCopies := [], rewritten := true } ∧ ModEvent 0x0906 3 t ∧
             Keeps [.trust, .log, .host] s t) ∧
           (¬ good → Completes (.verifyComplete 3) s fun t =>
             t.trust = { u with stagedOwner := none } ∧ ModEvent 0x0907 3 t ∧ Keeps [.trust, .log, .host] s t))) ∧
       (u.stagedFw = none → exec (.verifyComplete 1) s = .next s))

/-! ### Numbers, reset and the whole machine -/

/-- R67: a PRODUCT whose descriptor R92 allows but for its length is refused with event 0x0209 when k_len is 0 or above 131,072: nothing
of it happens, and the ring stops. -/
def Obligations.BadLengthsAreRefused : Prop :=
  ∀ (a : OpArg) (s : State) (w : WinOp) (r : Run), Dispatched s a w 0x10 none → Released s a.ctx w →
    let p := prodOf w.desc
    (checkProduct { p with k := 1 }).run (startRun s a w) = (.ok (), r) → (p.k = 0 ∨ 131072 < p.k) → (s.ctx a.ctx).ring = .active →
    Completes (.product a) s fun t =>
      CtxEvent a.ctx a.pos 0x0209 ((a.pos % 2 ^ 64) <<< 64) s t ∧ t.winOp a.ctx a.pos = none ∧ Completion a.ctx w 1 (completionPayload r) s.datum t ∧
      (t.ctx a.ctx).ring = .blocked ∧ Keeps [.ctxs, .kilns, .log, .host] s t ∧ OnlyCtx a.ctx s t

/-- R42: a zero, and a result that rounds to zero, keeps its sign in B16, F6 and F4, and is +0 in F8 and G8. -/
def Obligations.VendorZerosAreSigned : Prop :=
  ∀ (neg : Bool) (m : Nat) (e : Int),
    (∀ v ∈ [Flt.vB16, Flt.vE3M2, Flt.vE2M3, Flt.vF4, Flt.vF8, Flt.vG8], m = 0 → (Flt.vendorFin v neg m e).1 % 2 ^ v.signAt = 0) ∧
    (∀ v ∈ [Flt.vB16, Flt.vE3M2, Flt.vE2M3, Flt.vF4], (Flt.vendorFin v neg m e).1 % 2 ^ v.signAt = 0 →
      (Flt.vendorFin v neg m e).1 = if neg then 2 ^ v.signAt else 0) ∧
    (∀ v ∈ [Flt.vF8, Flt.vG8], (Flt.vendorFin v neg m e).1 % 2 ^ v.signAt = 0 → (Flt.vendorFin v neg m e).1 = 0)

/-- R40, R28: the vendor rounding of a finite value. One that does not saturate takes a code that no code of the format is nearer to, and
of two as near the one of greater magnitude; a value saturates when it reaches the midpoint between the greatest value and the next,
and then takes the greatest. Magnitudes stand in units of a common power of two. -/
def Obligations.VendorRoundingIsNearest : Prop :=
  ∀ v ∈ [Flt.vB16, Flt.vE3M2, Flt.vE2M3, Flt.vF4, Flt.vF8, Flt.vG8], ∀ (neg : Bool) (m : Nat) (e : Int),
    let unit := min e (v.emin - v.fb)
    let x := m * 2 ^ (e - unit).toNat
    let c := (Flt.vendorFin v neg m e).1
    let mag := c % 2 ^ v.signAt
    let dist (k : Nat) : Nat := (magnitude v unit k - x) + (x - magnitude v unit k)
    ((Flt.vendorFin v neg m e).2 = true ↔ magnitude v unit v.maxCode + magnitude v unit (v.maxCode + 1) ≤ 2 * x) ∧
    ((Flt.vendorFin v neg m e).2 = true → mag = v.maxCode) ∧
    ((Flt.vendorFin v neg m e).2 = false → ∀ k ≤ v.maxCode,
      dist mag ≤ dist k ∧ (dist k = dist mag → magnitude v unit k ≤ magnitude v unit mag)) ∧
    (mag ≠ 0 → c = (if neg then 2 ^ v.signAt else 0) + mag)

/-- R406 to R408, R425, R437, R461: right after the reset no register differs from its reset value, both banks are empty, no context is
enabled, no kiln runs, every port is DISABLED with nothing held, the log is empty, and die memory reads zero; the module has no power
until POWER_ON. The ring, launch and sequencer values the spec gives no reset for are the model's (log entry 9), and so are the flash's
contents (log entry 10). -/
def Obligations.ResetLeavesNothingRunning : Prop :=
  let s := State.reset
  s.pwr.life = .off ∧ s.pending = [] ∧ s.out = [] ∧ Memory.wf s.mem = true ∧ (∀ a, Memory.get s.mem a = 0) ∧ (∀ b, s.upset b = []) ∧
  (∀ a, s.reg a = regReset a) ∧ s.bankS.written = [] ∧ s.bankM.written = [] ∧ s.enabledCtxs = [] ∧
  (∀ c, (s.ctx c).enabled = false ∧ (s.ctx c).step = .stopped ∧ (s.ctx c).fired = 0 ∧ (s.ctx c).epoch = 0 ∧ (s.ctx c).window = [] ∧
    (s.ctx c).cmdProducer = 0 ∧ (s.ctx c).fetchPos = 0 ∧ (s.ctx c).retirePos = 0 ∧ (s.ctx c).eventPos = 0 ∧ (s.ctx c).tallyPos = 0) ∧
  (∀ k, (s.kiln k).st = .idle ∧ (s.kiln k).ctx = none) ∧ (∀ p, (s.port p).st = .disabled ∧ (s.port p).replay = []) ∧
  s.log.head = 0 ∧ s.log.recs = [] ∧ s.host.qps = [] ∧ s.host.up0 = false ∧ s.host.up1 = false ∧ s.dat.st = .unaligned ∧
  (s.stack 0).level = 100 ∧ (s.stack 1).level = 100 ∧ s.entriesFree = 4194304

/-- The form of the state that every step keeps: memory is sorted, without a zero and without a second entry for an address; the log holds
at most 16,384 records (R435), its SRAM copy 704 (R440), the steward queue 4,096 entries (R356); the datum is a 64-bit count (R390). -/
def Obligations.StepsKeepTheForm : Prop := ∀ s t : State, Formed s → step s = .next t → Formed t

/-- A command changes everything but the queue: what waits behind it stays, in order, and nothing is put there. -/
def Obligations.CommandsLeaveTheQueue : Prop := ∀ (i : Instr) (s t : State), exec i s = .next t → t.pending = s.pending
end

