-- ==== Sys2Proof/Laws/Lists.lean ====
section
/-! SUPPORT. Association lists: what a look-up gives after a put or a removal. -/

namespace Sys2Proof

theorem alook_aset {β : Type} (k k' : Nat) (v : β) (l : List (Nat × β)) :
    alook k' (aset k v l) = if k = k' then some v else alook k' l := by
  induction l with
  | nil => simp [aset, alook]
  | cons x rest ih =>
    obtain ⟨j, w⟩ := x
    simp only [aset]
    split
    · simp only [alook]
    · split
      · rename_i h; subst h
        simp only [alook]
        split <;> rfl
      · simp only [alook, ih]
        split
        · rename_i h1 h2 h3
          subst h3
          rw [if_neg h2]
        · rfl

@[simp] theorem alook_aset_same {β : Type} (k : Nat) (v : β) (l : List (Nat × β)) : alook k (aset k v l) = some v := by
  simp [alook_aset]

theorem alook_aset_ne {β : Type} {k k' : Nat} (h : k ≠ k') (v : β) (l : List (Nat × β)) : alook k' (aset k v l) = alook k' l := by
  simp [alook_aset, h]

theorem alook_adel_ne {β : Type} {k k' : Nat} (h : k ≠ k') (l : List (Nat × β)) : alook k' (adel k l) = alook k' l := by
  induction l with
  | nil => rfl
  | cons x rest ih =>
    obtain ⟨j, w⟩ := x
    simp only [adel]
    split
    · rename_i h'; subst h'
      simp [alook, h, ih]
    · simp only [alook, ih]

@[simp] theorem alook_adel_same {β : Type} (k : Nat) (l : List (Nat × β)) : alook k (adel k l) = none := by
  induction l with
  | nil => rfl
  | cons x rest ih =>
    obtain ⟨j, w⟩ := x
    simp only [adel]
    split
    · exact ih
    · rename_i h
      simp only [alook, if_neg h, ih]

theorem alook_adel {β : Type} (k k' : Nat) (l : List (Nat × β)) : alook k' (adel k l) = if k = k' then none else alook k' l := by
  split
  · rename_i h; subst h; simp
  · rename_i h; exact alook_adel_ne h l

/-- A put overwrites a put under the same key. -/
theorem aset_aset {β : Type} (k : Nat) (v w : β) (l : List (Nat × β)) : aset k v (aset k w l) = aset k v l := by
  induction l with
  | nil => simp [aset]
  | cons x rest ih =>
    obtain ⟨j, y⟩ := x
    by_cases h1 : k < j
    · simp [aset, h1]
    · by_cases h2 : k = j
      · subst h2; simp [aset]
      · simp [aset, h1, h2, ih]

end Sys2Proof
end

