-- ==== Sys2Proof/Laws/State.lean ====
section
/-! SUPPORT. One lemma per field per update of the state, so that no proof unfolds a record update. -/

namespace Sys2Proof.Machine

@[simp] theorem State.setCtx_datum (s : State) (c : Nat) (x : Ctx) : (s.setCtx c x).datum = s.datum := rfl
@[simp] theorem State.setCtx_draw (s : State) (c : Nat) (x : Ctx) : (s.setCtx c x).draw = s.draw := rfl
@[simp] theorem State.setCtx_pwr (s : State) (c : Nat) (x : Ctx) : (s.setCtx c x).pwr = s.pwr := rfl
@[simp] theorem State.setCtx_dat (s : State) (c : Nat) (x : Ctx) : (s.setCtx c x).dat = s.dat := rfl
@[simp] theorem State.setCtx_mem (s : State) (c : Nat) (x : Ctx) : (s.setCtx c x).mem = s.mem := rfl
@[simp] theorem State.setCtx_upsets (s : State) (c : Nat) (x : Ctx) : (s.setCtx c x).upsets = s.upsets := rfl
@[simp] theorem State.setCtx_setter (s : State) (c : Nat) (x : Ctx) : (s.setCtx c x).setter = s.setter := rfl
@[simp] theorem State.setCtx_frames0 (s : State) (c : Nat) (x : Ctx) : (s.setCtx c x).frames0 = s.frames0 := rfl
@[simp] theorem State.setCtx_frames1 (s : State) (c : Nat) (x : Ctx) : (s.setCtx c x).frames1 = s.frames1 := rfl
@[simp] theorem State.setCtx_refilling (s : State) (c : Nat) (x : Ctx) : (s.setCtx c x).refilling = s.refilling := rfl
@[simp] theorem State.setCtx_demoting (s : State) (c : Nat) (x : Ctx) : (s.setCtx c x).demoting = s.demoting := rfl
@[simp] theorem State.setCtx_regs (s : State) (c : Nat) (x : Ctx) : (s.setCtx c x).regs = s.regs := rfl
@[simp] theorem State.setCtx_bankS (s : State) (c : Nat) (x : Ctx) : (s.setCtx c x).bankS = s.bankS := rfl
@[simp] theorem State.setCtx_bankM (s : State) (c : Nat) (x : Ctx) : (s.setCtx c x).bankM = s.bankM := rfl
@[simp] theorem State.setCtx_kilns (s : State) (c : Nat) (x : Ctx) : (s.setCtx c x).kilns = s.kilns := rfl
@[simp] theorem State.setCtx_pframes (s : State) (c : Nat) (x : Ctx) : (s.setCtx c x).pframes = s.pframes := rfl
@[simp] theorem State.setCtx_entriesFree (s : State) (c : Nat) (x : Ctx) : (s.setCtx c x).entriesFree = s.entriesFree := rfl
@[simp] theorem State.setCtx_entriesLow (s : State) (c : Nat) (x : Ctx) : (s.setCtx c x).entriesLow = s.entriesLow := rfl
@[simp] theorem State.setCtx_tier (s : State) (c : Nat) (x : Ctx) : (s.setCtx c x).tier = s.tier := rfl
@[simp] theorem State.setCtx_ports (s : State) (c : Nat) (x : Ctx) : (s.setCtx c x).ports = s.ports := rfl
@[simp] theorem State.setCtx_discards (s : State) (c : Nat) (x : Ctx) : (s.setCtx c x).discards = s.discards := rfl
@[simp] theorem State.setCtx_discardIn (s : State) (c : Nat) (x : Ctx) : (s.setCtx c x).discardIn = s.discardIn := rfl
@[simp] theorem State.setCtx_host (s : State) (c : Nat) (x : Ctx) : (s.setCtx c x).host = s.host := rfl
@[simp] theorem State.setCtx_log (s : State) (c : Nat) (x : Ctx) : (s.setCtx c x).log = s.log := rfl
@[simp] theorem State.setCtx_trust (s : State) (c : Nat) (x : Ctx) : (s.setCtx c x).trust = s.trust := rfl
@[simp] theorem State.setCtx_out (s : State) (c : Nat) (x : Ctx) : (s.setCtx c x).out = s.out := rfl
@[simp] theorem State.setCtx_pending (s : State) (c : Nat) (x : Ctx) : (s.setCtx c x).pending = s.pending := rfl

@[simp] theorem State.modCtx_datum (s : State) (c : Nat) (f : Ctx → Ctx) : (s.modCtx c f).datum = s.datum := rfl
@[simp] theorem State.modCtx_draw (s : State) (c : Nat) (f : Ctx → Ctx) : (s.modCtx c f).draw = s.draw := rfl
@[simp] theorem State.modCtx_pwr (s : State) (c : Nat) (f : Ctx → Ctx) : (s.modCtx c f).pwr = s.pwr := rfl
@[simp] theorem State.modCtx_dat (s : State) (c : Nat) (f : Ctx → Ctx) : (s.modCtx c f).dat = s.dat := rfl
@[simp] theorem State.modCtx_mem (s : State) (c : Nat) (f : Ctx → Ctx) : (s.modCtx c f).mem = s.mem := rfl
@[simp] theorem State.modCtx_upsets (s : State) (c : Nat) (f : Ctx → Ctx) : (s.modCtx c f).upsets = s.upsets := rfl
@[simp] theorem State.modCtx_setter (s : State) (c : Nat) (f : Ctx → Ctx) : (s.modCtx c f).setter = s.setter := rfl
@[simp] theorem State.modCtx_frames0 (s : State) (c : Nat) (f : Ctx → Ctx) : (s.modCtx c f).frames0 = s.frames0 := rfl
@[simp] theorem State.modCtx_frames1 (s : State) (c : Nat) (f : Ctx → Ctx) : (s.modCtx c f).frames1 = s.frames1 := rfl
@[simp] theorem State.modCtx_refilling (s : State) (c : Nat) (f : Ctx → Ctx) : (s.modCtx c f).refilling = s.refilling := rfl
@[simp] theorem State.modCtx_demoting (s : State) (c : Nat) (f : Ctx → Ctx) : (s.modCtx c f).demoting = s.demoting := rfl
@[simp] theorem State.modCtx_regs (s : State) (c : Nat) (f : Ctx → Ctx) : (s.modCtx c f).regs = s.regs := rfl
@[simp] theorem State.modCtx_bankS (s : State) (c : Nat) (f : Ctx → Ctx) : (s.modCtx c f).bankS = s.bankS := rfl
@[simp] theorem State.modCtx_bankM (s : State) (c : Nat) (f : Ctx → Ctx) : (s.modCtx c f).bankM = s.bankM := rfl
@[simp] theorem State.modCtx_kilns (s : State) (c : Nat) (f : Ctx → Ctx) : (s.modCtx c f).kilns = s.kilns := rfl
@[simp] theorem State.modCtx_pframes (s : State) (c : Nat) (f : Ctx → Ctx) : (s.modCtx c f).pframes = s.pframes := rfl
@[simp] theorem State.modCtx_entriesFree (s : State) (c : Nat) (f : Ctx → Ctx) : (s.modCtx c f).entriesFree = s.entriesFree := rfl
@[simp] theorem State.modCtx_entriesLow (s : State) (c : Nat) (f : Ctx → Ctx) : (s.modCtx c f).entriesLow = s.entriesLow := rfl
@[simp] theorem State.modCtx_tier (s : State) (c : Nat) (f : Ctx → Ctx) : (s.modCtx c f).tier = s.tier := rfl
@[simp] theorem State.modCtx_ports (s : State) (c : Nat) (f : Ctx → Ctx) : (s.modCtx c f).ports = s.ports := rfl
@[simp] theorem State.modCtx_discards (s : State) (c : Nat) (f : Ctx → Ctx) : (s.modCtx c f).discards = s.discards := rfl
@[simp] theorem State.modCtx_discardIn (s : State) (c : Nat) (f : Ctx → Ctx) : (s.modCtx c f).discardIn = s.discardIn := rfl
@[simp] theorem State.modCtx_host (s : State) (c : Nat) (f : Ctx → Ctx) : (s.modCtx c f).host = s.host := rfl
@[simp] theorem State.modCtx_log (s : State) (c : Nat) (f : Ctx → Ctx) : (s.modCtx c f).log = s.log := rfl
@[simp] theorem State.modCtx_trust (s : State) (c : Nat) (f : Ctx → Ctx) : (s.modCtx c f).trust = s.trust := rfl
@[simp] theorem State.modCtx_out (s : State) (c : Nat) (f : Ctx → Ctx) : (s.modCtx c f).out = s.out := rfl
@[simp] theorem State.modCtx_pending (s : State) (c : Nat) (f : Ctx → Ctx) : (s.modCtx c f).pending = s.pending := rfl

@[simp] theorem State.setKiln_datum (s : State) (n : Nat) (x : Kiln) : (s.setKiln n x).datum = s.datum := rfl
@[simp] theorem State.setKiln_draw (s : State) (n : Nat) (x : Kiln) : (s.setKiln n x).draw = s.draw := rfl
@[simp] theorem State.setKiln_pwr (s : State) (n : Nat) (x : Kiln) : (s.setKiln n x).pwr = s.pwr := rfl
@[simp] theorem State.setKiln_dat (s : State) (n : Nat) (x : Kiln) : (s.setKiln n x).dat = s.dat := rfl
@[simp] theorem State.setKiln_mem (s : State) (n : Nat) (x : Kiln) : (s.setKiln n x).mem = s.mem := rfl
@[simp] theorem State.setKiln_upsets (s : State) (n : Nat) (x : Kiln) : (s.setKiln n x).upsets = s.upsets := rfl
@[simp] theorem State.setKiln_setter (s : State) (n : Nat) (x : Kiln) : (s.setKiln n x).setter = s.setter := rfl
@[simp] theorem State.setKiln_frames0 (s : State) (n : Nat) (x : Kiln) : (s.setKiln n x).frames0 = s.frames0 := rfl
@[simp] theorem State.setKiln_frames1 (s : State) (n : Nat) (x : Kiln) : (s.setKiln n x).frames1 = s.frames1 := rfl
@[simp] theorem State.setKiln_refilling (s : State) (n : Nat) (x : Kiln) : (s.setKiln n x).refilling = s.refilling := rfl
@[simp] theorem State.setKiln_demoting (s : State) (n : Nat) (x : Kiln) : (s.setKiln n x).demoting = s.demoting := rfl
@[simp] theorem State.setKiln_regs (s : State) (n : Nat) (x : Kiln) : (s.setKiln n x).regs = s.regs := rfl
@[simp] theorem State.setKiln_bankS (s : State) (n : Nat) (x : Kiln) : (s.setKiln n x).bankS = s.bankS := rfl
@[simp] theorem State.setKiln_bankM (s : State) (n : Nat) (x : Kiln) : (s.setKiln n x).bankM = s.bankM := rfl
@[simp] theorem State.setKiln_ctxs (s : State) (n : Nat) (x : Kiln) : (s.setKiln n x).ctxs = s.ctxs := rfl
@[simp] theorem State.setKiln_pframes (s : State) (n : Nat) (x : Kiln) : (s.setKiln n x).pframes = s.pframes := rfl
@[simp] theorem State.setKiln_entriesFree (s : State) (n : Nat) (x : Kiln) : (s.setKiln n x).entriesFree = s.entriesFree := rfl
@[simp] theorem State.setKiln_entriesLow (s : State) (n : Nat) (x : Kiln) : (s.setKiln n x).entriesLow = s.entriesLow := rfl
@[simp] theorem State.setKiln_tier (s : State) (n : Nat) (x : Kiln) : (s.setKiln n x).tier = s.tier := rfl
@[simp] theorem State.setKiln_ports (s : State) (n : Nat) (x : Kiln) : (s.setKiln n x).ports = s.ports := rfl
@[simp] theorem State.setKiln_discards (s : State) (n : Nat) (x : Kiln) : (s.setKiln n x).discards = s.discards := rfl
@[simp] theorem State.setKiln_discardIn (s : State) (n : Nat) (x : Kiln) : (s.setKiln n x).discardIn = s.discardIn := rfl
@[simp] theorem State.setKiln_host (s : State) (n : Nat) (x : Kiln) : (s.setKiln n x).host = s.host := rfl
@[simp] theorem State.setKiln_log (s : State) (n : Nat) (x : Kiln) : (s.setKiln n x).log = s.log := rfl
@[simp] theorem State.setKiln_trust (s : State) (n : Nat) (x : Kiln) : (s.setKiln n x).trust = s.trust := rfl
@[simp] theorem State.setKiln_out (s : State) (n : Nat) (x : Kiln) : (s.setKiln n x).out = s.out := rfl
@[simp] theorem State.setKiln_pending (s : State) (n : Nat) (x : Kiln) : (s.setKiln n x).pending = s.pending := rfl

@[simp] theorem State.modKiln_datum (s : State) (n : Nat) (f : Kiln → Kiln) : (s.modKiln n f).datum = s.datum := rfl
@[simp] theorem State.modKiln_draw (s : State) (n : Nat) (f : Kiln → Kiln) : (s.modKiln n f).draw = s.draw := rfl
@[simp] theorem State.modKiln_pwr (s : State) (n : Nat) (f : Kiln → Kiln) : (s.modKiln n f).pwr = s.pwr := rfl
@[simp] theorem State.modKiln_dat (s : State) (n : Nat) (f : Kiln → Kiln) : (s.modKiln n f).dat = s.dat := rfl
@[simp] theorem State.modKiln_mem (s : State) (n : Nat) (f : Kiln → Kiln) : (s.modKiln n f).mem = s.mem := rfl
@[simp] theorem State.modKiln_upsets (s : State) (n : Nat) (f : Kiln → Kiln) : (s.modKiln n f).upsets = s.upsets := rfl
@[simp] theorem State.modKiln_setter (s : State) (n : Nat) (f : Kiln → Kiln) : (s.modKiln n f).setter = s.setter := rfl
@[simp] theorem State.modKiln_frames0 (s : State) (n : Nat) (f : Kiln → Kiln) : (s.modKiln n f).frames0 = s.frames0 := rfl
@[simp] theorem State.modKiln_frames1 (s : State) (n : Nat) (f : Kiln → Kiln) : (s.modKiln n f).frames1 = s.frames1 := rfl
@[simp] theorem State.modKiln_refilling (s : State) (n : Nat) (f : Kiln → Kiln) : (s.modKiln n f).refilling = s.refilling := rfl
@[simp] theorem State.modKiln_demoting (s : State) (n : Nat) (f : Kiln → Kiln) : (s.modKiln n f).demoting = s.demoting := rfl
@[simp] theorem State.modKiln_regs (s : State) (n : Nat) (f : Kiln → Kiln) : (s.modKiln n f).regs = s.regs := rfl
@[simp] theorem State.modKiln_bankS (s : State) (n : Nat) (f : Kiln → Kiln) : (s.modKiln n f).bankS = s.bankS := rfl
@[simp] theorem State.modKiln_bankM (s : State) (n : Nat) (f : Kiln → Kiln) : (s.modKiln n f).bankM = s.bankM := rfl
@[simp] theorem State.modKiln_ctxs (s : State) (n : Nat) (f : Kiln → Kiln) : (s.modKiln n f).ctxs = s.ctxs := rfl
@[simp] theorem State.modKiln_pframes (s : State) (n : Nat) (f : Kiln → Kiln) : (s.modKiln n f).pframes = s.pframes := rfl
@[simp] theorem State.modKiln_entriesFree (s : State) (n : Nat) (f : Kiln → Kiln) : (s.modKiln n f).entriesFree = s.entriesFree := rfl
@[simp] theorem State.modKiln_entriesLow (s : State) (n : Nat) (f : Kiln → Kiln) : (s.modKiln n f).entriesLow = s.entriesLow := rfl
@[simp] theorem State.modKiln_tier (s : State) (n : Nat) (f : Kiln → Kiln) : (s.modKiln n f).tier = s.tier := rfl
@[simp] theorem State.modKiln_ports (s : State) (n : Nat) (f : Kiln → Kiln) : (s.modKiln n f).ports = s.ports := rfl
@[simp] theorem State.modKiln_discards (s : State) (n : Nat) (f : Kiln → Kiln) : (s.modKiln n f).discards = s.discards := rfl
@[simp] theorem State.modKiln_discardIn (s : State) (n : Nat) (f : Kiln → Kiln) : (s.modKiln n f).discardIn = s.discardIn := rfl
@[simp] theorem State.modKiln_host (s : State) (n : Nat) (f : Kiln → Kiln) : (s.modKiln n f).host = s.host := rfl
@[simp] theorem State.modKiln_log (s : State) (n : Nat) (f : Kiln → Kiln) : (s.modKiln n f).log = s.log := rfl
@[simp] theorem State.modKiln_trust (s : State) (n : Nat) (f : Kiln → Kiln) : (s.modKiln n f).trust = s.trust := rfl
@[simp] theorem State.modKiln_out (s : State) (n : Nat) (f : Kiln → Kiln) : (s.modKiln n f).out = s.out := rfl
@[simp] theorem State.modKiln_pending (s : State) (n : Nat) (f : Kiln → Kiln) : (s.modKiln n f).pending = s.pending := rfl

@[simp] theorem State.setPort_datum (s : State) (p : Nat) (x : Port) : (s.setPort p x).datum = s.datum := rfl
@[simp] theorem State.setPort_draw (s : State) (p : Nat) (x : Port) : (s.setPort p x).draw = s.draw := rfl
@[simp] theorem State.setPort_pwr (s : State) (p : Nat) (x : Port) : (s.setPort p x).pwr = s.pwr := rfl
@[simp] theorem State.setPort_dat (s : State) (p : Nat) (x : Port) : (s.setPort p x).dat = s.dat := rfl
@[simp] theorem State.setPort_mem (s : State) (p : Nat) (x : Port) : (s.setPort p x).mem = s.mem := rfl
@[simp] theorem State.setPort_upsets (s : State) (p : Nat) (x : Port) : (s.setPort p x).upsets = s.upsets := rfl
@[simp] theorem State.setPort_setter (s : State) (p : Nat) (x : Port) : (s.setPort p x).setter = s.setter := rfl
@[simp] theorem State.setPort_frames0 (s : State) (p : Nat) (x : Port) : (s.setPort p x).frames0 = s.frames0 := rfl
@[simp] theorem State.setPort_frames1 (s : State) (p : Nat) (x : Port) : (s.setPort p x).frames1 = s.frames1 := rfl
@[simp] theorem State.setPort_refilling (s : State) (p : Nat) (x : Port) : (s.setPort p x).refilling = s.refilling := rfl
@[simp] theorem State.setPort_demoting (s : State) (p : Nat) (x : Port) : (s.setPort p x).demoting = s.demoting := rfl
@[simp] theorem State.setPort_regs (s : State) (p : Nat) (x : Port) : (s.setPort p x).regs = s.regs := rfl
@[simp] theorem State.setPort_bankS (s : State) (p : Nat) (x : Port) : (s.setPort p x).bankS = s.bankS := rfl
@[simp] theorem State.setPort_bankM (s : State) (p : Nat) (x : Port) : (s.setPort p x).bankM = s.bankM := rfl
@[simp] theorem State.setPort_ctxs (s : State) (p : Nat) (x : Port) : (s.setPort p x).ctxs = s.ctxs := rfl
@[simp] theorem State.setPort_kilns (s : State) (p : Nat) (x : Port) : (s.setPort p x).kilns = s.kilns := rfl
@[simp] theorem State.setPort_pframes (s : State) (p : Nat) (x : Port) : (s.setPort p x).pframes = s.pframes := rfl
@[simp] theorem State.setPort_entriesFree (s : State) (p : Nat) (x : Port) : (s.setPort p x).entriesFree = s.entriesFree := rfl
@[simp] theorem State.setPort_entriesLow (s : State) (p : Nat) (x : Port) : (s.setPort p x).entriesLow = s.entriesLow := rfl
@[simp] theorem State.setPort_tier (s : State) (p : Nat) (x : Port) : (s.setPort p x).tier = s.tier := rfl
@[simp] theorem State.setPort_discards (s : State) (p : Nat) (x : Port) : (s.setPort p x).discards = s.discards := rfl
@[simp] theorem State.setPort_discardIn (s : State) (p : Nat) (x : Port) : (s.setPort p x).discardIn = s.discardIn := rfl
@[simp] theorem State.setPort_host (s : State) (p : Nat) (x : Port) : (s.setPort p x).host = s.host := rfl
@[simp] theorem State.setPort_log (s : State) (p : Nat) (x : Port) : (s.setPort p x).log = s.log := rfl
@[simp] theorem State.setPort_trust (s : State) (p : Nat) (x : Port) : (s.setPort p x).trust = s.trust := rfl
@[simp] theorem State.setPort_out (s : State) (p : Nat) (x : Port) : (s.setPort p x).out = s.out := rfl
@[simp] theorem State.setPort_pending (s : State) (p : Nat) (x : Port) : (s.setPort p x).pending = s.pending := rfl

@[simp] theorem State.modPort_datum (s : State) (p : Nat) (f : Port → Port) : (s.modPort p f).datum = s.datum := rfl
@[simp] theorem State.modPort_draw (s : State) (p : Nat) (f : Port → Port) : (s.modPort p f).draw = s.draw := rfl
@[simp] theorem State.modPort_pwr (s : State) (p : Nat) (f : Port → Port) : (s.modPort p f).pwr = s.pwr := rfl
@[simp] theorem State.modPort_dat (s : State) (p : Nat) (f : Port → Port) : (s.modPort p f).dat = s.dat := rfl
@[simp] theorem State.modPort_mem (s : State) (p : Nat) (f : Port → Port) : (s.modPort p f).mem = s.mem := rfl
@[simp] theorem State.modPort_upsets (s : State) (p : Nat) (f : Port → Port) : (s.modPort p f).upsets = s.upsets := rfl
@[simp] theorem State.modPort_setter (s : State) (p : Nat) (f : Port → Port) : (s.modPort p f).setter = s.setter := rfl
@[simp] theorem State.modPort_frames0 (s : State) (p : Nat) (f : Port → Port) : (s.modPort p f).frames0 = s.frames0 := rfl
@[simp] theorem State.modPort_frames1 (s : State) (p : Nat) (f : Port → Port) : (s.modPort p f).frames1 = s.frames1 := rfl
@[simp] theorem State.modPort_refilling (s : State) (p : Nat) (f : Port → Port) : (s.modPort p f).refilling = s.refilling := rfl
@[simp] theorem State.modPort_demoting (s : State) (p : Nat) (f : Port → Port) : (s.modPort p f).demoting = s.demoting := rfl
@[simp] theorem State.modPort_regs (s : State) (p : Nat) (f : Port → Port) : (s.modPort p f).regs = s.regs := rfl
@[simp] theorem State.modPort_bankS (s : State) (p : Nat) (f : Port → Port) : (s.modPort p f).bankS = s.bankS := rfl
@[simp] theorem State.modPort_bankM (s : State) (p : Nat) (f : Port → Port) : (s.modPort p f).bankM = s.bankM := rfl
@[simp] theorem State.modPort_ctxs (s : State) (p : Nat) (f : Port → Port) : (s.modPort p f).ctxs = s.ctxs := rfl
@[simp] theorem State.modPort_kilns (s : State) (p : Nat) (f : Port → Port) : (s.modPort p f).kilns = s.kilns := rfl
@[simp] theorem State.modPort_pframes (s : State) (p : Nat) (f : Port → Port) : (s.modPort p f).pframes = s.pframes := rfl
@[simp] theorem State.modPort_entriesFree (s : State) (p : Nat) (f : Port → Port) : (s.modPort p f).entriesFree = s.entriesFree := rfl
@[simp] theorem State.modPort_entriesLow (s : State) (p : Nat) (f : Port → Port) : (s.modPort p f).entriesLow = s.entriesLow := rfl
@[simp] theorem State.modPort_tier (s : State) (p : Nat) (f : Port → Port) : (s.modPort p f).tier = s.tier := rfl
@[simp] theorem State.modPort_discards (s : State) (p : Nat) (f : Port → Port) : (s.modPort p f).discards = s.discards := rfl
@[simp] theorem State.modPort_discardIn (s : State) (p : Nat) (f : Port → Port) : (s.modPort p f).discardIn = s.discardIn := rfl
@[simp] theorem State.modPort_host (s : State) (p : Nat) (f : Port → Port) : (s.modPort p f).host = s.host := rfl
@[simp] theorem State.modPort_log (s : State) (p : Nat) (f : Port → Port) : (s.modPort p f).log = s.log := rfl
@[simp] theorem State.modPort_trust (s : State) (p : Nat) (f : Port → Port) : (s.modPort p f).trust = s.trust := rfl
@[simp] theorem State.modPort_out (s : State) (p : Nat) (f : Port → Port) : (s.modPort p f).out = s.out := rfl
@[simp] theorem State.modPort_pending (s : State) (p : Nat) (f : Port → Port) : (s.modPort p f).pending = s.pending := rfl

@[simp] theorem State.modChan_datum (s : State) (d ch : Nat) (f : Chan → Chan) : (s.modChan d ch f).datum = s.datum := rfl
@[simp] theorem State.modChan_draw (s : State) (d ch : Nat) (f : Chan → Chan) : (s.modChan d ch f).draw = s.draw := rfl
@[simp] theorem State.modChan_pwr (s : State) (d ch : Nat) (f : Chan → Chan) : (s.modChan d ch f).pwr = s.pwr := rfl
@[simp] theorem State.modChan_dat (s : State) (d ch : Nat) (f : Chan → Chan) : (s.modChan d ch f).dat = s.dat := rfl
@[simp] theorem State.modChan_mem (s : State) (d ch : Nat) (f : Chan → Chan) : (s.modChan d ch f).mem = s.mem := rfl
@[simp] theorem State.modChan_upsets (s : State) (d ch : Nat) (f : Chan → Chan) : (s.modChan d ch f).upsets = s.upsets := rfl
@[simp] theorem State.modChan_frames0 (s : State) (d ch : Nat) (f : Chan → Chan) : (s.modChan d ch f).frames0 = s.frames0 := rfl
@[simp] theorem State.modChan_frames1 (s : State) (d ch : Nat) (f : Chan → Chan) : (s.modChan d ch f).frames1 = s.frames1 := rfl
@[simp] theorem State.modChan_refilling (s : State) (d ch : Nat) (f : Chan → Chan) : (s.modChan d ch f).refilling = s.refilling := rfl
@[simp] theorem State.modChan_demoting (s : State) (d ch : Nat) (f : Chan → Chan) : (s.modChan d ch f).demoting = s.demoting := rfl
@[simp] theorem State.modChan_regs (s : State) (d ch : Nat) (f : Chan → Chan) : (s.modChan d ch f).regs = s.regs := rfl
@[simp] theorem State.modChan_bankS (s : State) (d ch : Nat) (f : Chan → Chan) : (s.modChan d ch f).bankS = s.bankS := rfl
@[simp] theorem State.modChan_bankM (s : State) (d ch : Nat) (f : Chan → Chan) : (s.modChan d ch f).bankM = s.bankM := rfl
@[simp] theorem State.modChan_ctxs (s : State) (d ch : Nat) (f : Chan → Chan) : (s.modChan d ch f).ctxs = s.ctxs := rfl
@[simp] theorem State.modChan_kilns (s : State) (d ch : Nat) (f : Chan → Chan) : (s.modChan d ch f).kilns = s.kilns := rfl
@[simp] theorem State.modChan_pframes (s : State) (d ch : Nat) (f : Chan → Chan) : (s.modChan d ch f).pframes = s.pframes := rfl
@[simp] theorem State.modChan_entriesFree (s : State) (d ch : Nat) (f : Chan → Chan) : (s.modChan d ch f).entriesFree = s.entriesFree := rfl
@[simp] theorem State.modChan_entriesLow (s : State) (d ch : Nat) (f : Chan → Chan) : (s.modChan d ch f).entriesLow = s.entriesLow := rfl
@[simp] theorem State.modChan_tier (s : State) (d ch : Nat) (f : Chan → Chan) : (s.modChan d ch f).tier = s.tier := rfl
@[simp] theorem State.modChan_ports (s : State) (d ch : Nat) (f : Chan → Chan) : (s.modChan d ch f).ports = s.ports := rfl
@[simp] theorem State.modChan_discards (s : State) (d ch : Nat) (f : Chan → Chan) : (s.modChan d ch f).discards = s.discards := rfl
@[simp] theorem State.modChan_discardIn (s : State) (d ch : Nat) (f : Chan → Chan) : (s.modChan d ch f).discardIn = s.discardIn := rfl
@[simp] theorem State.modChan_host (s : State) (d ch : Nat) (f : Chan → Chan) : (s.modChan d ch f).host = s.host := rfl
@[simp] theorem State.modChan_log (s : State) (d ch : Nat) (f : Chan → Chan) : (s.modChan d ch f).log = s.log := rfl
@[simp] theorem State.modChan_trust (s : State) (d ch : Nat) (f : Chan → Chan) : (s.modChan d ch f).trust = s.trust := rfl
@[simp] theorem State.modChan_out (s : State) (d ch : Nat) (f : Chan → Chan) : (s.modChan d ch f).out = s.out := rfl
@[simp] theorem State.modChan_pending (s : State) (d ch : Nat) (f : Chan → Chan) : (s.modChan d ch f).pending = s.pending := rfl

@[simp] theorem State.emit_datum (s : State) (o : Output) : (s.emit o).datum = s.datum := rfl
@[simp] theorem State.emit_draw (s : State) (o : Output) : (s.emit o).draw = s.draw := rfl
@[simp] theorem State.emit_pwr (s : State) (o : Output) : (s.emit o).pwr = s.pwr := rfl
@[simp] theorem State.emit_dat (s : State) (o : Output) : (s.emit o).dat = s.dat := rfl
@[simp] theorem State.emit_mem (s : State) (o : Output) : (s.emit o).mem = s.mem := rfl
@[simp] theorem State.emit_upsets (s : State) (o : Output) : (s.emit o).upsets = s.upsets := rfl
@[simp] theorem State.emit_setter (s : State) (o : Output) : (s.emit o).setter = s.setter := rfl
@[simp] theorem State.emit_frames0 (s : State) (o : Output) : (s.emit o).frames0 = s.frames0 := rfl
@[simp] theorem State.emit_frames1 (s : State) (o : Output) : (s.emit o).frames1 = s.frames1 := rfl
@[simp] theorem State.emit_refilling (s : State) (o : Output) : (s.emit o).refilling = s.refilling := rfl
@[simp] theorem State.emit_demoting (s : State) (o : Output) : (s.emit o).demoting = s.demoting := rfl
@[simp] theorem State.emit_regs (s : State) (o : Output) : (s.emit o).regs = s.regs := rfl
@[simp] theorem State.emit_bankS (s : State) (o : Output) : (s.emit o).bankS = s.bankS := rfl
@[simp] theorem State.emit_bankM (s : State) (o : Output) : (s.emit o).bankM = s.bankM := rfl
@[simp] theorem State.emit_ctxs (s : State) (o : Output) : (s.emit o).ctxs = s.ctxs := rfl
@[simp] theorem State.emit_kilns (s : State) (o : Output) : (s.emit o).kilns = s.kilns := rfl
@[simp] theorem State.emit_pframes (s : State) (o : Output) : (s.emit o).pframes = s.pframes := rfl
@[simp] theorem State.emit_entriesFree (s : State) (o : Output) : (s.emit o).entriesFree = s.entriesFree := rfl
@[simp] theorem State.emit_entriesLow (s : State) (o : Output) : (s.emit o).entriesLow = s.entriesLow := rfl
@[simp] theorem State.emit_tier (s : State) (o : Output) : (s.emit o).tier = s.tier := rfl
@[simp] theorem State.emit_ports (s : State) (o : Output) : (s.emit o).ports = s.ports := rfl
@[simp] theorem State.emit_discards (s : State) (o : Output) : (s.emit o).discards = s.discards := rfl
@[simp] theorem State.emit_discardIn (s : State) (o : Output) : (s.emit o).discardIn = s.discardIn := rfl
@[simp] theorem State.emit_host (s : State) (o : Output) : (s.emit o).host = s.host := rfl
@[simp] theorem State.emit_log (s : State) (o : Output) : (s.emit o).log = s.log := rfl
@[simp] theorem State.emit_trust (s : State) (o : Output) : (s.emit o).trust = s.trust := rfl
@[simp] theorem State.emit_pending (s : State) (o : Output) : (s.emit o).pending = s.pending := rfl

@[simp] theorem State.setReg_datum (s : State) (a v : Nat) : (s.setReg a v).datum = s.datum := rfl
@[simp] theorem State.setReg_draw (s : State) (a v : Nat) : (s.setReg a v).draw = s.draw := rfl
@[simp] theorem State.setReg_pwr (s : State) (a v : Nat) : (s.setReg a v).pwr = s.pwr := rfl
@[simp] theorem State.setReg_dat (s : State) (a v : Nat) : (s.setReg a v).dat = s.dat := rfl
@[simp] theorem State.setReg_mem (s : State) (a v : Nat) : (s.setReg a v).mem = s.mem := rfl
@[simp] theorem State.setReg_upsets (s : State) (a v : Nat) : (s.setReg a v).upsets = s.upsets := rfl
@[simp] theorem State.setReg_setter (s : State) (a v : Nat) : (s.setReg a v).setter = s.setter := rfl
@[simp] theorem State.setReg_frames0 (s : State) (a v : Nat) : (s.setReg a v).frames0 = s.frames0 := rfl
@[simp] theorem State.setReg_frames1 (s : State) (a v : Nat) : (s.setReg a v).frames1 = s.frames1 := rfl
@[simp] theorem State.setReg_refilling (s : State) (a v : Nat) : (s.setReg a v).refilling = s.refilling := rfl
@[simp] theorem State.setReg_demoting (s : State) (a v : Nat) : (s.setReg a v).demoting = s.demoting := rfl
@[simp] theorem State.setReg_bankS (s : State) (a v : Nat) : (s.setReg a v).bankS = s.bankS := rfl
@[simp] theorem State.setReg_bankM (s : State) (a v : Nat) : (s.setReg a v).bankM = s.bankM := rfl
@[simp] theorem State.setReg_ctxs (s : State) (a v : Nat) : (s.setReg a v).ctxs = s.ctxs := rfl
@[simp] theorem State.setReg_kilns (s : State) (a v : Nat) : (s.setReg a v).kilns = s.kilns := rfl
@[simp] theorem State.setReg_pframes (s : State) (a v : Nat) : (s.setReg a v).pframes = s.pframes := rfl
@[simp] theorem State.setReg_entriesFree (s : State) (a v : Nat) : (s.setReg a v).entriesFree = s.entriesFree := rfl
@[simp] theorem State.setReg_entriesLow (s : State) (a v : Nat) : (s.setReg a v).entriesLow = s.entriesLow := rfl
@[simp] theorem State.setReg_tier (s : State) (a v : Nat) : (s.setReg a v).tier = s.tier := rfl
@[simp] theorem State.setReg_ports (s : State) (a v : Nat) : (s.setReg a v).ports = s.ports := rfl
@[simp] theorem State.setReg_discards (s : State) (a v : Nat) : (s.setReg a v).discards = s.discards := rfl
@[simp] theorem State.setReg_discardIn (s : State) (a v : Nat) : (s.setReg a v).discardIn = s.discardIn := rfl
@[simp] theorem State.setReg_host (s : State) (a v : Nat) : (s.setReg a v).host = s.host := rfl
@[simp] theorem State.setReg_log (s : State) (a v : Nat) : (s.setReg a v).log = s.log := rfl
@[simp] theorem State.setReg_trust (s : State) (a v : Nat) : (s.setReg a v).trust = s.trust := rfl
@[simp] theorem State.setReg_out (s : State) (a v : Nat) : (s.setReg a v).out = s.out := rfl
@[simp] theorem State.setReg_pending (s : State) (a v : Nat) : (s.setReg a v).pending = s.pending := rfl

@[simp] theorem State.modTier_datum (s : State) (f : Tier → Tier) : (s.modTier f).datum = s.datum := rfl
@[simp] theorem State.modTier_draw (s : State) (f : Tier → Tier) : (s.modTier f).draw = s.draw := rfl
@[simp] theorem State.modTier_pwr (s : State) (f : Tier → Tier) : (s.modTier f).pwr = s.pwr := rfl
@[simp] theorem State.modTier_dat (s : State) (f : Tier → Tier) : (s.modTier f).dat = s.dat := rfl
@[simp] theorem State.modTier_mem (s : State) (f : Tier → Tier) : (s.modTier f).mem = s.mem := rfl
@[simp] theorem State.modTier_upsets (s : State) (f : Tier → Tier) : (s.modTier f).upsets = s.upsets := rfl
@[simp] theorem State.modTier_setter (s : State) (f : Tier → Tier) : (s.modTier f).setter = s.setter := rfl
@[simp] theorem State.modTier_frames0 (s : State) (f : Tier → Tier) : (s.modTier f).frames0 = s.frames0 := rfl
@[simp] theorem State.modTier_frames1 (s : State) (f : Tier → Tier) : (s.modTier f).frames1 = s.frames1 := rfl
@[simp] theorem State.modTier_refilling (s : State) (f : Tier → Tier) : (s.modTier f).refilling = s.refilling := rfl
@[simp] theorem State.modTier_demoting (s : State) (f : Tier → Tier) : (s.modTier f).demoting = s.demoting := rfl
@[simp] theorem State.modTier_regs (s : State) (f : Tier → Tier) : (s.modTier f).regs = s.regs := rfl
@[simp] theorem State.modTier_bankS (s : State) (f : Tier → Tier) : (s.modTier f).bankS = s.bankS := rfl
@[simp] theorem State.modTier_bankM (s : State) (f : Tier → Tier) : (s.modTier f).bankM = s.bankM := rfl
@[simp] theorem State.modTier_ctxs (s : State) (f : Tier → Tier) : (s.modTier f).ctxs = s.ctxs := rfl
@[simp] theorem State.modTier_kilns (s : State) (f : Tier → Tier) : (s.modTier f).kilns = s.kilns := rfl
@[simp] theorem State.modTier_pframes (s : State) (f : Tier → Tier) : (s.modTier f).pframes = s.pframes := rfl
@[simp] theorem State.modTier_entriesFree (s : State) (f : Tier → Tier) : (s.modTier f).entriesFree = s.entriesFree := rfl
@[simp] theorem State.modTier_entriesLow (s : State) (f : Tier → Tier) : (s.modTier f).entriesLow = s.entriesLow := rfl
@[simp] theorem State.modTier_ports (s : State) (f : Tier → Tier) : (s.modTier f).ports = s.ports := rfl
@[simp] theorem State.modTier_discards (s : State) (f : Tier → Tier) : (s.modTier f).discards = s.discards := rfl
@[simp] theorem State.modTier_discardIn (s : State) (f : Tier → Tier) : (s.modTier f).discardIn = s.discardIn := rfl
@[simp] theorem State.modTier_host (s : State) (f : Tier → Tier) : (s.modTier f).host = s.host := rfl
@[simp] theorem State.modTier_log (s : State) (f : Tier → Tier) : (s.modTier f).log = s.log := rfl
@[simp] theorem State.modTier_trust (s : State) (f : Tier → Tier) : (s.modTier f).trust = s.trust := rfl
@[simp] theorem State.modTier_out (s : State) (f : Tier → Tier) : (s.modTier f).out = s.out := rfl
@[simp] theorem State.modTier_pending (s : State) (f : Tier → Tier) : (s.modTier f).pending = s.pending := rfl

@[simp] theorem State.modPwr_datum (s : State) (f : Power → Power) : (s.modPwr f).datum = s.datum := rfl
@[simp] theorem State.modPwr_draw (s : State) (f : Power → Power) : (s.modPwr f).draw = s.draw := rfl
@[simp] theorem State.modPwr_dat (s : State) (f : Power → Power) : (s.modPwr f).dat = s.dat := rfl
@[simp] theorem State.modPwr_mem (s : State) (f : Power → Power) : (s.modPwr f).mem = s.mem := rfl
@[simp] theorem State.modPwr_upsets (s : State) (f : Power → Power) : (s.modPwr f).upsets = s.upsets := rfl
@[simp] theorem State.modPwr_setter (s : State) (f : Power → Power) : (s.modPwr f).setter = s.setter := rfl
@[simp] theorem State.modPwr_frames0 (s : State) (f : Power → Power) : (s.modPwr f).frames0 = s.frames0 := rfl
@[simp] theorem State.modPwr_frames1 (s : State) (f : Power → Power) : (s.modPwr f).frames1 = s.frames1 := rfl
@[simp] theorem State.modPwr_refilling (s : State) (f : Power → Power) : (s.modPwr f).refilling = s.refilling := rfl
@[simp] theorem State.modPwr_demoting (s : State) (f : Power → Power) : (s.modPwr f).demoting = s.demoting := rfl
@[simp] theorem State.modPwr_regs (s : State) (f : Power → Power) : (s.modPwr f).regs = s.regs := rfl
@[simp] theorem State.modPwr_bankS (s : State) (f : Power → Power) : (s.modPwr f).bankS = s.bankS := rfl
@[simp] theorem State.modPwr_bankM (s : State) (f : Power → Power) : (s.modPwr f).bankM = s.bankM := rfl
@[simp] theorem State.modPwr_ctxs (s : State) (f : Power → Power) : (s.modPwr f).ctxs = s.ctxs := rfl
@[simp] theorem State.modPwr_kilns (s : State) (f : Power → Power) : (s.modPwr f).kilns = s.kilns := rfl
@[simp] theorem State.modPwr_pframes (s : State) (f : Power → Power) : (s.modPwr f).pframes = s.pframes := rfl
@[simp] theorem State.modPwr_entriesFree (s : State) (f : Power → Power) : (s.modPwr f).entriesFree = s.entriesFree := rfl
@[simp] theorem State.modPwr_entriesLow (s : State) (f : Power → Power) : (s.modPwr f).entriesLow = s.entriesLow := rfl
@[simp] theorem State.modPwr_tier (s : State) (f : Power → Power) : (s.modPwr f).tier = s.tier := rfl
@[simp] theorem State.modPwr_ports (s : State) (f : Power → Power) : (s.modPwr f).ports = s.ports := rfl
@[simp] theorem State.modPwr_discards (s : State) (f : Power → Power) : (s.modPwr f).discards = s.discards := rfl
@[simp] theorem State.modPwr_discardIn (s : State) (f : Power → Power) : (s.modPwr f).discardIn = s.discardIn := rfl
@[simp] theorem State.modPwr_host (s : State) (f : Power → Power) : (s.modPwr f).host = s.host := rfl
@[simp] theorem State.modPwr_log (s : State) (f : Power → Power) : (s.modPwr f).log = s.log := rfl
@[simp] theorem State.modPwr_trust (s : State) (f : Power → Power) : (s.modPwr f).trust = s.trust := rfl
@[simp] theorem State.modPwr_out (s : State) (f : Power → Power) : (s.modPwr f).out = s.out := rfl
@[simp] theorem State.modPwr_pending (s : State) (f : Power → Power) : (s.modPwr f).pending = s.pending := rfl

@[simp] theorem State.modHost_datum (s : State) (f : HostIf → HostIf) : (s.modHost f).datum = s.datum := rfl
@[simp] theorem State.modHost_draw (s : State) (f : HostIf → HostIf) : (s.modHost f).draw = s.draw := rfl
@[simp] theorem State.modHost_pwr (s : State) (f : HostIf → HostIf) : (s.modHost f).pwr = s.pwr := rfl
@[simp] theorem State.modHost_dat (s : State) (f : HostIf → HostIf) : (s.modHost f).dat = s.dat := rfl
@[simp] theorem State.modHost_mem (s : State) (f : HostIf → HostIf) : (s.modHost f).mem = s.mem := rfl
@[simp] theorem State.modHost_upsets (s : State) (f : HostIf → HostIf) : (s.modHost f).upsets = s.upsets := rfl
@[simp] theorem State.modHost_setter (s : State) (f : HostIf → HostIf) : (s.modHost f).setter = s.setter := rfl
@[simp] theorem State.modHost_frames0 (s : State) (f : HostIf → HostIf) : (s.modHost f).frames0 = s.frames0 := rfl
@[simp] theorem State.modHost_frames1 (s : State) (f : HostIf → HostIf) : (s.modHost f).frames1 = s.frames1 := rfl
@[simp] theorem State.modHost_refilling (s : State) (f : HostIf → HostIf) : (s.modHost f).refilling = s.refilling := rfl
@[simp] theorem State.modHost_demoting (s : State) (f : HostIf → HostIf) : (s.modHost f).demoting = s.demoting := rfl
@[simp] theorem State.modHost_regs (s : State) (f : HostIf → HostIf) : (s.modHost f).regs = s.regs := rfl
@[simp] theorem State.modHost_bankS (s : State) (f : HostIf → HostIf) : (s.modHost f).bankS = s.bankS := rfl
@[simp] theorem State.modHost_bankM (s : State) (f : HostIf → HostIf) : (s.modHost f).bankM = s.bankM := rfl
@[simp] theorem State.modHost_ctxs (s : State) (f : HostIf → HostIf) : (s.modHost f).ctxs = s.ctxs := rfl
@[simp] theorem State.modHost_kilns (s : State) (f : HostIf → HostIf) : (s.modHost f).kilns = s.kilns := rfl
@[simp] theorem State.modHost_pframes (s : State) (f : HostIf → HostIf) : (s.modHost f).pframes = s.pframes := rfl
@[simp] theorem State.modHost_entriesFree (s : State) (f : HostIf → HostIf) : (s.modHost f).entriesFree = s.entriesFree := rfl
@[simp] theorem State.modHost_entriesLow (s : State) (f : HostIf → HostIf) : (s.modHost f).entriesLow = s.entriesLow := rfl
@[simp] theorem State.modHost_tier (s : State) (f : HostIf → HostIf) : (s.modHost f).tier = s.tier := rfl
@[simp] theorem State.modHost_ports (s : State) (f : HostIf → HostIf) : (s.modHost f).ports = s.ports := rfl
@[simp] theorem State.modHost_discards (s : State) (f : HostIf → HostIf) : (s.modHost f).discards = s.discards := rfl
@[simp] theorem State.modHost_discardIn (s : State) (f : HostIf → HostIf) : (s.modHost f).discardIn = s.discardIn := rfl
@[simp] theorem State.modHost_log (s : State) (f : HostIf → HostIf) : (s.modHost f).log = s.log := rfl
@[simp] theorem State.modHost_trust (s : State) (f : HostIf → HostIf) : (s.modHost f).trust = s.trust := rfl
@[simp] theorem State.modHost_out (s : State) (f : HostIf → HostIf) : (s.modHost f).out = s.out := rfl
@[simp] theorem State.modHost_pending (s : State) (f : HostIf → HostIf) : (s.modHost f).pending = s.pending := rfl

@[simp] theorem State.modTrust_datum (s : State) (f : Trust → Trust) : (s.modTrust f).datum = s.datum := rfl
@[simp] theorem State.modTrust_draw (s : State) (f : Trust → Trust) : (s.modTrust f).draw = s.draw := rfl
@[simp] theorem State.modTrust_pwr (s : State) (f : Trust → Trust) : (s.modTrust f).pwr = s.pwr := rfl
@[simp] theorem State.modTrust_dat (s : State) (f : Trust → Trust) : (s.modTrust f).dat = s.dat := rfl
@[simp] theorem State.modTrust_mem (s : State) (f : Trust → Trust) : (s.modTrust f).mem = s.mem := rfl
@[simp] theorem State.modTrust_upsets (s : State) (f : Trust → Trust) : (s.modTrust f).upsets = s.upsets := rfl
@[simp] theorem State.modTrust_setter (s : State) (f : Trust → Trust) : (s.modTrust f).setter = s.setter := rfl
@[simp] theorem State.modTrust_frames0 (s : State) (f : Trust → Trust) : (s.modTrust f).frames0 = s.frames0 := rfl
@[simp] theorem State.modTrust_frames1 (s : State) (f : Trust → Trust) : (s.modTrust f).frames1 = s.frames1 := rfl
@[simp] theorem State.modTrust_refilling (s : State) (f : Trust → Trust) : (s.modTrust f).refilling = s.refilling := rfl
@[simp] theorem State.modTrust_demoting (s : State) (f : Trust → Trust) : (s.modTrust f).demoting = s.demoting := rfl
@[simp] theorem State.modTrust_regs (s : State) (f : Trust → Trust) : (s.modTrust f).regs = s.regs := rfl
@[simp] theorem State.modTrust_bankS (s : State) (f : Trust → Trust) : (s.modTrust f).bankS = s.bankS := rfl
@[simp] theorem State.modTrust_bankM (s : State) (f : Trust → Trust) : (s.modTrust f).bankM = s.bankM := rfl
@[simp] theorem State.modTrust_ctxs (s : State) (f : Trust → Trust) : (s.modTrust f).ctxs = s.ctxs := rfl
@[simp] theorem State.modTrust_kilns (s : State) (f : Trust → Trust) : (s.modTrust f).kilns = s.kilns := rfl
@[simp] theorem State.modTrust_pframes (s : State) (f : Trust → Trust) : (s.modTrust f).pframes = s.pframes := rfl
@[simp] theorem State.modTrust_entriesFree (s : State) (f : Trust → Trust) : (s.modTrust f).entriesFree = s.entriesFree := rfl
@[simp] theorem State.modTrust_entriesLow (s : State) (f : Trust → Trust) : (s.modTrust f).entriesLow = s.entriesLow := rfl
@[simp] theorem State.modTrust_tier (s : State) (f : Trust → Trust) : (s.modTrust f).tier = s.tier := rfl
@[simp] theorem State.modTrust_ports (s : State) (f : Trust → Trust) : (s.modTrust f).ports = s.ports := rfl
@[simp] theorem State.modTrust_discards (s : State) (f : Trust → Trust) : (s.modTrust f).discards = s.discards := rfl
@[simp] theorem State.modTrust_discardIn (s : State) (f : Trust → Trust) : (s.modTrust f).discardIn = s.discardIn := rfl
@[simp] theorem State.modTrust_host (s : State) (f : Trust → Trust) : (s.modTrust f).host = s.host := rfl
@[simp] theorem State.modTrust_log (s : State) (f : Trust → Trust) : (s.modTrust f).log = s.log := rfl
@[simp] theorem State.modTrust_out (s : State) (f : Trust → Trust) : (s.modTrust f).out = s.out := rfl
@[simp] theorem State.modTrust_pending (s : State) (f : Trust → Trust) : (s.modTrust f).pending = s.pending := rfl

@[simp] theorem State.poke_datum (s : State) (a : Nat) (bs : List Byte) : (s.poke a bs).datum = s.datum := rfl
@[simp] theorem State.poke_draw (s : State) (a : Nat) (bs : List Byte) : (s.poke a bs).draw = s.draw := rfl
@[simp] theorem State.poke_pwr (s : State) (a : Nat) (bs : List Byte) : (s.poke a bs).pwr = s.pwr := rfl
@[simp] theorem State.poke_dat (s : State) (a : Nat) (bs : List Byte) : (s.poke a bs).dat = s.dat := rfl
@[simp] theorem State.poke_setter (s : State) (a : Nat) (bs : List Byte) : (s.poke a bs).setter = s.setter := rfl
@[simp] theorem State.poke_frames0 (s : State) (a : Nat) (bs : List Byte) : (s.poke a bs).frames0 = s.frames0 := rfl
@[simp] theorem State.poke_frames1 (s : State) (a : Nat) (bs : List Byte) : (s.poke a bs).frames1 = s.frames1 := rfl
@[simp] theorem State.poke_refilling (s : State) (a : Nat) (bs : List Byte) : (s.poke a bs).refilling = s.refilling := rfl
@[simp] theorem State.poke_demoting (s : State) (a : Nat) (bs : List Byte) : (s.poke a bs).demoting = s.demoting := rfl
@[simp] theorem State.poke_regs (s : State) (a : Nat) (bs : List Byte) : (s.poke a bs).regs = s.regs := rfl
@[simp] theorem State.poke_bankS (s : State) (a : Nat) (bs : List Byte) : (s.poke a bs).bankS = s.bankS := rfl
@[simp] theorem State.poke_bankM (s : State) (a : Nat) (bs : List Byte) : (s.poke a bs).bankM = s.bankM := rfl
@[simp] theorem State.poke_ctxs (s : State) (a : Nat) (bs : List Byte) : (s.poke a bs).ctxs = s.ctxs := rfl
@[simp] theorem State.poke_kilns (s : State) (a : Nat) (bs : List Byte) : (s.poke a bs).kilns = s.kilns := rfl
@[simp] theorem State.poke_pframes (s : State) (a : Nat) (bs : List Byte) : (s.poke a bs).pframes = s.pframes := rfl
@[simp] theorem State.poke_entriesFree (s : State) (a : Nat) (bs : List Byte) : (s.poke a bs).entriesFree = s.entriesFree := rfl
@[simp] theorem State.poke_entriesLow (s : State) (a : Nat) (bs : List Byte) : (s.poke a bs).entriesLow = s.entriesLow := rfl
@[simp] theorem State.poke_tier (s : State) (a : Nat) (bs : List Byte) : (s.poke a bs).tier = s.tier := rfl
@[simp] theorem State.poke_ports (s : State) (a : Nat) (bs : List Byte) : (s.poke a bs).ports = s.ports := rfl
@[simp] theorem State.poke_discards (s : State) (a : Nat) (bs : List Byte) : (s.poke a bs).discards = s.discards := rfl
@[simp] theorem State.poke_discardIn (s : State) (a : Nat) (bs : List Byte) : (s.poke a bs).discardIn = s.discardIn := rfl
@[simp] theorem State.poke_host (s : State) (a : Nat) (bs : List Byte) : (s.poke a bs).host = s.host := rfl
@[simp] theorem State.poke_log (s : State) (a : Nat) (bs : List Byte) : (s.poke a bs).log = s.log := rfl
@[simp] theorem State.poke_trust (s : State) (a : Nat) (bs : List Byte) : (s.poke a bs).trust = s.trust := rfl
@[simp] theorem State.poke_out (s : State) (a : Nat) (bs : List Byte) : (s.poke a bs).out = s.out := rfl
@[simp] theorem State.poke_pending (s : State) (a : Nat) (bs : List Byte) : (s.poke a bs).pending = s.pending := rfl

@[simp] theorem State.setUpset_datum (s : State) (b : Nat) (p : Symbols.Pattern) : (s.setUpset b p).datum = s.datum := rfl
@[simp] theorem State.setUpset_draw (s : State) (b : Nat) (p : Symbols.Pattern) : (s.setUpset b p).draw = s.draw := rfl
@[simp] theorem State.setUpset_pwr (s : State) (b : Nat) (p : Symbols.Pattern) : (s.setUpset b p).pwr = s.pwr := rfl
@[simp] theorem State.setUpset_dat (s : State) (b : Nat) (p : Symbols.Pattern) : (s.setUpset b p).dat = s.dat := rfl
@[simp] theorem State.setUpset_mem (s : State) (b : Nat) (p : Symbols.Pattern) : (s.setUpset b p).mem = s.mem := rfl
@[simp] theorem State.setUpset_setter (s : State) (b : Nat) (p : Symbols.Pattern) : (s.setUpset b p).setter = s.setter := rfl
@[simp] theorem State.setUpset_frames0 (s : State) (b : Nat) (p : Symbols.Pattern) : (s.setUpset b p).frames0 = s.frames0 := rfl
@[simp] theorem State.setUpset_frames1 (s : State) (b : Nat) (p : Symbols.Pattern) : (s.setUpset b p).frames1 = s.frames1 := rfl
@[simp] theorem State.setUpset_refilling (s : State) (b : Nat) (p : Symbols.Pattern) : (s.setUpset b p).refilling = s.refilling := rfl
@[simp] theorem State.setUpset_demoting (s : State) (b : Nat) (p : Symbols.Pattern) : (s.setUpset b p).demoting = s.demoting := rfl
@[simp] theorem State.setUpset_regs (s : State) (b : Nat) (p : Symbols.Pattern) : (s.setUpset b p).regs = s.regs := rfl
@[simp] theorem State.setUpset_bankS (s : State) (b : Nat) (p : Symbols.Pattern) : (s.setUpset b p).bankS = s.bankS := rfl
@[simp] theorem State.setUpset_bankM (s : State) (b : Nat) (p : Symbols.Pattern) : (s.setUpset b p).bankM = s.bankM := rfl
@[simp] theorem State.setUpset_ctxs (s : State) (b : Nat) (p : Symbols.Pattern) : (s.setUpset b p).ctxs = s.ctxs := rfl
@[simp] theorem State.setUpset_kilns (s : State) (b : Nat) (p : Symbols.Pattern) : (s.setUpset b p).kilns = s.kilns := rfl
@[simp] theorem State.setUpset_pframes (s : State) (b : Nat) (p : Symbols.Pattern) : (s.setUpset b p).pframes = s.pframes := rfl
@[simp] theorem State.setUpset_entriesFree (s : State) (b : Nat) (p : Symbols.Pattern) : (s.setUpset b p).entriesFree = s.entriesFree := rfl
@[simp] theorem State.setUpset_entriesLow (s : State) (b : Nat) (p : Symbols.Pattern) : (s.setUpset b p).entriesLow = s.entriesLow := rfl
@[simp] theorem State.setUpset_tier (s : State) (b : Nat) (p : Symbols.Pattern) : (s.setUpset b p).tier = s.tier := rfl
@[simp] theorem State.setUpset_ports (s : State) (b : Nat) (p : Symbols.Pattern) : (s.setUpset b p).ports = s.ports := rfl
@[simp] theorem State.setUpset_discards (s : State) (b : Nat) (p : Symbols.Pattern) : (s.setUpset b p).discards = s.discards := rfl
@[simp] theorem State.setUpset_discardIn (s : State) (b : Nat) (p : Symbols.Pattern) : (s.setUpset b p).discardIn = s.discardIn := rfl
@[simp] theorem State.setUpset_host (s : State) (b : Nat) (p : Symbols.Pattern) : (s.setUpset b p).host = s.host := rfl
@[simp] theorem State.setUpset_log (s : State) (b : Nat) (p : Symbols.Pattern) : (s.setUpset b p).log = s.log := rfl
@[simp] theorem State.setUpset_trust (s : State) (b : Nat) (p : Symbols.Pattern) : (s.setUpset b p).trust = s.trust := rfl
@[simp] theorem State.setUpset_out (s : State) (b : Nat) (p : Symbols.Pattern) : (s.setUpset b p).out = s.out := rfl
@[simp] theorem State.setUpset_pending (s : State) (b : Nat) (p : Symbols.Pattern) : (s.setUpset b p).pending = s.pending := rfl

@[simp] theorem State.record_datum (s : State) (kind code context origin body : Nat) : (s.record kind code context origin body).datum = s.datum := rfl
@[simp] theorem State.record_draw (s : State) (kind code context origin body : Nat) : (s.record kind code context origin body).draw = s.draw := rfl
@[simp] theorem State.record_pwr (s : State) (kind code context origin body : Nat) : (s.record kind code context origin body).pwr = s.pwr := rfl
@[simp] theorem State.record_dat (s : State) (kind code context origin body : Nat) : (s.record kind code context origin body).dat = s.dat := rfl
@[simp] theorem State.record_mem (s : State) (kind code context origin body : Nat) : (s.record kind code context origin body).mem = s.mem := rfl
@[simp] theorem State.record_upsets (s : State) (kind code context origin body : Nat) : (s.record kind code context origin body).upsets = s.upsets := rfl
@[simp] theorem State.record_setter (s : State) (kind code context origin body : Nat) : (s.record kind code context origin body).setter = s.setter := rfl
@[simp] theorem State.record_frames0 (s : State) (kind code context origin body : Nat) : (s.record kind code context origin body).frames0 = s.frames0 := rfl
@[simp] theorem State.record_frames1 (s : State) (kind code context origin body : Nat) : (s.record kind code context origin body).frames1 = s.frames1 := rfl
@[simp] theorem State.record_refilling (s : State) (kind code context origin body : Nat) : (s.record kind code context origin body).refilling = s.refilling := rfl
@[simp] theorem State.record_demoting (s : State) (kind code context origin body : Nat) : (s.record kind code context origin body).demoting = s.demoting := rfl
@[simp] theorem State.record_regs (s : State) (kind code context origin body : Nat) : (s.record kind code context origin body).regs = s.regs := rfl
@[simp] theorem State.record_bankS (s : State) (kind code context origin body : Nat) : (s.record kind code context origin body).bankS = s.bankS := rfl
@[simp] theorem State.record_bankM (s : State) (kind code context origin body : Nat) : (s.record kind code context origin body).bankM = s.bankM := rfl
@[simp] theorem State.record_ctxs (s : State) (kind code context origin body : Nat) : (s.record kind code context origin body).ctxs = s.ctxs := rfl
@[simp] theorem State.record_kilns (s : State) (kind code context origin body : Nat) : (s.record kind code context origin body).kilns = s.kilns := rfl
@[simp] theorem State.record_pframes (s : State) (kind code context origin body : Nat) : (s.record kind code context origin body).pframes = s.pframes := rfl
@[simp] theorem State.record_entriesFree (s : State) (kind code context origin body : Nat) : (s.record kind code context origin body).entriesFree = s.entriesFree := rfl
@[simp] theorem State.record_entriesLow (s : State) (kind code context origin body : Nat) : (s.record kind code context origin body).entriesLow = s.entriesLow := rfl
@[simp] theorem State.record_tier (s : State) (kind code context origin body : Nat) : (s.record kind code context origin body).tier = s.tier := rfl
@[simp] theorem State.record_ports (s : State) (kind code context origin body : Nat) : (s.record kind code context origin body).ports = s.ports := rfl
@[simp] theorem State.record_discards (s : State) (kind code context origin body : Nat) : (s.record kind code context origin body).discards = s.discards := rfl
@[simp] theorem State.record_discardIn (s : State) (kind code context origin body : Nat) : (s.record kind code context origin body).discardIn = s.discardIn := rfl
@[simp] theorem State.record_host (s : State) (kind code context origin body : Nat) : (s.record kind code context origin body).host = s.host := rfl
@[simp] theorem State.record_trust (s : State) (kind code context origin body : Nat) : (s.record kind code context origin body).trust = s.trust := rfl
@[simp] theorem State.record_out (s : State) (kind code context origin body : Nat) : (s.record kind code context origin body).out = s.out := rfl
@[simp] theorem State.record_pending (s : State) (kind code context origin body : Nat) : (s.record kind code context origin body).pending = s.pending := rfl

@[simp] theorem State.toSteward_datum (s : State) (e : Entry) : (s.toSteward e).datum = s.datum := by unfold State.toSteward; split <;> rfl
@[simp] theorem State.toSteward_draw (s : State) (e : Entry) : (s.toSteward e).draw = s.draw := by unfold State.toSteward; split <;> rfl
@[simp] theorem State.toSteward_pwr (s : State) (e : Entry) : (s.toSteward e).pwr = s.pwr := by unfold State.toSteward; split <;> rfl
@[simp] theorem State.toSteward_dat (s : State) (e : Entry) : (s.toSteward e).dat = s.dat := by unfold State.toSteward; split <;> rfl
@[simp] theorem State.toSteward_mem (s : State) (e : Entry) : (s.toSteward e).mem = s.mem := by unfold State.toSteward; split <;> rfl
@[simp] theorem State.toSteward_upsets (s : State) (e : Entry) : (s.toSteward e).upsets = s.upsets := by unfold State.toSteward; split <;> rfl
@[simp] theorem State.toSteward_setter (s : State) (e : Entry) : (s.toSteward e).setter = s.setter := by unfold State.toSteward; split <;> rfl
@[simp] theorem State.toSteward_frames0 (s : State) (e : Entry) : (s.toSteward e).frames0 = s.frames0 := by unfold State.toSteward; split <;> rfl
@[simp] theorem State.toSteward_frames1 (s : State) (e : Entry) : (s.toSteward e).frames1 = s.frames1 := by unfold State.toSteward; split <;> rfl
@[simp] theorem State.toSteward_refilling (s : State) (e : Entry) : (s.toSteward e).refilling = s.refilling := by unfold State.toSteward; split <;> rfl
@[simp] theorem State.toSteward_demoting (s : State) (e : Entry) : (s.toSteward e).demoting = s.demoting := by unfold State.toSteward; split <;> rfl
@[simp] theorem State.toSteward_regs (s : State) (e : Entry) : (s.toSteward e).regs = s.regs := by unfold State.toSteward; split <;> rfl
@[simp] theorem State.toSteward_bankS (s : State) (e : Entry) : (s.toSteward e).bankS = s.bankS := by unfold State.toSteward; split <;> rfl
@[simp] theorem State.toSteward_bankM (s : State) (e : Entry) : (s.toSteward e).bankM = s.bankM := by unfold State.toSteward; split <;> rfl
@[simp] theorem State.toSteward_ctxs (s : State) (e : Entry) : (s.toSteward e).ctxs = s.ctxs := by unfold State.toSteward; split <;> rfl
@[simp] theorem State.toSteward_kilns (s : State) (e : Entry) : (s.toSteward e).kilns = s.kilns := by unfold State.toSteward; split <;> rfl
@[simp] theorem State.toSteward_pframes (s : State) (e : Entry) : (s.toSteward e).pframes = s.pframes := by unfold State.toSteward; split <;> rfl
@[simp] theorem State.toSteward_entriesFree (s : State) (e : Entry) : (s.toSteward e).entriesFree = s.entriesFree := by unfold State.toSteward; split <;> rfl
@[simp] theorem State.toSteward_entriesLow (s : State) (e : Entry) : (s.toSteward e).entriesLow = s.entriesLow := by unfold State.toSteward; split <;> rfl
@[simp] theorem State.toSteward_tier (s : State) (e : Entry) : (s.toSteward e).tier = s.tier := by unfold State.toSteward; split <;> rfl
@[simp] theorem State.toSteward_ports (s : State) (e : Entry) : (s.toSteward e).ports = s.ports := by unfold State.toSteward; split <;> rfl
@[simp] theorem State.toSteward_discards (s : State) (e : Entry) : (s.toSteward e).discards = s.discards := by unfold State.toSteward; split <;> rfl
@[simp] theorem State.toSteward_discardIn (s : State) (e : Entry) : (s.toSteward e).discardIn = s.discardIn := by unfold State.toSteward; split <;> rfl
@[simp] theorem State.toSteward_log (s : State) (e : Entry) : (s.toSteward e).log = s.log := by unfold State.toSteward; split <;> rfl
@[simp] theorem State.toSteward_trust (s : State) (e : Entry) : (s.toSteward e).trust = s.trust := by unfold State.toSteward; split <;> rfl
@[simp] theorem State.toSteward_out (s : State) (e : Entry) : (s.toSteward e).out = s.out := by unfold State.toSteward; split <;> rfl
@[simp] theorem State.toSteward_pending (s : State) (e : Entry) : (s.toSteward e).pending = s.pending := by unfold State.toSteward; split <;> rfl

@[simp] theorem State.romEvent_datum (s : State) (code payload : Nat) : (s.romEvent code payload).datum = s.datum := rfl
@[simp] theorem State.romEvent_draw (s : State) (code payload : Nat) : (s.romEvent code payload).draw = s.draw := rfl
@[simp] theorem State.romEvent_pwr (s : State) (code payload : Nat) : (s.romEvent code payload).pwr = s.pwr := rfl
@[simp] theorem State.romEvent_dat (s : State) (code payload : Nat) : (s.romEvent code payload).dat = s.dat := rfl
@[simp] theorem State.romEvent_mem (s : State) (code payload : Nat) : (s.romEvent code payload).mem = s.mem := rfl
@[simp] theorem State.romEvent_upsets (s : State) (code payload : Nat) : (s.romEvent code payload).upsets = s.upsets := rfl
@[simp] theorem State.romEvent_setter (s : State) (code payload : Nat) : (s.romEvent code payload).setter = s.setter := rfl
@[simp] theorem State.romEvent_frames0 (s : State) (code payload : Nat) : (s.romEvent code payload).frames0 = s.frames0 := rfl
@[simp] theorem State.romEvent_frames1 (s : State) (code payload : Nat) : (s.romEvent code payload).frames1 = s.frames1 := rfl
@[simp] theorem State.romEvent_refilling (s : State) (code payload : Nat) : (s.romEvent code payload).refilling = s.refilling := rfl
@[simp] theorem State.romEvent_demoting (s : State) (code payload : Nat) : (s.romEvent code payload).demoting = s.demoting := rfl
@[simp] theorem State.romEvent_regs (s : State) (code payload : Nat) : (s.romEvent code payload).regs = s.regs := rfl
@[simp] theorem State.romEvent_bankS (s : State) (code payload : Nat) : (s.romEvent code payload).bankS = s.bankS := rfl
@[simp] theorem State.romEvent_bankM (s : State) (code payload : Nat) : (s.romEvent code payload).bankM = s.bankM := rfl
@[simp] theorem State.romEvent_ctxs (s : State) (code payload : Nat) : (s.romEvent code payload).ctxs = s.ctxs := rfl
@[simp] theorem State.romEvent_kilns (s : State) (code payload : Nat) : (s.romEvent code payload).kilns = s.kilns := rfl
@[simp] theorem State.romEvent_pframes (s : State) (code payload : Nat) : (s.romEvent code payload).pframes = s.pframes := rfl
@[simp] theorem State.romEvent_entriesFree (s : State) (code payload : Nat) : (s.romEvent code payload).entriesFree = s.entriesFree := rfl
@[simp] theorem State.romEvent_entriesLow (s : State) (code payload : Nat) : (s.romEvent code payload).entriesLow = s.entriesLow := rfl
@[simp] theorem State.romEvent_tier (s : State) (code payload : Nat) : (s.romEvent code payload).tier = s.tier := rfl
@[simp] theorem State.romEvent_ports (s : State) (code payload : Nat) : (s.romEvent code payload).ports = s.ports := rfl
@[simp] theorem State.romEvent_discards (s : State) (code payload : Nat) : (s.romEvent code payload).discards = s.discards := rfl
@[simp] theorem State.romEvent_discardIn (s : State) (code payload : Nat) : (s.romEvent code payload).discardIn = s.discardIn := rfl
@[simp] theorem State.romEvent_trust (s : State) (code payload : Nat) : (s.romEvent code payload).trust = s.trust := rfl
@[simp] theorem State.romEvent_out (s : State) (code payload : Nat) : (s.romEvent code payload).out = s.out := rfl
@[simp] theorem State.romEvent_pending (s : State) (code payload : Nat) : (s.romEvent code payload).pending = s.pending := rfl
@[simp] theorem State.noteEarly_datum (s : State) (code : Nat) : (s.noteEarly code).datum = s.datum := by unfold State.noteEarly; split <;> rfl
@[simp] theorem State.noteEarly_draw (s : State) (code : Nat) : (s.noteEarly code).draw = s.draw := by unfold State.noteEarly; split <;> rfl
@[simp] theorem State.noteEarly_pwr (s : State) (code : Nat) : (s.noteEarly code).pwr = s.pwr := by unfold State.noteEarly; split <;> rfl
@[simp] theorem State.noteEarly_dat (s : State) (code : Nat) : (s.noteEarly code).dat = s.dat := by unfold State.noteEarly; split <;> rfl
@[simp] theorem State.noteEarly_mem (s : State) (code : Nat) : (s.noteEarly code).mem = s.mem := by unfold State.noteEarly; split <;> rfl
@[simp] theorem State.noteEarly_upsets (s : State) (code : Nat) : (s.noteEarly code).upsets = s.upsets := by unfold State.noteEarly; split <;> rfl
@[simp] theorem State.noteEarly_setter (s : State) (code : Nat) : (s.noteEarly code).setter = s.setter := by unfold State.noteEarly; split <;> rfl
@[simp] theorem State.noteEarly_frames0 (s : State) (code : Nat) : (s.noteEarly code).frames0 = s.frames0 := by unfold State.noteEarly; split <;> rfl
@[simp] theorem State.noteEarly_frames1 (s : State) (code : Nat) : (s.noteEarly code).frames1 = s.frames1 := by unfold State.noteEarly; split <;> rfl
@[simp] theorem State.noteEarly_refilling (s : State) (code : Nat) : (s.noteEarly code).refilling = s.refilling := by unfold State.noteEarly; split <;> rfl
@[simp] theorem State.noteEarly_demoting (s : State) (code : Nat) : (s.noteEarly code).demoting = s.demoting := by unfold State.noteEarly; split <;> rfl
@[simp] theorem State.noteEarly_regs (s : State) (code : Nat) : (s.noteEarly code).regs = s.regs := by unfold State.noteEarly; split <;> rfl
@[simp] theorem State.noteEarly_bankS (s : State) (code : Nat) : (s.noteEarly code).bankS = s.bankS := by unfold State.noteEarly; split <;> rfl
@[simp] theorem State.noteEarly_bankM (s : State) (code : Nat) : (s.noteEarly code).bankM = s.bankM := by unfold State.noteEarly; split <;> rfl
@[simp] theorem State.noteEarly_ctxs (s : State) (code : Nat) : (s.noteEarly code).ctxs = s.ctxs := by unfold State.noteEarly; split <;> rfl
@[simp] theorem State.noteEarly_kilns (s : State) (code : Nat) : (s.noteEarly code).kilns = s.kilns := by unfold State.noteEarly; split <;> rfl
@[simp] theorem State.noteEarly_pframes (s : State) (code : Nat) : (s.noteEarly code).pframes = s.pframes := by unfold State.noteEarly; split <;> rfl
@[simp] theorem State.noteEarly_entriesFree (s : State) (code : Nat) : (s.noteEarly code).entriesFree = s.entriesFree := by unfold State.noteEarly; split <;> rfl
@[simp] theorem State.noteEarly_entriesLow (s : State) (code : Nat) : (s.noteEarly code).entriesLow = s.entriesLow := by unfold State.noteEarly; split <;> rfl
@[simp] theorem State.noteEarly_tier (s : State) (code : Nat) : (s.noteEarly code).tier = s.tier := by unfold State.noteEarly; split <;> rfl
@[simp] theorem State.noteEarly_ports (s : State) (code : Nat) : (s.noteEarly code).ports = s.ports := by unfold State.noteEarly; split <;> rfl
@[simp] theorem State.noteEarly_discards (s : State) (code : Nat) : (s.noteEarly code).discards = s.discards := by unfold State.noteEarly; split <;> rfl
@[simp] theorem State.noteEarly_discardIn (s : State) (code : Nat) : (s.noteEarly code).discardIn = s.discardIn := by unfold State.noteEarly; split <;> rfl
@[simp] theorem State.noteEarly_trust (s : State) (code : Nat) : (s.noteEarly code).trust = s.trust := by unfold State.noteEarly; split <;> rfl
@[simp] theorem State.noteEarly_out (s : State) (code : Nat) : (s.noteEarly code).out = s.out := by unfold State.noteEarly; split <;> rfl
@[simp] theorem State.noteEarly_pending (s : State) (code : Nat) : (s.noteEarly code).pending = s.pending := by unfold State.noteEarly; split <;> rfl
@[simp] theorem State.tell_datum (s : State) (code payload : Nat) : (s.tell code payload).datum = s.datum := by simp [State.tell]
@[simp] theorem State.tell_draw (s : State) (code payload : Nat) : (s.tell code payload).draw = s.draw := by simp [State.tell]
@[simp] theorem State.tell_pwr (s : State) (code payload : Nat) : (s.tell code payload).pwr = s.pwr := by simp [State.tell]
@[simp] theorem State.tell_dat (s : State) (code payload : Nat) : (s.tell code payload).dat = s.dat := by simp [State.tell]
@[simp] theorem State.tell_mem (s : State) (code payload : Nat) : (s.tell code payload).mem = s.mem := by simp [State.tell]
@[simp] theorem State.tell_upsets (s : State) (code payload : Nat) : (s.tell code payload).upsets = s.upsets := by simp [State.tell]
@[simp] theorem State.tell_setter (s : State) (code payload : Nat) : (s.tell code payload).setter = s.setter := by simp [State.tell]
@[simp] theorem State.tell_frames0 (s : State) (code payload : Nat) : (s.tell code payload).frames0 = s.frames0 := by simp [State.tell]
@[simp] theorem State.tell_frames1 (s : State) (code payload : Nat) : (s.tell code payload).frames1 = s.frames1 := by simp [State.tell]
@[simp] theorem State.tell_refilling (s : State) (code payload : Nat) : (s.tell code payload).refilling = s.refilling := by simp [State.tell]
@[simp] theorem State.tell_demoting (s : State) (code payload : Nat) : (s.tell code payload).demoting = s.demoting := by simp [State.tell]
@[simp] theorem State.tell_regs (s : State) (code payload : Nat) : (s.tell code payload).regs = s.regs := by simp [State.tell]
@[simp] theorem State.tell_bankS (s : State) (code payload : Nat) : (s.tell code payload).bankS = s.bankS := by simp [State.tell]
@[simp] theorem State.tell_bankM (s : State) (code payload : Nat) : (s.tell code payload).bankM = s.bankM := by simp [State.tell]
@[simp] theorem State.tell_ctxs (s : State) (code payload : Nat) : (s.tell code payload).ctxs = s.ctxs := by simp [State.tell]
@[simp] theorem State.tell_kilns (s : State) (code payload : Nat) : (s.tell code payload).kilns = s.kilns := by simp [State.tell]
@[simp] theorem State.tell_pframes (s : State) (code payload : Nat) : (s.tell code payload).pframes = s.pframes := by simp [State.tell]
@[simp] theorem State.tell_entriesFree (s : State) (code payload : Nat) : (s.tell code payload).entriesFree = s.entriesFree := by simp [State.tell]
@[simp] theorem State.tell_entriesLow (s : State) (code payload : Nat) : (s.tell code payload).entriesLow = s.entriesLow := by simp [State.tell]
@[simp] theorem State.tell_tier (s : State) (code payload : Nat) : (s.tell code payload).tier = s.tier := by simp [State.tell]
@[simp] theorem State.tell_ports (s : State) (code payload : Nat) : (s.tell code payload).ports = s.ports := by simp [State.tell]
@[simp] theorem State.tell_discards (s : State) (code payload : Nat) : (s.tell code payload).discards = s.discards := by simp [State.tell]
@[simp] theorem State.tell_discardIn (s : State) (code payload : Nat) : (s.tell code payload).discardIn = s.discardIn := by simp [State.tell]
@[simp] theorem State.tell_trust (s : State) (code payload : Nat) : (s.tell code payload).trust = s.trust := by simp [State.tell]
@[simp] theorem State.tell_out (s : State) (code payload : Nat) : (s.tell code payload).out = s.out := by simp [State.tell]
@[simp] theorem State.tell_pending (s : State) (code payload : Nat) : (s.tell code payload).pending = s.pending := by simp [State.tell]
@[simp] theorem State.raise_datum (s : State) (code payload : Nat) : (s.raise code payload).datum = s.datum := by unfold State.raise; split <;> simp
@[simp] theorem State.raise_draw (s : State) (code payload : Nat) : (s.raise code payload).draw = s.draw := by unfold State.raise; split <;> simp
@[simp] theorem State.raise_pwr (s : State) (code payload : Nat) : (s.raise code payload).pwr = s.pwr := by unfold State.raise; split <;> simp
@[simp] theorem State.raise_dat (s : State) (code payload : Nat) : (s.raise code payload).dat = s.dat := by unfold State.raise; split <;> simp
@[simp] theorem State.raise_mem (s : State) (code payload : Nat) : (s.raise code payload).mem = s.mem := by unfold State.raise; split <;> simp
@[simp] theorem State.raise_upsets (s : State) (code payload : Nat) : (s.raise code payload).upsets = s.upsets := by unfold State.raise; split <;> simp
@[simp] theorem State.raise_setter (s : State) (code payload : Nat) : (s.raise code payload).setter = s.setter := by unfold State.raise; split <;> simp
@[simp] theorem State.raise_frames0 (s : State) (code payload : Nat) : (s.raise code payload).frames0 = s.frames0 := by unfold State.raise; split <;> simp
@[simp] theorem State.raise_frames1 (s : State) (code payload : Nat) : (s.raise code payload).frames1 = s.frames1 := by unfold State.raise; split <;> simp
@[simp] theorem State.raise_refilling (s : State) (code payload : Nat) : (s.raise code payload).refilling = s.refilling := by unfold State.raise; split <;> simp
@[simp] theorem State.raise_demoting (s : State) (code payload : Nat) : (s.raise code payload).demoting = s.demoting := by unfold State.raise; split <;> simp
@[simp] theorem State.raise_regs (s : State) (code payload : Nat) : (s.raise code payload).regs = s.regs := by unfold State.raise; split <;> simp
@[simp] theorem State.raise_bankS (s : State) (code payload : Nat) : (s.raise code payload).bankS = s.bankS := by unfold State.raise; split <;> simp
@[simp] theorem State.raise_bankM (s : State) (code payload : Nat) : (s.raise code payload).bankM = s.bankM := by unfold State.raise; split <;> simp
@[simp] theorem State.raise_ctxs (s : State) (code payload : Nat) : (s.raise code payload).ctxs = s.ctxs := by unfold State.raise; split <;> simp
@[simp] theorem State.raise_kilns (s : State) (code payload : Nat) : (s.raise code payload).kilns = s.kilns := by unfold State.raise; split <;> simp
@[simp] theorem State.raise_pframes (s : State) (code payload : Nat) : (s.raise code payload).pframes = s.pframes := by unfold State.raise; split <;> simp
@[simp] theorem State.raise_entriesFree (s : State) (code payload : Nat) : (s.raise code payload).entriesFree = s.entriesFree := by unfold State.raise; split <;> simp
@[simp] theorem State.raise_entriesLow (s : State) (code payload : Nat) : (s.raise code payload).entriesLow = s.entriesLow := by unfold State.raise; split <;> simp
@[simp] theorem State.raise_tier (s : State) (code payload : Nat) : (s.raise code payload).tier = s.tier := by unfold State.raise; split <;> simp
@[simp] theorem State.raise_ports (s : State) (code payload : Nat) : (s.raise code payload).ports = s.ports := by unfold State.raise; split <;> simp
@[simp] theorem State.raise_discards (s : State) (code payload : Nat) : (s.raise code payload).discards = s.discards := by unfold State.raise; split <;> simp
@[simp] theorem State.raise_discardIn (s : State) (code payload : Nat) : (s.raise code payload).discardIn = s.discardIn := by unfold State.raise; split <;> simp
@[simp] theorem State.raise_trust (s : State) (code payload : Nat) : (s.raise code payload).trust = s.trust := by unfold State.raise; split <;> simp
@[simp] theorem State.raise_out (s : State) (code payload : Nat) : (s.raise code payload).out = s.out := by unfold State.raise; split <;> simp
@[simp] theorem State.raise_pending (s : State) (code payload : Nat) : (s.raise code payload).pending = s.pending := by unfold State.raise; split <;> simp

@[simp] theorem State.toContext_datum (s : State) (c : Nat) (d : Bool) (e : Entry) : (s.toContext c d e).datum = s.datum := by unfold State.toContext; split <;> rfl
@[simp] theorem State.toContext_draw (s : State) (c : Nat) (d : Bool) (e : Entry) : (s.toContext c d e).draw = s.draw := by unfold State.toContext; split <;> rfl
@[simp] theorem State.toContext_pwr (s : State) (c : Nat) (d : Bool) (e : Entry) : (s.toContext c d e).pwr = s.pwr := by unfold State.toContext; split <;> rfl
@[simp] theorem State.toContext_dat (s : State) (c : Nat) (d : Bool) (e : Entry) : (s.toContext c d e).dat = s.dat := by unfold State.toContext; split <;> rfl
@[simp] theorem State.toContext_mem (s : State) (c : Nat) (d : Bool) (e : Entry) : (s.toContext c d e).mem = s.mem := by unfold State.toContext; split <;> rfl
@[simp] theorem State.toContext_upsets (s : State) (c : Nat) (d : Bool) (e : Entry) : (s.toContext c d e).upsets = s.upsets := by unfold State.toContext; split <;> rfl
@[simp] theorem State.toContext_setter (s : State) (c : Nat) (d : Bool) (e : Entry) : (s.toContext c d e).setter = s.setter := by unfold State.toContext; split <;> rfl
@[simp] theorem State.toContext_frames0 (s : State) (c : Nat) (d : Bool) (e : Entry) : (s.toContext c d e).frames0 = s.frames0 := by unfold State.toContext; split <;> rfl
@[simp] theorem State.toContext_frames1 (s : State) (c : Nat) (d : Bool) (e : Entry) : (s.toContext c d e).frames1 = s.frames1 := by unfold State.toContext; split <;> rfl
@[simp] theorem State.toContext_refilling (s : State) (c : Nat) (d : Bool) (e : Entry) : (s.toContext c d e).refilling = s.refilling := by unfold State.toContext; split <;> rfl
@[simp] theorem State.toContext_demoting (s : State) (c : Nat) (d : Bool) (e : Entry) : (s.toContext c d e).demoting = s.demoting := by unfold State.toContext; split <;> rfl
@[simp] theorem State.toContext_regs (s : State) (c : Nat) (d : Bool) (e : Entry) : (s.toContext c d e).regs = s.regs := by unfold State.toContext; split <;> rfl
@[simp] theorem State.toContext_bankS (s : State) (c : Nat) (d : Bool) (e : Entry) : (s.toContext c d e).bankS = s.bankS := by unfold State.toContext; split <;> rfl
@[simp] theorem State.toContext_bankM (s : State) (c : Nat) (d : Bool) (e : Entry) : (s.toContext c d e).bankM = s.bankM := by unfold State.toContext; split <;> rfl
@[simp] theorem State.toContext_kilns (s : State) (c : Nat) (d : Bool) (e : Entry) : (s.toContext c d e).kilns = s.kilns := by unfold State.toContext; split <;> rfl
@[simp] theorem State.toContext_pframes (s : State) (c : Nat) (d : Bool) (e : Entry) : (s.toContext c d e).pframes = s.pframes := by unfold State.toContext; split <;> rfl
@[simp] theorem State.toContext_entriesFree (s : State) (c : Nat) (d : Bool) (e : Entry) : (s.toContext c d e).entriesFree = s.entriesFree := by unfold State.toContext; split <;> rfl
@[simp] theorem State.toContext_entriesLow (s : State) (c : Nat) (d : Bool) (e : Entry) : (s.toContext c d e).entriesLow = s.entriesLow := by unfold State.toContext; split <;> rfl
@[simp] theorem State.toContext_tier (s : State) (c : Nat) (d : Bool) (e : Entry) : (s.toContext c d e).tier = s.tier := by unfold State.toContext; split <;> rfl
@[simp] theorem State.toContext_ports (s : State) (c : Nat) (d : Bool) (e : Entry) : (s.toContext c d e).ports = s.ports := by unfold State.toContext; split <;> rfl
@[simp] theorem State.toContext_discards (s : State) (c : Nat) (d : Bool) (e : Entry) : (s.toContext c d e).discards = s.discards := by unfold State.toContext; split <;> rfl
@[simp] theorem State.toContext_discardIn (s : State) (c : Nat) (d : Bool) (e : Entry) : (s.toContext c d e).discardIn = s.discardIn := by unfold State.toContext; split <;> rfl
@[simp] theorem State.toContext_host (s : State) (c : Nat) (d : Bool) (e : Entry) : (s.toContext c d e).host = s.host := by unfold State.toContext; split <;> rfl
@[simp] theorem State.toContext_log (s : State) (c : Nat) (d : Bool) (e : Entry) : (s.toContext c d e).log = s.log := by unfold State.toContext; split <;> rfl
@[simp] theorem State.toContext_trust (s : State) (c : Nat) (d : Bool) (e : Entry) : (s.toContext c d e).trust = s.trust := by unfold State.toContext; split <;> rfl
@[simp] theorem State.toContext_out (s : State) (c : Nat) (d : Bool) (e : Entry) : (s.toContext c d e).out = s.out := by unfold State.toContext; split <;> rfl
@[simp] theorem State.toContext_pending (s : State) (c : Nat) (d : Bool) (e : Entry) : (s.toContext c d e).pending = s.pending := by unfold State.toContext; split <;> rfl

@[simp] theorem State.raiseCtx_datum (s : State) (c : Nat) (pos : Option Nat) (code payload : Nat) : (s.raiseCtx c pos code payload).datum = s.datum := by unfold State.raiseCtx; dsimp only; split <;> simp
@[simp] theorem State.raiseCtx_draw (s : State) (c : Nat) (pos : Option Nat) (code payload : Nat) : (s.raiseCtx c pos code payload).draw = s.draw := by unfold State.raiseCtx; dsimp only; split <;> simp
@[simp] theorem State.raiseCtx_pwr (s : State) (c : Nat) (pos : Option Nat) (code payload : Nat) : (s.raiseCtx c pos code payload).pwr = s.pwr := by unfold State.raiseCtx; dsimp only; split <;> simp
@[simp] theorem State.raiseCtx_dat (s : State) (c : Nat) (pos : Option Nat) (code payload : Nat) : (s.raiseCtx c pos code payload).dat = s.dat := by unfold State.raiseCtx; dsimp only; split <;> simp
@[simp] theorem State.raiseCtx_mem (s : State) (c : Nat) (pos : Option Nat) (code payload : Nat) : (s.raiseCtx c pos code payload).mem = s.mem := by unfold State.raiseCtx; dsimp only; split <;> simp
@[simp] theorem State.raiseCtx_upsets (s : State) (c : Nat) (pos : Option Nat) (code payload : Nat) : (s.raiseCtx c pos code payload).upsets = s.upsets := by unfold State.raiseCtx; dsimp only; split <;> simp
@[simp] theorem State.raiseCtx_setter (s : State) (c : Nat) (pos : Option Nat) (code payload : Nat) : (s.raiseCtx c pos code payload).setter = s.setter := by unfold State.raiseCtx; dsimp only; split <;> simp
@[simp] theorem State.raiseCtx_frames0 (s : State) (c : Nat) (pos : Option Nat) (code payload : Nat) : (s.raiseCtx c pos code payload).frames0 = s.frames0 := by unfold State.raiseCtx; dsimp only; split <;> simp
@[simp] theorem State.raiseCtx_frames1 (s : State) (c : Nat) (pos : Option Nat) (code payload : Nat) : (s.raiseCtx c pos code payload).frames1 = s.frames1 := by unfold State.raiseCtx; dsimp only; split <;> simp
@[simp] theorem State.raiseCtx_refilling (s : State) (c : Nat) (pos : Option Nat) (code payload : Nat) : (s.raiseCtx c pos code payload).refilling = s.refilling := by unfold State.raiseCtx; dsimp only; split <;> simp
@[simp] theorem State.raiseCtx_demoting (s : State) (c : Nat) (pos : Option Nat) (code payload : Nat) : (s.raiseCtx c pos code payload).demoting = s.demoting := by unfold State.raiseCtx; dsimp only; split <;> simp
@[simp] theorem State.raiseCtx_regs (s : State) (c : Nat) (pos : Option Nat) (code payload : Nat) : (s.raiseCtx c pos code payload).regs = s.regs := by unfold State.raiseCtx; dsimp only; split <;> simp
@[simp] theorem State.raiseCtx_bankS (s : State) (c : Nat) (pos : Option Nat) (code payload : Nat) : (s.raiseCtx c pos code payload).bankS = s.bankS := by unfold State.raiseCtx; dsimp only; split <;> simp
@[simp] theorem State.raiseCtx_bankM (s : State) (c : Nat) (pos : Option Nat) (code payload : Nat) : (s.raiseCtx c pos code payload).bankM = s.bankM := by unfold State.raiseCtx; dsimp only; split <;> simp
@[simp] theorem State.raiseCtx_kilns (s : State) (c : Nat) (pos : Option Nat) (code payload : Nat) : (s.raiseCtx c pos code payload).kilns = s.kilns := by unfold State.raiseCtx; dsimp only; split <;> simp
@[simp] theorem State.raiseCtx_pframes (s : State) (c : Nat) (pos : Option Nat) (code payload : Nat) : (s.raiseCtx c pos code payload).pframes = s.pframes := by unfold State.raiseCtx; dsimp only; split <;> simp
@[simp] theorem State.raiseCtx_entriesFree (s : State) (c : Nat) (pos : Option Nat) (code payload : Nat) : (s.raiseCtx c pos code payload).entriesFree = s.entriesFree := by unfold State.raiseCtx; dsimp only; split <;> simp
@[simp] theorem State.raiseCtx_entriesLow (s : State) (c : Nat) (pos : Option Nat) (code payload : Nat) : (s.raiseCtx c pos code payload).entriesLow = s.entriesLow := by unfold State.raiseCtx; dsimp only; split <;> simp
@[simp] theorem State.raiseCtx_tier (s : State) (c : Nat) (pos : Option Nat) (code payload : Nat) : (s.raiseCtx c pos code payload).tier = s.tier := by unfold State.raiseCtx; dsimp only; split <;> simp
@[simp] theorem State.raiseCtx_ports (s : State) (c : Nat) (pos : Option Nat) (code payload : Nat) : (s.raiseCtx c pos code payload).ports = s.ports := by unfold State.raiseCtx; dsimp only; split <;> simp
@[simp] theorem State.raiseCtx_discards (s : State) (c : Nat) (pos : Option Nat) (code payload : Nat) : (s.raiseCtx c pos code payload).discards = s.discards := by unfold State.raiseCtx; dsimp only; split <;> simp
@[simp] theorem State.raiseCtx_discardIn (s : State) (c : Nat) (pos : Option Nat) (code payload : Nat) : (s.raiseCtx c pos code payload).discardIn = s.discardIn := by unfold State.raiseCtx; dsimp only; split <;> simp
@[simp] theorem State.raiseCtx_trust (s : State) (c : Nat) (pos : Option Nat) (code payload : Nat) : (s.raiseCtx c pos code payload).trust = s.trust := by unfold State.raiseCtx; dsimp only; split <;> simp
@[simp] theorem State.raiseCtx_out (s : State) (c : Nat) (pos : Option Nat) (code payload : Nat) : (s.raiseCtx c pos code payload).out = s.out := by unfold State.raiseCtx; dsimp only; split <;> simp
@[simp] theorem State.raiseCtx_pending (s : State) (c : Nat) (pos : Option Nat) (code payload : Nat) : (s.raiseCtx c pos code payload).pending = s.pending := by unfold State.raiseCtx; dsimp only; split <;> simp

@[simp] theorem State.modWin_datum (s : State) (c pos : Nat) (f : WinOp → WinOp) : (s.modWin c pos f).datum = s.datum := rfl
@[simp] theorem State.modWin_draw (s : State) (c pos : Nat) (f : WinOp → WinOp) : (s.modWin c pos f).draw = s.draw := rfl
@[simp] theorem State.modWin_pwr (s : State) (c pos : Nat) (f : WinOp → WinOp) : (s.modWin c pos f).pwr = s.pwr := rfl
@[simp] theorem State.modWin_dat (s : State) (c pos : Nat) (f : WinOp → WinOp) : (s.modWin c pos f).dat = s.dat := rfl
@[simp] theorem State.modWin_mem (s : State) (c pos : Nat) (f : WinOp → WinOp) : (s.modWin c pos f).mem = s.mem := rfl
@[simp] theorem State.modWin_upsets (s : State) (c pos : Nat) (f : WinOp → WinOp) : (s.modWin c pos f).upsets = s.upsets := rfl
@[simp] theorem State.modWin_setter (s : State) (c pos : Nat) (f : WinOp → WinOp) : (s.modWin c pos f).setter = s.setter := rfl
@[simp] theorem State.modWin_frames0 (s : State) (c pos : Nat) (f : WinOp → WinOp) : (s.modWin c pos f).frames0 = s.frames0 := rfl
@[simp] theorem State.modWin_frames1 (s : State) (c pos : Nat) (f : WinOp → WinOp) : (s.modWin c pos f).frames1 = s.frames1 := rfl
@[simp] theorem State.modWin_refilling (s : State) (c pos : Nat) (f : WinOp → WinOp) : (s.modWin c pos f).refilling = s.refilling := rfl
@[simp] theorem State.modWin_demoting (s : State) (c pos : Nat) (f : WinOp → WinOp) : (s.modWin c pos f).demoting = s.demoting := rfl
@[simp] theorem State.modWin_regs (s : State) (c pos : Nat) (f : WinOp → WinOp) : (s.modWin c pos f).regs = s.regs := rfl
@[simp] theorem State.modWin_bankS (s : State) (c pos : Nat) (f : WinOp → WinOp) : (s.modWin c pos f).bankS = s.bankS := rfl
@[simp] theorem State.modWin_bankM (s : State) (c pos : Nat) (f : WinOp → WinOp) : (s.modWin c pos f).bankM = s.bankM := rfl
@[simp] theorem State.modWin_kilns (s : State) (c pos : Nat) (f : WinOp → WinOp) : (s.modWin c pos f).kilns = s.kilns := rfl
@[simp] theorem State.modWin_pframes (s : State) (c pos : Nat) (f : WinOp → WinOp) : (s.modWin c pos f).pframes = s.pframes := rfl
@[simp] theorem State.modWin_entriesFree (s : State) (c pos : Nat) (f : WinOp → WinOp) : (s.modWin c pos f).entriesFree = s.entriesFree := rfl
@[simp] theorem State.modWin_entriesLow (s : State) (c pos : Nat) (f : WinOp → WinOp) : (s.modWin c pos f).entriesLow = s.entriesLow := rfl
@[simp] theorem State.modWin_tier (s : State) (c pos : Nat) (f : WinOp → WinOp) : (s.modWin c pos f).tier = s.tier := rfl
@[simp] theorem State.modWin_ports (s : State) (c pos : Nat) (f : WinOp → WinOp) : (s.modWin c pos f).ports = s.ports := rfl
@[simp] theorem State.modWin_discards (s : State) (c pos : Nat) (f : WinOp → WinOp) : (s.modWin c pos f).discards = s.discards := rfl
@[simp] theorem State.modWin_discardIn (s : State) (c pos : Nat) (f : WinOp → WinOp) : (s.modWin c pos f).discardIn = s.discardIn := rfl
@[simp] theorem State.modWin_host (s : State) (c pos : Nat) (f : WinOp → WinOp) : (s.modWin c pos f).host = s.host := rfl
@[simp] theorem State.modWin_log (s : State) (c pos : Nat) (f : WinOp → WinOp) : (s.modWin c pos f).log = s.log := rfl
@[simp] theorem State.modWin_trust (s : State) (c pos : Nat) (f : WinOp → WinOp) : (s.modWin c pos f).trust = s.trust := rfl
@[simp] theorem State.modWin_out (s : State) (c pos : Nat) (f : WinOp → WinOp) : (s.modWin c pos f).out = s.out := rfl
@[simp] theorem State.modWin_pending (s : State) (c pos : Nat) (f : WinOp → WinOp) : (s.modWin c pos f).pending = s.pending := rfl

@[simp] theorem State.dropWin_datum (s : State) (c pos : Nat) : (s.dropWin c pos).datum = s.datum := rfl
@[simp] theorem State.dropWin_draw (s : State) (c pos : Nat) : (s.dropWin c pos).draw = s.draw := rfl
@[simp] theorem State.dropWin_pwr (s : State) (c pos : Nat) : (s.dropWin c pos).pwr = s.pwr := rfl
@[simp] theorem State.dropWin_dat (s : State) (c pos : Nat) : (s.dropWin c pos).dat = s.dat := rfl
@[simp] theorem State.dropWin_mem (s : State) (c pos : Nat) : (s.dropWin c pos).mem = s.mem := rfl
@[simp] theorem State.dropWin_upsets (s : State) (c pos : Nat) : (s.dropWin c pos).upsets = s.upsets := rfl
@[simp] theorem State.dropWin_setter (s : State) (c pos : Nat) : (s.dropWin c pos).setter = s.setter := rfl
@[simp] theorem State.dropWin_frames0 (s : State) (c pos : Nat) : (s.dropWin c pos).frames0 = s.frames0 := rfl
@[simp] theorem State.dropWin_frames1 (s : State) (c pos : Nat) : (s.dropWin c pos).frames1 = s.frames1 := rfl
@[simp] theorem State.dropWin_refilling (s : State) (c pos : Nat) : (s.dropWin c pos).refilling = s.refilling := rfl
@[simp] theorem State.dropWin_demoting (s : State) (c pos : Nat) : (s.dropWin c pos).demoting = s.demoting := rfl
@[simp] theorem State.dropWin_regs (s : State) (c pos : Nat) : (s.dropWin c pos).regs = s.regs := rfl
@[simp] theorem State.dropWin_bankS (s : State) (c pos : Nat) : (s.dropWin c pos).bankS = s.bankS := rfl
@[simp] theorem State.dropWin_bankM (s : State) (c pos : Nat) : (s.dropWin c pos).bankM = s.bankM := rfl
@[simp] theorem State.dropWin_kilns (s : State) (c pos : Nat) : (s.dropWin c pos).kilns = s.kilns := rfl
@[simp] theorem State.dropWin_pframes (s : State) (c pos : Nat) : (s.dropWin c pos).pframes = s.pframes := rfl
@[simp] theorem State.dropWin_entriesFree (s : State) (c pos : Nat) : (s.dropWin c pos).entriesFree = s.entriesFree := rfl
@[simp] theorem State.dropWin_entriesLow (s : State) (c pos : Nat) : (s.dropWin c pos).entriesLow = s.entriesLow := rfl
@[simp] theorem State.dropWin_tier (s : State) (c pos : Nat) : (s.dropWin c pos).tier = s.tier := rfl
@[simp] theorem State.dropWin_ports (s : State) (c pos : Nat) : (s.dropWin c pos).ports = s.ports := rfl
@[simp] theorem State.dropWin_discards (s : State) (c pos : Nat) : (s.dropWin c pos).discards = s.discards := rfl
@[simp] theorem State.dropWin_discardIn (s : State) (c pos : Nat) : (s.dropWin c pos).discardIn = s.discardIn := rfl
@[simp] theorem State.dropWin_host (s : State) (c pos : Nat) : (s.dropWin c pos).host = s.host := rfl
@[simp] theorem State.dropWin_log (s : State) (c pos : Nat) : (s.dropWin c pos).log = s.log := rfl
@[simp] theorem State.dropWin_trust (s : State) (c pos : Nat) : (s.dropWin c pos).trust = s.trust := rfl
@[simp] theorem State.dropWin_out (s : State) (c pos : Nat) : (s.dropWin c pos).out = s.out := rfl
@[simp] theorem State.dropWin_pending (s : State) (c pos : Nat) : (s.dropWin c pos).pending = s.pending := rfl

@[simp] theorem State.complete_datum (s : State) (c pos : Nat) (d : Desc) (outcome step payload : Nat) : (s.complete c pos d outcome step payload).datum = s.datum := by simp [State.complete]
@[simp] theorem State.complete_draw (s : State) (c pos : Nat) (d : Desc) (outcome step payload : Nat) : (s.complete c pos d outcome step payload).draw = s.draw := by simp [State.complete]
@[simp] theorem State.complete_pwr (s : State) (c pos : Nat) (d : Desc) (outcome step payload : Nat) : (s.complete c pos d outcome step payload).pwr = s.pwr := by simp [State.complete]
@[simp] theorem State.complete_dat (s : State) (c pos : Nat) (d : Desc) (outcome step payload : Nat) : (s.complete c pos d outcome step payload).dat = s.dat := by simp [State.complete]
@[simp] theorem State.complete_mem (s : State) (c pos : Nat) (d : Desc) (outcome step payload : Nat) : (s.complete c pos d outcome step payload).mem = s.mem := by simp [State.complete]
@[simp] theorem State.complete_upsets (s : State) (c pos : Nat) (d : Desc) (outcome step payload : Nat) : (s.complete c pos d outcome step payload).upsets = s.upsets := by simp [State.complete]
@[simp] theorem State.complete_setter (s : State) (c pos : Nat) (d : Desc) (outcome step payload : Nat) : (s.complete c pos d outcome step payload).setter = s.setter := by simp [State.complete]
@[simp] theorem State.complete_frames0 (s : State) (c pos : Nat) (d : Desc) (outcome step payload : Nat) : (s.complete c pos d outcome step payload).frames0 = s.frames0 := by simp [State.complete]
@[simp] theorem State.complete_frames1 (s : State) (c pos : Nat) (d : Desc) (outcome step payload : Nat) : (s.complete c pos d outcome step payload).frames1 = s.frames1 := by simp [State.complete]
@[simp] theorem State.complete_refilling (s : State) (c pos : Nat) (d : Desc) (outcome step payload : Nat) : (s.complete c pos d outcome step payload).refilling = s.refilling := by simp [State.complete]
@[simp] theorem State.complete_demoting (s : State) (c pos : Nat) (d : Desc) (outcome step payload : Nat) : (s.complete c pos d outcome step payload).demoting = s.demoting := by simp [State.complete]
@[simp] theorem State.complete_regs (s : State) (c pos : Nat) (d : Desc) (outcome step payload : Nat) : (s.complete c pos d outcome step payload).regs = s.regs := by simp [State.complete]
@[simp] theorem State.complete_bankS (s : State) (c pos : Nat) (d : Desc) (outcome step payload : Nat) : (s.complete c pos d outcome step payload).bankS = s.bankS := by simp [State.complete]
@[simp] theorem State.complete_bankM (s : State) (c pos : Nat) (d : Desc) (outcome step payload : Nat) : (s.complete c pos d outcome step payload).bankM = s.bankM := by simp [State.complete]
@[simp] theorem State.complete_kilns (s : State) (c pos : Nat) (d : Desc) (outcome step payload : Nat) : (s.complete c pos d outcome step payload).kilns = s.kilns := by simp [State.complete]
@[simp] theorem State.complete_pframes (s : State) (c pos : Nat) (d : Desc) (outcome step payload : Nat) : (s.complete c pos d outcome step payload).pframes = s.pframes := by simp [State.complete]
@[simp] theorem State.complete_entriesFree (s : State) (c pos : Nat) (d : Desc) (outcome step payload : Nat) : (s.complete c pos d outcome step payload).entriesFree = s.entriesFree := by simp [State.complete]
@[simp] theorem State.complete_entriesLow (s : State) (c pos : Nat) (d : Desc) (outcome step payload : Nat) : (s.complete c pos d outcome step payload).entriesLow = s.entriesLow := by simp [State.complete]
@[simp] theorem State.complete_tier (s : State) (c pos : Nat) (d : Desc) (outcome step payload : Nat) : (s.complete c pos d outcome step payload).tier = s.tier := by simp [State.complete]
@[simp] theorem State.complete_ports (s : State) (c pos : Nat) (d : Desc) (outcome step payload : Nat) : (s.complete c pos d outcome step payload).ports = s.ports := by simp [State.complete]
@[simp] theorem State.complete_discards (s : State) (c pos : Nat) (d : Desc) (outcome step payload : Nat) : (s.complete c pos d outcome step payload).discards = s.discards := by simp [State.complete]
@[simp] theorem State.complete_discardIn (s : State) (c pos : Nat) (d : Desc) (outcome step payload : Nat) : (s.complete c pos d outcome step payload).discardIn = s.discardIn := by simp [State.complete]
@[simp] theorem State.complete_host (s : State) (c pos : Nat) (d : Desc) (outcome step payload : Nat) : (s.complete c pos d outcome step payload).host = s.host := by simp [State.complete]
@[simp] theorem State.complete_log (s : State) (c pos : Nat) (d : Desc) (outcome step payload : Nat) : (s.complete c pos d outcome step payload).log = s.log := by simp [State.complete]
@[simp] theorem State.complete_trust (s : State) (c pos : Nat) (d : Desc) (outcome step payload : Nat) : (s.complete c pos d outcome step payload).trust = s.trust := by simp [State.complete]
@[simp] theorem State.complete_out (s : State) (c pos : Nat) (d : Desc) (outcome step payload : Nat) : (s.complete c pos d outcome step payload).out = s.out := by simp [State.complete]
@[simp] theorem State.complete_pending (s : State) (c pos : Nat) (d : Desc) (outcome step payload : Nat) : (s.complete c pos d outcome step payload).pending = s.pending := by simp [State.complete]

/-! ### Records by number -/

@[simp] theorem State.ctx_setCtx (s : State) (c d : Nat) (x : Ctx) : (s.setCtx c x).ctx d = if c = d then x else s.ctx d := by
  simp only [State.ctx, State.setCtx, alook_aset]
  split <;> rfl

@[simp] theorem State.ctx_modCtx (s : State) (c d : Nat) (f : Ctx → Ctx) :
    (s.modCtx c f).ctx d = if c = d then f (s.ctx c) else s.ctx d := by
  simp [State.modCtx]

@[simp] theorem State.kiln_setKiln (s : State) (c d : Nat) (x : Kiln) : (s.setKiln c x).kiln d = if c = d then x else s.kiln d := by
  simp only [State.kiln, State.setKiln, alook_aset]
  split <;> rfl

@[simp] theorem State.kiln_modKiln (s : State) (c d : Nat) (f : Kiln → Kiln) :
    (s.modKiln c f).kiln d = if c = d then f (s.kiln c) else s.kiln d := by
  simp [State.modKiln]

@[simp] theorem State.port_setPort (s : State) (c d : Nat) (x : Port) : (s.setPort c x).port d = if c = d then x else s.port d := by
  simp only [State.port, State.setPort, alook_aset]
  split <;> rfl

@[simp] theorem State.port_modPort (s : State) (c d : Nat) (f : Port → Port) :
    (s.modPort c f).port d = if c = d then f (s.port c) else s.port d := by
  simp [State.modPort]

@[simp] theorem State.chan_modChan (s : State) (d ch d' ch' : Nat) (f : Chan → Chan) :
    (s.modChan d ch f).chan d' ch' = if 512 * d + ch = 512 * d' + ch' then f (s.chan d ch) else s.chan d' ch' := by
  simp only [State.chan, State.modChan, alook_aset]
  split <;> rfl

@[simp] theorem State.kiln_setCtx (s : State) (c : Nat) (x : Ctx) (k' : Nat) : (s.setCtx c x).kiln k' = s.kiln k' := by
  simp [State.kiln]
@[simp] theorem State.port_setCtx (s : State) (c : Nat) (x : Ctx) (p' : Nat) : (s.setCtx c x).port p' = s.port p' := by
  simp [State.port]
@[simp] theorem State.reg_setCtx (s : State) (c : Nat) (x : Ctx) (r' : Nat) : (s.setCtx c x).reg r' = s.reg r' := by
  simp [State.reg]
@[simp] theorem State.blk_setCtx (s : State) (c : Nat) (x : Ctx) (k' o' : Nat) : (s.setCtx c x).blk k' o' = s.blk k' o' := by
  simp [State.blk]
@[simp] theorem State.pg_setCtx (s : State) (c : Nat) (x : Ctx) (k' o' : Nat) : (s.setCtx c x).pg k' o' = s.pg k' o' := by
  simp [State.pg]
@[simp] theorem State.kiln_modCtx (s : State) (c : Nat) (f : Ctx → Ctx) (k' : Nat) : (s.modCtx c f).kiln k' = s.kiln k' := by
  simp [State.kiln]
@[simp] theorem State.port_modCtx (s : State) (c : Nat) (f : Ctx → Ctx) (p' : Nat) : (s.modCtx c f).port p' = s.port p' := by
  simp [State.port]
@[simp] theorem State.reg_modCtx (s : State) (c : Nat) (f : Ctx → Ctx) (r' : Nat) : (s.modCtx c f).reg r' = s.reg r' := by
  simp [State.reg]
@[simp] theorem State.blk_modCtx (s : State) (c : Nat) (f : Ctx → Ctx) (k' o' : Nat) : (s.modCtx c f).blk k' o' = s.blk k' o' := by
  simp [State.blk]
@[simp] theorem State.pg_modCtx (s : State) (c : Nat) (f : Ctx → Ctx) (k' o' : Nat) : (s.modCtx c f).pg k' o' = s.pg k' o' := by
  simp [State.pg]
@[simp] theorem State.ctx_setKiln (s : State) (n : Nat) (x : Kiln) (c' : Nat) : (s.setKiln n x).ctx c' = s.ctx c' := by
  simp [State.ctx]
@[simp] theorem State.port_setKiln (s : State) (n : Nat) (x : Kiln) (p' : Nat) : (s.setKiln n x).port p' = s.port p' := by
  simp [State.port]
@[simp] theorem State.reg_setKiln (s : State) (n : Nat) (x : Kiln) (r' : Nat) : (s.setKiln n x).reg r' = s.reg r' := by
  simp [State.reg]
@[simp] theorem State.blk_setKiln (s : State) (n : Nat) (x : Kiln) (k' o' : Nat) : (s.setKiln n x).blk k' o' = s.blk k' o' := by
  simp [State.blk]
@[simp] theorem State.pg_setKiln (s : State) (n : Nat) (x : Kiln) (k' o' : Nat) : (s.setKiln n x).pg k' o' = s.pg k' o' := by
  simp [State.pg]
@[simp] theorem State.ctx_modKiln (s : State) (n : Nat) (f : Kiln → Kiln) (c' : Nat) : (s.modKiln n f).ctx c' = s.ctx c' := by
  simp [State.ctx]
@[simp] theorem State.port_modKiln (s : State) (n : Nat) (f : Kiln → Kiln) (p' : Nat) : (s.modKiln n f).port p' = s.port p' := by
  simp [State.port]
@[simp] theorem State.reg_modKiln (s : State) (n : Nat) (f : Kiln → Kiln) (r' : Nat) : (s.modKiln n f).reg r' = s.reg r' := by
  simp [State.reg]
@[simp] theorem State.blk_modKiln (s : State) (n : Nat) (f : Kiln → Kiln) (k' o' : Nat) : (s.modKiln n f).blk k' o' = s.blk k' o' := by
  simp [State.blk]
@[simp] theorem State.pg_modKiln (s : State) (n : Nat) (f : Kiln → Kiln) (k' o' : Nat) : (s.modKiln n f).pg k' o' = s.pg k' o' := by
  simp [State.pg]
@[simp] theorem State.ctx_setPort (s : State) (p : Nat) (x : Port) (c' : Nat) : (s.setPort p x).ctx c' = s.ctx c' := by
  simp [State.ctx]
@[simp] theorem State.kiln_setPort (s : State) (p : Nat) (x : Port) (k' : Nat) : (s.setPort p x).kiln k' = s.kiln k' := by
  simp [State.kiln]
@[simp] theorem State.reg_setPort (s : State) (p : Nat) (x : Port) (r' : Nat) : (s.setPort p x).reg r' = s.reg r' := by
  simp [State.reg]
@[simp] theorem State.blk_setPort (s : State) (p : Nat) (x : Port) (k' o' : Nat) : (s.setPort p x).blk k' o' = s.blk k' o' := by
  simp [State.blk]
@[simp] theorem State.pg_setPort (s : State) (p : Nat) (x : Port) (k' o' : Nat) : (s.setPort p x).pg k' o' = s.pg k' o' := by
  simp [State.pg]
@[simp] theorem State.ctx_modPort (s : State) (p : Nat) (f : Port → Port) (c' : Nat) : (s.modPort p f).ctx c' = s.ctx c' := by
  simp [State.ctx]
@[simp] theorem State.kiln_modPort (s : State) (p : Nat) (f : Port → Port) (k' : Nat) : (s.modPort p f).kiln k' = s.kiln k' := by
  simp [State.kiln]
@[simp] theorem State.reg_modPort (s : State) (p : Nat) (f : Port → Port) (r' : Nat) : (s.modPort p f).reg r' = s.reg r' := by
  simp [State.reg]
@[simp] theorem State.blk_modPort (s : State) (p : Nat) (f : Port → Port) (k' o' : Nat) : (s.modPort p f).blk k' o' = s.blk k' o' := by
  simp [State.blk]
@[simp] theorem State.pg_modPort (s : State) (p : Nat) (f : Port → Port) (k' o' : Nat) : (s.modPort p f).pg k' o' = s.pg k' o' := by
  simp [State.pg]
@[simp] theorem State.ctx_modChan (s : State) (d ch : Nat) (f : Chan → Chan) (c' : Nat) : (s.modChan d ch f).ctx c' = s.ctx c' := by
  simp [State.ctx]
@[simp] theorem State.kiln_modChan (s : State) (d ch : Nat) (f : Chan → Chan) (k' : Nat) : (s.modChan d ch f).kiln k' = s.kiln k' := by
  simp [State.kiln]
@[simp] theorem State.port_modChan (s : State) (d ch : Nat) (f : Chan → Chan) (p' : Nat) : (s.modChan d ch f).port p' = s.port p' := by
  simp [State.port]
@[simp] theorem State.reg_modChan (s : State) (d ch : Nat) (f : Chan → Chan) (r' : Nat) : (s.modChan d ch f).reg r' = s.reg r' := by
  simp [State.reg]
@[simp] theorem State.blk_modChan (s : State) (d ch : Nat) (f : Chan → Chan) (k' o' : Nat) : (s.modChan d ch f).blk k' o' = s.blk k' o' := by
  simp [State.blk]
@[simp] theorem State.pg_modChan (s : State) (d ch : Nat) (f : Chan → Chan) (k' o' : Nat) : (s.modChan d ch f).pg k' o' = s.pg k' o' := by
  simp [State.pg]
@[simp] theorem State.ctx_emit (s : State) (o : Output) (c' : Nat) : (s.emit o).ctx c' = s.ctx c' := by
  simp [State.ctx]
@[simp] theorem State.kiln_emit (s : State) (o : Output) (k' : Nat) : (s.emit o).kiln k' = s.kiln k' := by
  simp [State.kiln]
@[simp] theorem State.port_emit (s : State) (o : Output) (p' : Nat) : (s.emit o).port p' = s.port p' := by
  simp [State.port]
@[simp] theorem State.reg_emit (s : State) (o : Output) (r' : Nat) : (s.emit o).reg r' = s.reg r' := by
  simp [State.reg]
@[simp] theorem State.blk_emit (s : State) (o : Output) (k' o' : Nat) : (s.emit o).blk k' o' = s.blk k' o' := by
  simp [State.blk]
@[simp] theorem State.pg_emit (s : State) (o : Output) (k' o' : Nat) : (s.emit o).pg k' o' = s.pg k' o' := by
  simp [State.pg]
@[simp] theorem State.ctx_setReg (s : State) (a v : Nat) (c' : Nat) : (s.setReg a v).ctx c' = s.ctx c' := by
  simp [State.ctx]
@[simp] theorem State.kiln_setReg (s : State) (a v : Nat) (k' : Nat) : (s.setReg a v).kiln k' = s.kiln k' := by
  simp [State.kiln]
@[simp] theorem State.port_setReg (s : State) (a v : Nat) (p' : Nat) : (s.setReg a v).port p' = s.port p' := by
  simp [State.port]
@[simp] theorem State.ctx_modTier (s : State) (f : Tier → Tier) (c' : Nat) : (s.modTier f).ctx c' = s.ctx c' := by
  simp [State.ctx]
@[simp] theorem State.kiln_modTier (s : State) (f : Tier → Tier) (k' : Nat) : (s.modTier f).kiln k' = s.kiln k' := by
  simp [State.kiln]
@[simp] theorem State.port_modTier (s : State) (f : Tier → Tier) (p' : Nat) : (s.modTier f).port p' = s.port p' := by
  simp [State.port]
@[simp] theorem State.reg_modTier (s : State) (f : Tier → Tier) (r' : Nat) : (s.modTier f).reg r' = s.reg r' := by
  simp [State.reg]
@[simp] theorem State.blk_modTier (s : State) (f : Tier → Tier) (k' o' : Nat) : (s.modTier f).blk k' o' = s.blk k' o' := by
  simp [State.blk]
@[simp] theorem State.pg_modTier (s : State) (f : Tier → Tier) (k' o' : Nat) : (s.modTier f).pg k' o' = s.pg k' o' := by
  simp [State.pg]
@[simp] theorem State.ctx_modPwr (s : State) (f : Power → Power) (c' : Nat) : (s.modPwr f).ctx c' = s.ctx c' := by
  simp [State.ctx]
@[simp] theorem State.kiln_modPwr (s : State) (f : Power → Power) (k' : Nat) : (s.modPwr f).kiln k' = s.kiln k' := by
  simp [State.kiln]
@[simp] theorem State.port_modPwr (s : State) (f : Power → Power) (p' : Nat) : (s.modPwr f).port p' = s.port p' := by
  simp [State.port]
@[simp] theorem State.reg_modPwr (s : State) (f : Power → Power) (r' : Nat) : (s.modPwr f).reg r' = s.reg r' := by
  simp [State.reg]
@[simp] theorem State.blk_modPwr (s : State) (f : Power → Power) (k' o' : Nat) : (s.modPwr f).blk k' o' = s.blk k' o' := by
  simp [State.blk]
@[simp] theorem State.pg_modPwr (s : State) (f : Power → Power) (k' o' : Nat) : (s.modPwr f).pg k' o' = s.pg k' o' := by
  simp [State.pg]
@[simp] theorem State.ctx_modHost (s : State) (f : HostIf → HostIf) (c' : Nat) : (s.modHost f).ctx c' = s.ctx c' := by
  simp [State.ctx]
@[simp] theorem State.kiln_modHost (s : State) (f : HostIf → HostIf) (k' : Nat) : (s.modHost f).kiln k' = s.kiln k' := by
  simp [State.kiln]
@[simp] theorem State.port_modHost (s : State) (f : HostIf → HostIf) (p' : Nat) : (s.modHost f).port p' = s.port p' := by
  simp [State.port]
@[simp] theorem State.reg_modHost (s : State) (f : HostIf → HostIf) (r' : Nat) : (s.modHost f).reg r' = s.reg r' := by
  simp [State.reg]
@[simp] theorem State.blk_modHost (s : State) (f : HostIf → HostIf) (k' o' : Nat) : (s.modHost f).blk k' o' = s.blk k' o' := by
  simp [State.blk]
@[simp] theorem State.pg_modHost (s : State) (f : HostIf → HostIf) (k' o' : Nat) : (s.modHost f).pg k' o' = s.pg k' o' := by
  simp [State.pg]
@[simp] theorem State.ctx_modTrust (s : State) (f : Trust → Trust) (c' : Nat) : (s.modTrust f).ctx c' = s.ctx c' := by
  simp [State.ctx]
@[simp] theorem State.kiln_modTrust (s : State) (f : Trust → Trust) (k' : Nat) : (s.modTrust f).kiln k' = s.kiln k' := by
  simp [State.kiln]
@[simp] theorem State.port_modTrust (s : State) (f : Trust → Trust) (p' : Nat) : (s.modTrust f).port p' = s.port p' := by
  simp [State.port]
@[simp] theorem State.reg_modTrust (s : State) (f : Trust → Trust) (r' : Nat) : (s.modTrust f).reg r' = s.reg r' := by
  simp [State.reg]
@[simp] theorem State.blk_modTrust (s : State) (f : Trust → Trust) (k' o' : Nat) : (s.modTrust f).blk k' o' = s.blk k' o' := by
  simp [State.blk]
@[simp] theorem State.pg_modTrust (s : State) (f : Trust → Trust) (k' o' : Nat) : (s.modTrust f).pg k' o' = s.pg k' o' := by
  simp [State.pg]
@[simp] theorem State.ctx_poke (s : State) (a : Nat) (bs : List Byte) (c' : Nat) : (s.poke a bs).ctx c' = s.ctx c' := by
  simp [State.ctx]
@[simp] theorem State.kiln_poke (s : State) (a : Nat) (bs : List Byte) (k' : Nat) : (s.poke a bs).kiln k' = s.kiln k' := by
  simp [State.kiln]
@[simp] theorem State.port_poke (s : State) (a : Nat) (bs : List Byte) (p' : Nat) : (s.poke a bs).port p' = s.port p' := by
  simp [State.port]
@[simp] theorem State.reg_poke (s : State) (a : Nat) (bs : List Byte) (r' : Nat) : (s.poke a bs).reg r' = s.reg r' := by
  simp [State.reg]
@[simp] theorem State.blk_poke (s : State) (a : Nat) (bs : List Byte) (k' o' : Nat) : (s.poke a bs).blk k' o' = s.blk k' o' := by
  simp [State.blk]
@[simp] theorem State.pg_poke (s : State) (a : Nat) (bs : List Byte) (k' o' : Nat) : (s.poke a bs).pg k' o' = s.pg k' o' := by
  simp [State.pg]
@[simp] theorem State.ctx_setUpset (s : State) (b : Nat) (p : Symbols.Pattern) (c' : Nat) : (s.setUpset b p).ctx c' = s.ctx c' := by
  simp [State.ctx]
@[simp] theorem State.kiln_setUpset (s : State) (b : Nat) (p : Symbols.Pattern) (k' : Nat) : (s.setUpset b p).kiln k' = s.kiln k' := by
  simp [State.kiln]
@[simp] theorem State.port_setUpset (s : State) (b : Nat) (p : Symbols.Pattern) (p' : Nat) : (s.setUpset b p).port p' = s.port p' := by
  simp [State.port]
@[simp] theorem State.reg_setUpset (s : State) (b : Nat) (p : Symbols.Pattern) (r' : Nat) : (s.setUpset b p).reg r' = s.reg r' := by
  simp [State.reg]
@[simp] theorem State.blk_setUpset (s : State) (b : Nat) (p : Symbols.Pattern) (k' o' : Nat) : (s.setUpset b p).blk k' o' = s.blk k' o' := by
  simp [State.blk]
@[simp] theorem State.pg_setUpset (s : State) (b : Nat) (p : Symbols.Pattern) (k' o' : Nat) : (s.setUpset b p).pg k' o' = s.pg k' o' := by
  simp [State.pg]
@[simp] theorem State.ctx_record (s : State) (kind code context origin body : Nat) (c' : Nat) : (s.record kind code context origin body).ctx c' = s.ctx c' := by
  simp [State.ctx]
@[simp] theorem State.kiln_record (s : State) (kind code context origin body : Nat) (k' : Nat) : (s.record kind code context origin body).kiln k' = s.kiln k' := by
  simp [State.kiln]
@[simp] theorem State.port_record (s : State) (kind code context origin body : Nat) (p' : Nat) : (s.record kind code context origin body).port p' = s.port p' := by
  simp [State.port]
@[simp] theorem State.reg_record (s : State) (kind code context origin body : Nat) (r' : Nat) : (s.record kind code context origin body).reg r' = s.reg r' := by
  simp [State.reg]
@[simp] theorem State.blk_record (s : State) (kind code context origin body : Nat) (k' o' : Nat) : (s.record kind code context origin body).blk k' o' = s.blk k' o' := by
  simp [State.blk]
@[simp] theorem State.pg_record (s : State) (kind code context origin body : Nat) (k' o' : Nat) : (s.record kind code context origin body).pg k' o' = s.pg k' o' := by
  simp [State.pg]
@[simp] theorem State.ctx_toSteward (s : State) (e : Entry) (c' : Nat) : (s.toSteward e).ctx c' = s.ctx c' := by
  simp [State.ctx]
@[simp] theorem State.kiln_toSteward (s : State) (e : Entry) (k' : Nat) : (s.toSteward e).kiln k' = s.kiln k' := by
  simp [State.kiln]
@[simp] theorem State.port_toSteward (s : State) (e : Entry) (p' : Nat) : (s.toSteward e).port p' = s.port p' := by
  simp [State.port]
@[simp] theorem State.reg_toSteward (s : State) (e : Entry) (r' : Nat) : (s.toSteward e).reg r' = s.reg r' := by
  simp [State.reg]
@[simp] theorem State.blk_toSteward (s : State) (e : Entry) (k' o' : Nat) : (s.toSteward e).blk k' o' = s.blk k' o' := by
  simp [State.blk]
@[simp] theorem State.pg_toSteward (s : State) (e : Entry) (k' o' : Nat) : (s.toSteward e).pg k' o' = s.pg k' o' := by
  simp [State.pg]
@[simp] theorem State.ctx_raise (s : State) (code payload : Nat) (c' : Nat) : (s.raise code payload).ctx c' = s.ctx c' := by
  simp [State.ctx]
@[simp] theorem State.kiln_raise (s : State) (code payload : Nat) (k' : Nat) : (s.raise code payload).kiln k' = s.kiln k' := by
  simp [State.kiln]
@[simp] theorem State.port_raise (s : State) (code payload : Nat) (p' : Nat) : (s.raise code payload).port p' = s.port p' := by
  simp [State.port]
@[simp] theorem State.reg_raise (s : State) (code payload : Nat) (r' : Nat) : (s.raise code payload).reg r' = s.reg r' := by
  simp [State.reg]
@[simp] theorem State.blk_raise (s : State) (code payload : Nat) (k' o' : Nat) : (s.raise code payload).blk k' o' = s.blk k' o' := by
  simp [State.blk]
@[simp] theorem State.pg_raise (s : State) (code payload : Nat) (k' o' : Nat) : (s.raise code payload).pg k' o' = s.pg k' o' := by
  simp [State.pg]
@[simp] theorem State.kiln_toContext (s : State) (c : Nat) (d : Bool) (e : Entry) (k' : Nat) : (s.toContext c d e).kiln k' = s.kiln k' := by
  simp [State.kiln]
@[simp] theorem State.port_toContext (s : State) (c : Nat) (d : Bool) (e : Entry) (p' : Nat) : (s.toContext c d e).port p' = s.port p' := by
  simp [State.port]
@[simp] theorem State.reg_toContext (s : State) (c : Nat) (d : Bool) (e : Entry) (r' : Nat) : (s.toContext c d e).reg r' = s.reg r' := by
  simp [State.reg]
@[simp] theorem State.blk_toContext (s : State) (c : Nat) (d : Bool) (e : Entry) (k' o' : Nat) : (s.toContext c d e).blk k' o' = s.blk k' o' := by
  simp [State.blk]
@[simp] theorem State.pg_toContext (s : State) (c : Nat) (d : Bool) (e : Entry) (k' o' : Nat) : (s.toContext c d e).pg k' o' = s.pg k' o' := by
  simp [State.pg]
@[simp] theorem State.kiln_raiseCtx (s : State) (c : Nat) (pos : Option Nat) (code payload : Nat) (k' : Nat) : (s.raiseCtx c pos code payload).kiln k' = s.kiln k' := by
  simp [State.kiln]
@[simp] theorem State.port_raiseCtx (s : State) (c : Nat) (pos : Option Nat) (code payload : Nat) (p' : Nat) : (s.raiseCtx c pos code payload).port p' = s.port p' := by
  simp [State.port]
@[simp] theorem State.reg_raiseCtx (s : State) (c : Nat) (pos : Option Nat) (code payload : Nat) (r' : Nat) : (s.raiseCtx c pos code payload).reg r' = s.reg r' := by
  simp [State.reg]
@[simp] theorem State.blk_raiseCtx (s : State) (c : Nat) (pos : Option Nat) (code payload : Nat) (k' o' : Nat) : (s.raiseCtx c pos code payload).blk k' o' = s.blk k' o' := by
  simp [State.blk]
@[simp] theorem State.pg_raiseCtx (s : State) (c : Nat) (pos : Option Nat) (code payload : Nat) (k' o' : Nat) : (s.raiseCtx c pos code payload).pg k' o' = s.pg k' o' := by
  simp [State.pg]
@[simp] theorem State.kiln_modWin (s : State) (c pos : Nat) (f : WinOp → WinOp) (k' : Nat) : (s.modWin c pos f).kiln k' = s.kiln k' := by
  simp [State.kiln]
@[simp] theorem State.port_modWin (s : State) (c pos : Nat) (f : WinOp → WinOp) (p' : Nat) : (s.modWin c pos f).port p' = s.port p' := by
  simp [State.port]
@[simp] theorem State.reg_modWin (s : State) (c pos : Nat) (f : WinOp → WinOp) (r' : Nat) : (s.modWin c pos f).reg r' = s.reg r' := by
  simp [State.reg]
@[simp] theorem State.blk_modWin (s : State) (c pos : Nat) (f : WinOp → WinOp) (k' o' : Nat) : (s.modWin c pos f).blk k' o' = s.blk k' o' := by
  simp [State.blk]
@[simp] theorem State.pg_modWin (s : State) (c pos : Nat) (f : WinOp → WinOp) (k' o' : Nat) : (s.modWin c pos f).pg k' o' = s.pg k' o' := by
  simp [State.pg]
@[simp] theorem State.kiln_dropWin (s : State) (c pos : Nat) (k' : Nat) : (s.dropWin c pos).kiln k' = s.kiln k' := by
  simp [State.kiln]
@[simp] theorem State.port_dropWin (s : State) (c pos : Nat) (p' : Nat) : (s.dropWin c pos).port p' = s.port p' := by
  simp [State.port]
@[simp] theorem State.reg_dropWin (s : State) (c pos : Nat) (r' : Nat) : (s.dropWin c pos).reg r' = s.reg r' := by
  simp [State.reg]
@[simp] theorem State.blk_dropWin (s : State) (c pos : Nat) (k' o' : Nat) : (s.dropWin c pos).blk k' o' = s.blk k' o' := by
  simp [State.blk]
@[simp] theorem State.pg_dropWin (s : State) (c pos : Nat) (k' o' : Nat) : (s.dropWin c pos).pg k' o' = s.pg k' o' := by
  simp [State.pg]
@[simp] theorem State.kiln_complete (s : State) (c pos : Nat) (d : Desc) (outcome step payload : Nat) (k' : Nat) : (s.complete c pos d outcome step payload).kiln k' = s.kiln k' := by
  simp [State.kiln]
@[simp] theorem State.port_complete (s : State) (c pos : Nat) (d : Desc) (outcome step payload : Nat) (p' : Nat) : (s.complete c pos d outcome step payload).port p' = s.port p' := by
  simp [State.port]
@[simp] theorem State.reg_complete (s : State) (c pos : Nat) (d : Desc) (outcome step payload : Nat) (r' : Nat) : (s.complete c pos d outcome step payload).reg r' = s.reg r' := by
  simp [State.reg]
@[simp] theorem State.blk_complete (s : State) (c pos : Nat) (d : Desc) (outcome step payload : Nat) (k' o' : Nat) : (s.complete c pos d outcome step payload).blk k' o' = s.blk k' o' := by
  simp [State.blk]
@[simp] theorem State.pg_complete (s : State) (c pos : Nat) (d : Desc) (outcome step payload : Nat) (k' o' : Nat) : (s.complete c pos d outcome step payload).pg k' o' = s.pg k' o' := by
  simp [State.pg]

@[simp] theorem State.reg_setReg (s : State) (a v : Nat) (h : v ≠ regReset a) (b : Nat) :
    (s.setReg a v).reg b = if a = b then v else s.reg b := by
  simp only [State.reg, State.setReg, if_neg h, alook_aset]
  split <;> rfl

@[simp] theorem State.writeBlock2_datum (s : State) (g : Trust → Trust) : (s.writeBlock2 g).datum = s.datum := rfl
@[simp] theorem State.writeBlock2_draw (s : State) (g : Trust → Trust) : (s.writeBlock2 g).draw = s.draw := rfl
@[simp] theorem State.writeBlock2_pwr (s : State) (g : Trust → Trust) : (s.writeBlock2 g).pwr = s.pwr := rfl
@[simp] theorem State.writeBlock2_dat (s : State) (g : Trust → Trust) : (s.writeBlock2 g).dat = s.dat := rfl
@[simp] theorem State.writeBlock2_mem (s : State) (g : Trust → Trust) : (s.writeBlock2 g).mem = s.mem := rfl
@[simp] theorem State.writeBlock2_upsets (s : State) (g : Trust → Trust) : (s.writeBlock2 g).upsets = s.upsets := rfl
@[simp] theorem State.writeBlock2_setter (s : State) (g : Trust → Trust) : (s.writeBlock2 g).setter = s.setter := rfl
@[simp] theorem State.writeBlock2_frames0 (s : State) (g : Trust → Trust) : (s.writeBlock2 g).frames0 = s.frames0 := rfl
@[simp] theorem State.writeBlock2_frames1 (s : State) (g : Trust → Trust) : (s.writeBlock2 g).frames1 = s.frames1 := rfl
@[simp] theorem State.writeBlock2_refilling (s : State) (g : Trust → Trust) : (s.writeBlock2 g).refilling = s.refilling := rfl
@[simp] theorem State.writeBlock2_demoting (s : State) (g : Trust → Trust) : (s.writeBlock2 g).demoting = s.demoting := rfl
@[simp] theorem State.writeBlock2_regs (s : State) (g : Trust → Trust) : (s.writeBlock2 g).regs = s.regs := rfl
@[simp] theorem State.writeBlock2_bankS (s : State) (g : Trust → Trust) : (s.writeBlock2 g).bankS = s.bankS := rfl
@[simp] theorem State.writeBlock2_bankM (s : State) (g : Trust → Trust) : (s.writeBlock2 g).bankM = s.bankM := rfl
@[simp] theorem State.writeBlock2_kilns (s : State) (g : Trust → Trust) : (s.writeBlock2 g).kilns = s.kilns := rfl
@[simp] theorem State.writeBlock2_pframes (s : State) (g : Trust → Trust) : (s.writeBlock2 g).pframes = s.pframes := rfl
@[simp] theorem State.writeBlock2_entriesFree (s : State) (g : Trust → Trust) : (s.writeBlock2 g).entriesFree = s.entriesFree := rfl
@[simp] theorem State.writeBlock2_entriesLow (s : State) (g : Trust → Trust) : (s.writeBlock2 g).entriesLow = s.entriesLow := rfl
@[simp] theorem State.writeBlock2_tier (s : State) (g : Trust → Trust) : (s.writeBlock2 g).tier = s.tier := rfl
@[simp] theorem State.writeBlock2_ports (s : State) (g : Trust → Trust) : (s.writeBlock2 g).ports = s.ports := rfl
@[simp] theorem State.writeBlock2_discards (s : State) (g : Trust → Trust) : (s.writeBlock2 g).discards = s.discards := rfl
@[simp] theorem State.writeBlock2_discardIn (s : State) (g : Trust → Trust) : (s.writeBlock2 g).discardIn = s.discardIn := rfl
@[simp] theorem State.writeBlock2_host (s : State) (g : Trust → Trust) : (s.writeBlock2 g).host = s.host := rfl
@[simp] theorem State.writeBlock2_log (s : State) (g : Trust → Trust) : (s.writeBlock2 g).log = s.log := rfl
@[simp] theorem State.writeBlock2_out (s : State) (g : Trust → Trust) : (s.writeBlock2 g).out = s.out := rfl
@[simp] theorem State.writeBlock2_pending (s : State) (g : Trust → Trust) : (s.writeBlock2 g).pending = s.pending := rfl
@[simp] theorem State.writeBlock2_ctxs (s : State) (g : Trust → Trust) : (s.writeBlock2 g).ctxs = s.ctxs := rfl

end Sys2Proof.Machine
end

