-- ==== Sys2Proof/Laws/Window.lean ====
section
/-! SUPPORT. What the shared operations can do: sending a packet, raising an event, settling the kilns, completing an operation. -/

namespace Sys2Proof.Safety

open Sys2Proof.Machine

theorem Keeps.refl (parts : List Part) (s : State) : Keeps parts s s := by
  intro p _; cases p <;> simp [Part.Same]

theorem Part.Same.trans {p : Part} {s t u : State} (h : p.Same s t) (k : p.Same t u) : p.Same s u := by
  cases p <;> simp_all [Part.Same]

theorem Keeps.trans {parts : List Part} {s t u : State} (h : Keeps parts s t) (k : Keeps parts t u) : Keeps parts s u :=
  fun p hp => (h p hp).trans (k p hp)

theorem Keeps.mono {ps qs : List Part} {s t : State} (h : Keeps ps s t) (hs : ∀ p ∈ ps, p ∈ qs) : Keeps qs s t :=
  fun p hp => h p fun hq => hp (hs p hq)

/-- Contexts and kilns by number after a put. -/
theorem ctx_setCtx (s : State) (c d : Nat) (x : Ctx) : (s.setCtx c x).ctx d = if c = d then x else s.ctx d := by
  simp only [State.ctx, State.setCtx, alook_aset]; split <;> rfl

@[simp] theorem ctx_setCtx_same (s : State) (c : Nat) (x : Ctx) : (s.setCtx c x).ctx c = x := by simp

theorem ctx_setCtx_ne {c d : Nat} (h : c ≠ d) (s : State) (x : Ctx) : (s.setCtx c x).ctx d = s.ctx d := by simp [h]

theorem kiln_setKiln (s : State) (c d : Nat) (x : Kiln) : (s.setKiln c x).kiln d = if c = d then x else s.kiln d := by
  simp only [State.kiln, State.setKiln, alook_aset]; split <;> rfl

@[simp] theorem kiln_setKiln_same (s : State) (c : Nat) (x : Kiln) : (s.setKiln c x).kiln c = x := by simp

theorem kiln_setKiln_ne {c d : Nat} (h : c ≠ d) (s : State) (x : Kiln) : (s.setKiln c x).kiln d = s.kiln d := by simp [h]

theorem port_setPort (s : State) (c d : Nat) (x : Port) : (s.setPort c x).port d = if c = d then x else s.port d := by
  simp only [State.port, State.setPort, alook_aset]; split <;> rfl

@[simp] theorem port_setPort_same (s : State) (c : Nat) (x : Port) : (s.setPort c x).port c = x := by simp

theorem port_setPort_ne {c d : Nat} (h : c ≠ d) (s : State) (x : Port) : (s.setPort c x).port d = s.port d := by simp [h]

/-- `t` is `s` but for kilns and for what context c has starved. -/
def Starves (c : Nat) (s t : State) : Prop :=
  Keeps [.ctxs, .kilns] s t ∧ OnlyCtx c s t ∧ t.ctx c = { s.ctx c with starve := (t.ctx c).starve }

theorem Starves.refl (c : Nat) (s : State) : Starves c s s := ⟨Keeps.refl _ _, fun _ _ => rfl, rfl⟩

theorem Starves.trans {c : Nat} {s t u : State} (h : Starves c s t) (k : Starves c t u) : Starves c s u := by
  refine ⟨h.1.trans k.1, fun d hd => (k.2.1 d hd).trans (h.2.1 d hd), ?_⟩
  rw [k.2.2, h.2.2]

theorem starves_setKiln (c k : Nat) (s : State) (x : Kiln) : Starves c s (s.setKiln k x) :=
  ⟨fun p hp => by cases p <;> simp_all [Part.Same, State.setKiln], fun _ _ => rfl, rfl⟩

theorem starves_modKiln (c k : Nat) (s : State) (f : Kiln → Kiln) : Starves c s (s.modKiln k f) := starves_setKiln c k s _

theorem starves_modCtx (c : Nat) (s : State) (g : Ctx → List (Nat × Nat)) :
    Starves c s (s.modCtx c fun y => { y with starve := g y }) := by
  refine ⟨fun p hp => by cases p <;> simp_all [Part.Same, State.setCtx, State.modCtx], fun d hd => ?_, ?_⟩
  · simp [State.modCtx, ctx_setCtx_ne (Ne.symm hd)]
  · simp [State.modCtx]

theorem starves_countStarve {c k : Nat} {s : State} (h : (s.kiln k).ctx = some c) : Starves c s (s.countStarve k) := by
  simp only [State.countStarve]
  split
  · rename_i w d h1 h2
    obtain rfl : c = d := by simpa [h] using h2
    exact (starves_setKiln _ _ _ _).trans (starves_modCtx c _ _)
  · exact Starves.refl _ _

theorem starves_endStarve {c k : Nat} {s : State} (h : (s.kiln k).ctx = some c) : Starves c s (s.endStarve k) :=
  (starves_countStarve h).trans (starves_modKiln _ _ _ _)

theorem starves_startSwitch {c k : Nat} {s : State} (h : (s.kiln k).ctx = some c) (dest : Option Nat) : Starves c s (s.startSwitch k dest) :=
  (starves_endStarve h).trans (starves_modKiln _ _ _ _)

/-- Settling one kiln of a context (R83, R86). -/
theorem starves_settleKiln (c k : Nat) (s : State) : Starves c s (s.settleKiln c k) := by
  unfold State.settleKiln
  dsimp only
  by_cases h : (s.kiln k).ctx = some c
  · repeat' split
    all_goals first
      | exact Starves.refl _ _
      | exact (starves_endStarve h).trans (starves_modKiln _ _ _ _)
      | exact starves_startSwitch h _
      | exact (starves_countStarve h).trans (starves_modKiln _ _ _ _)
  · rw [if_pos (.inl h)]
    exact Starves.refl _ _

/-- Settling a context's kilns changes kilns and the context's starving counts, and nothing else (R83, R86). -/
theorem starves_settleKilns (c : Nat) (s : State) : Starves c s (s.settleKilns c) := by
  unfold State.settleKilns
  generalize s.kilnSet c = l
  induction l generalizing s with
  | nil => exact Starves.refl c s
  | cons k l ih => exact (starves_settleKiln c k s).trans (ih _)

/-- A ring's new state and reason, and the kilns settled: nothing else changes (R83, R369). -/
theorem setRing_keeps (s : State) (c : Nat) (r : RingState) (reason : Nat) :
    Keeps [.ctxs, .kilns] s (s.setRing c r reason) ∧ OnlyCtx c s (s.setRing c r reason) ∧
      (s.setRing c r reason).ctx c =
        { s.ctx c with ring := r, ringReason := reason, statusDirty := true, starve := ((s.setRing c r reason).ctx c).starve } := by
  have h := starves_settleKilns c (s.modCtx c fun x => { x with ring := r, ringReason := reason, statusDirty := true })
  refine ⟨Keeps.trans (fun p hp => ?_) h.1, fun d hd => (h.2.1 d hd).trans ?_, ?_⟩
  · cases p <;> simp_all [Part.Same, State.modCtx, State.setCtx]
  · simp [State.modCtx, ctx_setCtx_ne (Ne.symm hd)]
  · exact h.2.2.trans (by simp [State.setRing])

end Sys2Proof.Safety
end

