-- ==== Sys2Proof/Laws/Events.lean ====
section
/-! SUPPORT. What raising an event and completing an operation do. -/

namespace Sys2Proof.Safety

open Sys2Proof.Machine

theorem onlyCtx_setCtx (s : State) (c : Nat) (x : Ctx) : OnlyCtx c s (s.setCtx c x) := fun d hd => by simp [ctx_setCtx_ne (Ne.symm hd)]

theorem OnlyCtx.refl (c : Nat) (s : State) : OnlyCtx c s s := fun _ _ => rfl

theorem OnlyCtx.trans {c : Nat} {s t u : State} (h : OnlyCtx c s t) (k : OnlyCtx c t u) : OnlyCtx c s u :=
  fun d hd => (k d hd).trans (h d hd)

theorem keeps_setCtx (s : State) (c : Nat) (x : Ctx) : Keeps [.ctxs] s (s.setCtx c x) := fun p hp => by
  cases p <;> simp_all [Part.Same]

theorem keeps_record (s : State) (kind code context origin body : Nat) : Keeps [.log] s (s.record kind code context origin body) := fun p hp => by
  cases p <;> simp_all [Part.Same, State.record]

@[simp] theorem record_ctx (s : State) (kind code context origin body c : Nat) : (s.record kind code context origin body).ctx c = s.ctx c := rfl

theorem record_head (s : State) (kind code context origin body : Nat) :
    ((s.record kind code context origin body).log.recs.head?.map fun r => (r.kind, r.code, r.context, r.body)) = some (kind, code, context, body) := by
  simp [State.record]

theorem keeps_toSteward (s : State) (e : Entry) : Keeps [.host] s (s.toSteward e) := fun p hp => by
  simp only [State.toSteward]; split <;> cases p <;> simp_all [Part.Same]

@[simp] theorem toSteward_ctx (s : State) (e : Entry) (c : Nat) : (s.toSteward e).ctx c = s.ctx c := by
  simp only [State.toSteward]; split <;> rfl

@[simp] theorem toSteward_log (s : State) (e : Entry) : (s.toSteward e).log = s.log := by
  simp only [State.toSteward]; split <;> rfl

theorem toSteward_last (s : State) (e : Entry) : (s.toSteward e).host.stewardq.getLast? = some e := by
  simp only [State.toSteward]; split <;> simp

theorem keeps_tell (s : State) (code payload : Nat) : Keeps [.log, .host] s (s.tell code payload) :=
  ((keeps_record _ _ _ _ _ _).mono (by simp)).trans ((keeps_toSteward _ _).mono (by simp))

theorem tell_event (s : State) (code payload : Nat) : ModEvent code payload (s.tell code payload) :=
  ⟨by simp only [State.tell, toSteward_log, record_head], by simp only [State.tell, toSteward_last, Option.map_some]⟩

theorem keeps_noteEarly (s : State) (code : Nat) : Keeps [.log] s (s.noteEarly code) := fun p hp => by
  unfold State.noteEarly; split <;> cases p <;> simp_all [Part.Same]

theorem noteEarly_event {a b : Nat} {s : State} (h : ModEvent a b s) (code : Nat) : ModEvent a b (s.noteEarly code) := by
  unfold State.noteEarly; split <;> exact h

theorem keeps_romEvent (s : State) (code payload : Nat) : Keeps [.log] s (s.romEvent code payload) := fun p hp => by
  cases p <;> simp_all [Part.Same, State.romEvent]

/-- An event outside any context changes the log and the steward ring's queue only (R434). -/
theorem keeps_raise (s : State) (code payload : Nat) : Keeps [.log, .host] s (s.raise code payload) := by
  simp only [State.raise]; split
  · exact (keeps_romEvent s code payload).mono (by simp)
  · exact (keeps_tell s code payload).trans ((keeps_noteEarly _ code).mono (by simp))

@[simp] theorem raise_ctx (s : State) (code payload c : Nat) : (s.raise code payload).ctx c = s.ctx c := by simp [State.ctx]

/-- An event is told once the control firmware runs (R434). -/
theorem raise_event (s : State) (code payload : Nat) (h : s.booting = false) : ModEvent code payload (s.raise code payload) := by
  rw [State.raise, h]; exact noteEarly_event (tell_event s code payload) code

theorem keeps_toContext (s : State) (c : Nat) (b : Bool) (e : Entry) : Keeps [.ctxs] s (s.toContext c b e) := by
  simp only [State.toContext, State.modCtx]; split <;> exact keeps_setCtx _ _ _

theorem onlyCtx_toContext (s : State) (c : Nat) (b : Bool) (e : Entry) : OnlyCtx c s (s.toContext c b e) := by
  simp only [State.toContext, State.modCtx]; split <;> exact onlyCtx_setCtx _ _ _

@[simp] theorem toContext_log (s : State) (c : Nat) (b : Bool) (e : Entry) : (s.toContext c b e).log = s.log := by
  simp only [State.toContext]; split <;> rfl

/-- Queueing an entry touches the queue of the context and its two counts of dropped entries only (R366). -/
theorem toContext_ctx (s : State) (c : Nat) (b : Bool) (e : Entry) :
    (s.toContext c b e).ctx c =
      { s.ctx c with entryq := ((s.toContext c b e).ctx c).entryq, lostEntries := ((s.toContext c b e).ctx c).lostEntries
                     droppedCount := ((s.toContext c b e).ctx c).droppedCount } := by
  simp only [State.toContext, State.modCtx]; split <;> simp

/-- An entry of an operation, or a completion, is never dropped (R366). -/
theorem toContext_false_ctx (s : State) (c : Nat) (e : Entry) :
    (s.toContext c false e).ctx c = { s.ctx c with entryq := (s.ctx c).entryq ++ [e] } := by
  simp [State.toContext, State.modCtx]

/-- An event of a context changes the log, the steward ring's queue and the context only (R434). -/
theorem keeps_raiseCtx (s : State) (c : Nat) (pos : Option Nat) (code payload : Nat) : Keeps [.ctxs, .log, .host] s (s.raiseCtx c pos code payload) := by
  have h := ((keeps_record s 1 code c (originOf code payload) (pos.getD 0 + (s.step c <<< 64) + (payload <<< 128))).mono (qs := [.ctxs, .log, .host])
    (by simp)).trans ((keeps_toContext _ c pos.isNone
      { kind := 2, outcome := 0, code := code, context := c, position := pos.getD 0, step := s.step c, datum := s.datum, tag := 0,
        payload := payload }).mono (by simp))
  simp only [State.raiseCtx]
  split
  · exact h.trans ((keeps_toSteward _ _).mono (by simp))
  · exact h

theorem onlyCtx_raiseCtx (s : State) (c : Nat) (pos : Option Nat) (code payload : Nat) : OnlyCtx c s (s.raiseCtx c pos code payload) := by
  intro d hd
  simp only [State.raiseCtx]
  split <;> simp [onlyCtx_toContext _ c _ _ d hd]

theorem raiseCtx_ctx (s : State) (c : Nat) (pos : Option Nat) (code payload : Nat) :
    (s.raiseCtx c pos code payload).ctx c =
      { s.ctx c with entryq := ((s.raiseCtx c pos code payload).ctx c).entryq
                     lostEntries := ((s.raiseCtx c pos code payload).ctx c).lostEntries
                     droppedCount := ((s.raiseCtx c pos code payload).ctx c).droppedCount } := by
  simp only [State.raiseCtx]
  split
  · rw [toSteward_ctx, toContext_ctx]; rfl
  · rw [toContext_ctx]; rfl

theorem raiseCtx_event (s : State) (c : Nat) (pos : Option Nat) (code payload : Nat) :
    CtxEvent c (pos.getD 0) code payload s (s.raiseCtx c pos code payload) := by
  simp only [CtxEvent, State.raiseCtx]
  split
  · simp only [toSteward_log, toContext_log, record_head]
  · simp only [toContext_log, record_head]

end Sys2Proof.Safety
end

