-- ==== Sys2Proof/Laws/Frames.lean ====
section
/-! SUPPORT. The frames of the dies: which frame a take gives, what a take and a release change. -/

namespace Sys2Proof.Machine

open Sys2Proof.Safety

theorem mem_holdFrame {n x : Nat} : ∀ {l : List Nat}, x ∈ holdFrame n l ↔ x = n ∨ x ∈ l
  | [] => by simp [holdFrame]
  | h :: hs => by
    unfold holdFrame
    split
    · simp
    · split
      · rename_i e; subst e; simp
      · simp only [List.mem_cons, mem_holdFrame (l := hs)]; exact or_left_comm

/-- The list of frames that a die holds stays falling. -/
theorem falling_holdFrame (n : Nat) : ∀ {l : List Nat}, l.Pairwise (· > ·) → (holdFrame n l).Pairwise (· > ·)
  | [], _ => by simp [holdFrame]
  | h :: hs, p => by
    obtain ⟨hh, ht⟩ := List.pairwise_cons.1 p
    unfold holdFrame
    split
    · rename_i lt
      exact List.pairwise_cons.2 ⟨fun y hy => by
        rcases List.mem_cons.1 hy with rfl | hy
        · exact lt
        · exact Nat.lt_trans (hh y hy) lt, p⟩
    · split
      · exact p
      · rename_i h1 h2
        refine List.pairwise_cons.2 ⟨fun y hy => ?_, falling_holdFrame n ht⟩
        rcases mem_holdFrame.1 hy with rfl | hy
        · exact Nat.lt_of_le_of_ne (Nat.le_of_not_lt h1) (Ne.symm h2)
        · exact hh y hy

theorem underSpans_le (spans : List (Nat × Nat)) (n : Nat) : underSpans spans n ≤ n := by
  unfold underSpans
  split
  · rename_i x e
    have := List.find?_some e
    simp only [decide_eq_true_eq] at this
    omega
  · exact Nat.le_refl n

theorem seekFrame_le (spans : List (Nat × Nat)) : ∀ (l : List Nat) (n : Nat), seekFrame spans l n ≤ n
  | [], n => underSpans_le spans n
  | h :: hs, n => by
    have u := underSpans_le spans n
    have a := seekFrame_le spans hs (underSpans spans n)
    have b := seekFrame_le spans hs (underSpans spans n - 1)
    simp only [seekFrame]
    split
    · omega
    · split <;> omega

/-- The frame that a search gives is none that the die holds, or the lowest. -/
theorem seekFrame_free (spans : List (Nat × Nat)) : ∀ {l : List Nat} (n : Nat), l.Pairwise (· > ·) →
    seekFrame spans l n = 0 ∨ seekFrame spans l n ∉ l
  | [], _, _ => .inr (by simp)
  | h :: hs, n, p => by
    obtain ⟨hh, ht⟩ := List.pairwise_cons.1 p
    have a := seekFrame_le spans hs (underSpans spans n)
    have b := seekFrame_le spans hs (underSpans spans n - 1)
    simp only [seekFrame]
    split
    · rename_i lt
      exact (seekFrame_free spans _ ht).imp id fun g m => (List.mem_cons.1 m).elim (fun e => by omega) g
    · split
      · refine (Nat.eq_zero_or_pos (seekFrame spans hs (underSpans spans n - 1))).imp id fun pos m => ?_
        rcases List.mem_cons.1 m with e | m
        · omega
        · exact (seekFrame_free spans _ ht).elim (fun z => by omega) (· m)
      · refine .inr fun m => ?_
        rcases List.mem_cons.1 m with e | m
        · contradiction
        · have := hh _ m; omega

theorem keeps_setFrames (s : State) (d : Nat) (f : Frames) : Keeps [.frames] s (s.setFrames d f) := fun p hp => by
  unfold State.setFrames; split <;> cases p <;> simp_all [Part.Same]

theorem keeps_watchPool (s : State) : Keeps [.frames] s s.watchPool := fun p hp => by
  cases p <;> simp_all [Part.Same, State.watchPool]

theorem keeps_giveReserve (s : State) (a : Nat) : Keeps [.frames] s (s.giveReserve a) := keeps_setFrames _ _ _

theorem keeps_givePool (s : State) (a : Nat) : Keeps [.frames] s (s.givePool a) := Keeps.trans (keeps_setFrames _ _ _) (keeps_watchPool _)

theorem keeps_giveReserves : ∀ (fs : List Nat) (s : State), Keeps [.frames] s (s.giveReserves fs)
  | [], s => Keeps.refl _ s
  | a :: fs, s => Keeps.trans (keeps_giveReserve s a) (keeps_giveReserves fs _)

/-- What a take from the shadow reserve can do: the next frame of a die that has one in reserve is held, and nothing else changes. -/
theorem takeReserve_cases {s t : State} {d a : Nat} (h : s.takeReserve d = some (a, t)) :
    ∃ e, a = frameAddr e (s.nextFrame e) ∧ (s.frames e).reserve ≠ 0 ∧
      t = s.setFrames e { (s.frames e).take (s.nextFrame e) with reserve := (s.frames e).reserve - 1 } := by
  unfold State.takeReserve at h
  dsimp only at h
  by_cases z : (s.frames d).reserve = 0
  · rw [if_pos z] at h
    dsimp only at h
    by_cases z' : (s.frames (1 - d)).reserve = 0
    · rw [if_pos z'] at h; cases h
    · rw [if_neg z'] at h; cases h; exact ⟨_, rfl, z', rfl⟩
  · rw [if_neg z] at h; cases h; exact ⟨_, rfl, z, rfl⟩

/-- What a take from the free parcel pool can do: the next frame of a die that has one in its pool is held, and whether demotion runs follows. -/
theorem takePool_cases {s t : State} {d a : Nat} (h : s.takePool d = some (a, t)) :
    ∃ e, a = frameAddr e (s.nextFrame e) ∧ (s.frames e).pool ≠ 0 ∧
      t = (s.setFrames e { (s.frames e).take (s.nextFrame e) with pool := (s.frames e).pool - 1 }).watchPool := by
  unfold State.takePool at h
  dsimp only at h
  by_cases z : (s.frames d).pool = 0
  · rw [if_pos z] at h
    dsimp only at h
    by_cases z' : (s.frames (1 - d)).pool = 0
    · rw [if_pos z'] at h; cases h
    · rw [if_neg z'] at h; cases h; exact ⟨_, rfl, z', rfl⟩
  · rw [if_neg z] at h; cases h; exact ⟨_, rfl, z, rfl⟩

theorem keeps_takeReserve {s t : State} {d a : Nat} (h : s.takeReserve d = some (a, t)) : Keeps [.frames] s t := by
  obtain ⟨e, -, -, rfl⟩ := takeReserve_cases h; exact keeps_setFrames _ _ _

theorem keeps_takePool {s t : State} {d a : Nat} (h : s.takePool d = some (a, t)) : Keeps [.frames] s t := by
  obtain ⟨e, -, -, rfl⟩ := takePool_cases h; exact Keeps.trans (keeps_setFrames _ _ _) (keeps_watchPool _)

end Sys2Proof.Machine
end

