-- ==== Sys2Proof/Laws/Lanes.lean ====
section
/-! SUPPORT. Vector registers: what a lane reads after a write of lanes, a predicate after a write of a predicate. -/

namespace Sys2Proof.Safety

open Sys2Proof.Machine

theorem fold_shift (n : Nat) (g : Nat → Nat) (xs : List Nat) (i : Nat) (h : i < xs.length) (hg : ∀ x, g x < 2 ^ n) :
    bits (xs.foldr (fun l acc => g l + (acc <<< n)) 0) (n * i) n = g (xs.getD i 0) := by
  induction xs generalizing i with
  | nil => simp at h
  | cons x xs ih =>
    simp only [List.foldr_cons]
    generalize xs.foldr (fun l acc => g l + (acc <<< n)) 0 = acc at *
    have hx := hg x
    cases i with
    | zero =>
      simp only [bits, Nat.shiftLeft_eq, Nat.mul_zero, Nat.shiftRight_zero, List.getD_cons_zero, Nat.add_mul_mod_self_right]
      exact Nat.mod_eq_of_lt hx
    | succ i =>
      have := ih i (by simpa using h)
      simp only [bits, List.getD_cons_succ] at this ⊢
      rw [← this, Nat.mul_succ, Nat.add_comm (n * i) n, Nat.shiftRight_add]
      congr 2
      rw [Nat.shiftLeft_eq, Nat.shiftRight_eq_div_pow, Nat.add_mul_div_right _ _ (Nat.two_pow_pos n), Nat.div_eq_of_lt hx, Nat.zero_add]

/-- Lane l of a register put together from lanes. -/
theorem bits_joinLanes (f : Nat → Nat) (l : Nat) (h : l < 512) : bits (joinLanes f) (32 * l) 32 = f l % 2 ^ 32 := by
  have hl : (List.range 512).getD l 0 = l := by
    rw [List.getD_eq_getElem?_getD, List.getElem?_range h]; rfl
  have := fold_shift 32 (fun l => f l % 2 ^ 32) (List.range 512) l (by rw [List.length_range]; exact h) fun _ => Nat.mod_lt _ (Nat.two_pow_pos 32)
  rw [hl] at this
  exact this

theorem vreg_setV (u : Vu) (r q x : Nat) : (u.setV r x).vreg q = if r = q then x else u.vreg q := by
  simp only [Vu.setV, Vu.vreg]
  split
  · rw [alook_adel]; split <;> simp_all
  · rw [alook_aset]; split <;> rfl

/-- A write of lanes (R94). -/
theorem lane_write (u : Vu) (i : VI) (f : Nat → Nat) (r l : Nat) (h : l < 512) :
    (u.write i f).lane r l = if i.vd = r then (if u.active i l then f l else u.lane i.vd l) % 2 ^ 32 else u.lane r l := by
  simp only [Vu.write, Vu.lane, vreg_setV]
  split
  · exact bits_joinLanes _ l h
  · rfl

theorem lane_lt (u : Vu) (r l : Nat) : u.lane r l < 2 ^ 32 := Nat.mod_lt _ (by decide)

theorem setKiln_setKiln (s : State) (k : Nat) (x y : Kiln) : (s.setKiln k x).setKiln k y = s.setKiln k y := by
  simp [State.setKiln, aset_aset]

/-- A vector instruction on registers only (R94): what its function makes of the vector unit, the next instruction, one more counted. -/
theorem vinstr_plain {k opc : Nat} {w : Word} {s : State} {body : Nat → VI → State → VResult} {f : Vu → Option Vu} {u' : Vu}
    (he : Executes k opc w s) (hb : body k (viOf w) s = plain k s f) (hf : f (vuOf s k) = some u') :
    s.vinstr k opc w body = s.setKiln k { s.kiln k with vu := { u'.advance with count := u'.advance.count + 1 } } := by
  obtain ⟨a, b, c⟩ := he
  simp only [State.vinstr, c, hb, plain, onVu, vuOf] at *
  rw [if_neg (by simp [b]; omega), hf]
  simp [State.modKiln, setKiln_setKiln]

theorem keeps_setKiln (s : State) (k : Nat) (x : Kiln) : Keeps [.kilns] s (s.setKiln k x) := by
  intro p hp; cases p <;> simp_all [Part.Same]

theorem onlyKiln_setKiln (s : State) (k : Nat) (x : Kiln) : OnlyKiln k s (s.setKiln k x) := by
  intro j hj; simp [kiln_setKiln_ne (Ne.symm hj)]

end Sys2Proof.Safety
end

