-- ==== Sys2Proof/Laws/Memory.lean ====
section
/-! SUPPORT. Memory: every operation keeps the canonical form; a read after a write gives the bytes written there and the old ones
elsewhere. -/

namespace Sys2Proof.Machine

/-- The canonical form, said of all entries at once. -/
theorem wf_iff (m : List Host.Cell) : Memory.wf m = true ↔ (∀ x ∈ m, x.2 ≠ 0) ∧ m.Pairwise (fun x y => x.1 < y.1) := by
  induction m with
  | nil => simp [Memory.wf]
  | cons x rest ih =>
    obtain ⟨a, b⟩ := x
    cases rest with
    | nil => simp [Memory.wf]
    | cons y rest =>
      obtain ⟨a', b'⟩ := y
      simp only [Memory.wf, Bool.and_eq_true, decide_eq_true_eq, ih]
      constructor
      · rintro ⟨⟨hb, hlt⟩, hz, hp⟩
        refine ⟨fun z hz' => ?_, List.pairwise_cons.2 ⟨fun z hz' => ?_, hp⟩⟩
        · rcases List.mem_cons.1 hz' with rfl | h
          · exact hb
          · exact hz z h
        · rcases List.mem_cons.1 hz' with rfl | h
          · exact hlt
          · exact Nat.lt_trans hlt ((List.pairwise_cons.1 hp).1 z h)
      · rintro ⟨hz, hp⟩
        exact ⟨⟨hz (a, b) (by simp), (List.pairwise_cons.1 hp).1 (a', b') (by simp)⟩, fun z h => hz z (List.mem_cons_of_mem _ h),
          (List.pairwise_cons.1 hp).2⟩

theorem mem_adel {β : Type} {k : Nat} {x : Nat × β} : ∀ {l : List (Nat × β)}, x ∈ adel k l → x ∈ l ∧ x.1 ≠ k
  | [], h => by simp [adel] at h
  | (k', v) :: rest, h => by
    unfold adel at h
    split at h
    · exact ⟨List.mem_cons_of_mem _ (mem_adel h).1, (mem_adel h).2⟩
    · rename_i hk
      rcases List.mem_cons.1 h with rfl | h
      · exact ⟨List.mem_cons_self, hk⟩
      · exact ⟨List.mem_cons_of_mem _ (mem_adel h).1, (mem_adel h).2⟩

theorem mem_aset {β : Type} {k : Nat} {v : β} {x : Nat × β} : ∀ {l : List (Nat × β)}, x ∈ aset k v l → x = (k, v) ∨ x ∈ l
  | [], h => by simpa [aset] using h
  | (k', v') :: rest, h => by
    unfold aset at h
    split at h
    · rcases List.mem_cons.1 h with h | h
      · exact .inl h
      · exact .inr h
    · split at h
      · rcases List.mem_cons.1 h with h | h
        · exact .inl h
        · exact .inr (List.mem_cons_of_mem _ h)
      · rcases List.mem_cons.1 h with h | h
        · exact .inr (h ▸ List.mem_cons_self)
        · exact (mem_aset h).imp id (List.mem_cons_of_mem _)

theorem pairwise_adel {β : Type} (k : Nat) : ∀ {l : List (Nat × β)}, l.Pairwise (fun x y => x.1 < y.1) →
    (adel k l).Pairwise (fun x y => x.1 < y.1)
  | [], _ => by simp [adel]
  | (k', v) :: rest, h => by
    obtain ⟨h1, h2⟩ := List.pairwise_cons.1 h
    unfold adel
    split
    · exact pairwise_adel k h2
    · exact List.pairwise_cons.2 ⟨fun y hy => h1 y (mem_adel hy).1, pairwise_adel k h2⟩

theorem pairwise_aset {β : Type} (k : Nat) (v : β) : ∀ {l : List (Nat × β)}, l.Pairwise (fun x y => x.1 < y.1) →
    (aset k v l).Pairwise (fun x y => x.1 < y.1)
  | [], _ => by simp [aset]
  | (k', v') :: rest, h => by
    obtain ⟨h1, h2⟩ := List.pairwise_cons.1 h
    unfold aset
    split
    · rename_i hk
      refine List.pairwise_cons.2 ⟨fun y hy => ?_, h⟩
      rcases List.mem_cons.1 hy with rfl | hy
      · exact hk
      · exact Nat.lt_trans hk (h1 y hy)
    · split
      · rename_i hk
        exact List.pairwise_cons.2 ⟨fun y hy => hk ▸ h1 y hy, h2⟩
      · refine List.pairwise_cons.2 ⟨fun y hy => ?_, pairwise_aset k v h2⟩
        rcases mem_aset hy with rfl | hy
        · show k' < k
          omega
        · exact h1 y hy

/-- Writing a byte keeps the canonical form. -/
theorem wf_put {m : List Host.Cell} (h : Memory.wf m = true) (a : Nat) (b : Byte) : Memory.wf (Memory.put m a b) = true := by
  rw [wf_iff] at h ⊢
  unfold Memory.put
  split
  · exact ⟨fun x hx => h.1 x (mem_adel hx).1, pairwise_adel a h.2⟩
  · rename_i hb
    refine ⟨fun x hx => ?_, pairwise_aset a b h.2⟩
    rcases mem_aset hx with rfl | hx
    · exact hb
    · exact h.1 x hx

/-- Writing bytes keeps the canonical form. -/
theorem wf_putBytes (bs : List Byte) : ∀ {m : List Host.Cell}, Memory.wf m = true → ∀ a, Memory.wf (Memory.putBytes m a bs) = true := by
  induction bs with
  | nil => exact fun h _ => h
  | cons b bs ih => exact fun h a => ih (wf_put h a b) (a + 1)

/-- Taking entries out keeps the canonical form. -/
theorem wf_filter {m : List Host.Cell} (h : Memory.wf m = true) (p : Host.Cell → Bool) : Memory.wf (m.filter p) = true := by
  rw [wf_iff] at h ⊢
  exact ⟨fun x hx => h.1 x ((List.mem_filter.1 hx).1), h.2.filter p⟩

theorem wf_poke {s : State} (h : Memory.wf s.mem = true) (a : Nat) (bs : List Byte) : Memory.wf (s.poke a bs).mem = true := wf_putBytes bs h a

/-- A read after a write of one byte. -/
theorem get_put (m : List Host.Cell) (a c : Nat) (b : Byte) : Memory.get (Memory.put m a b) c = if a = c then b else Memory.get m c := by
  unfold Memory.get Memory.put
  split
  · rename_i hb
    rw [alook_adel]
    split
    · exact hb.symm
    · rfl
  · rw [alook_aset]
    split <;> rfl

/-- A read after a write of bytes. -/
theorem get_putBytes (bs : List Byte) : ∀ (m : List Host.Cell) (a c : Nat),
    Memory.get (Memory.putBytes m a bs) c = if a ≤ c ∧ c < a + bs.length then bs.getD (c - a) 0 else Memory.get m c := by
  induction bs with
  | nil => intro m a c; simp only [Memory.putBytes, List.length_nil]; rw [if_neg (by omega)]
  | cons b bs ih =>
    intro m a c
    simp only [Memory.putBytes, ih, get_put, List.length_cons]
    by_cases hc : a = c
    · subst hc
      rw [if_neg (by omega), if_pos rfl, if_pos (by omega)]
      simp
    · by_cases hr : a + 1 ≤ c ∧ c < a + 1 + bs.length
      · rw [if_pos hr, if_pos (by omega)]
        obtain ⟨n, hn⟩ : ∃ n, c - a = n + 1 := ⟨c - a - 1, by omega⟩
        rw [hn, List.getD_cons_succ]
        congr 1
        omega
      · rw [if_neg hr, if_neg hc, if_neg (by omega)]

theorem get_putBytes_outside (m : List Host.Cell) (a c : Nat) (bs : List Byte) (h : c < a ∨ a + bs.length ≤ c) :
    Memory.get (Memory.putBytes m a bs) c = Memory.get m c := by
  rw [get_putBytes, if_neg (by omega)]

/-- The bytes written are the bytes read. -/
theorem getBytes_putBytes (m : List Host.Cell) (a : Nat) (bs : List Byte) : Memory.getBytes (Memory.putBytes m a bs) a bs.length = bs := by
  apply List.ext_getElem
  · simp [Memory.getBytes]
  · intro i h1 h2
    simp only [Memory.getBytes, List.getElem_map, List.getElem_range, get_putBytes]
    rw [if_pos (by omega)]
    simp [List.getD_eq_getElem?_getD, h2]

@[simp] theorem length_getBytes (m : List Host.Cell) (a n : Nat) : (Memory.getBytes m a n).length = n := by simp [Memory.getBytes]

/-- Bytes away from those written are as they were. -/
theorem getBytes_putBytes_outside (m : List Host.Cell) (a c n : Nat) (bs : List Byte) (h : c + n ≤ a ∨ a + bs.length ≤ c) :
    Memory.getBytes (Memory.putBytes m a bs) c n = Memory.getBytes m c n := by
  simp only [Memory.getBytes]
  apply List.map_congr_left
  intro i hi
  have := List.mem_range.1 hi
  exact get_putBytes_outside _ _ _ _ (by omega)

/-- In canonical form, equal bytes everywhere are equal memories. -/
theorem mem_ext {m n : List Host.Cell} (hm : Memory.wf m = true) (hn : Memory.wf n = true) (h : ∀ a, Memory.get m a = Memory.get n a) : m = n := by
  rw [wf_iff] at hm hn
  have key : ∀ {l : List Host.Cell}, (∀ x ∈ l, x.2 ≠ 0) → l.Pairwise (fun x y => x.1 < y.1) → ∀ x : Host.Cell, x ∈ l ↔ (x.2 ≠ 0 ∧ Memory.get l x.1 = x.2) := by
    intro l
    induction l with
    | nil => intro _ _ x; simp [Memory.get, alook]; exact fun h k => h k.symm
    | cons y rest ih =>
      intro hz hp x
      obtain ⟨h1, h2⟩ := List.pairwise_cons.1 hp
      have ih := ih (fun z hz' => hz z (List.mem_cons_of_mem _ hz')) h2 x
      unfold Memory.get alook
      split
      · rename_i he
        simp only [Option.getD_some, List.mem_cons]
        constructor
        · rintro (rfl | hx)
          · exact ⟨hz _ List.mem_cons_self, rfl⟩
          · exact absurd he (Nat.ne_of_lt (h1 x hx))
        · rintro ⟨_, h4⟩
          exact .inl (Prod.ext he.symm h4.symm)
      · rename_i he
        rw [show ((alook x.1 rest).getD 0 = x.2) ↔ (Memory.get rest x.1 = x.2) from Iff.rfl, ← ih, List.mem_cons]
        exact ⟨fun h => h.resolve_left fun k => he (k ▸ rfl), .inr⟩
  have : ∀ x, x ∈ m ↔ x ∈ n := fun x => by rw [key hm.1 hm.2, key hn.1 hn.2, h]
  exact List.Perm.eq_of_pairwise (le := fun x y : Host.Cell => x.1 < y.1) (fun a b _ _ h1 h2 => by omega) hm.2 hn.2
    ((List.perm_ext_iff_of_nodup (hm.2.imp fun h => by rintro rfl; omega) (hn.2.imp fun h => by rintro rfl; omega)).2 this)

/-- The memory of the state after reset has the canonical form. -/
theorem wf_reset : Memory.wf State.reset.mem = true := rfl

end Sys2Proof.Machine
end

