-- ==== Sys2Proof/Laws/Runs.lean ====
section
/-! SUPPORT. Bodies of operations: what holds of the state through every step of a body holds at its end, however it ends. -/

namespace Sys2Proof.Machine

open Sys2Proof.Safety

/-- A body keeps a property of the run, whether it ends or stops. -/
def Stays {α : Type} (P : Run → Prop) (m : Op α) : Prop := ∀ r, P r → P (m.run r).2

section
variable {α β : Type} {P : Run → Prop}

theorem stays_pure (x : α) : Stays P (pure x : Op α) := fun _ h => h

theorem stays_throw (e : Stop) : Stays P (throw e : Op α) := fun _ h => h

theorem stays_bind {m : Op α} {f : α → Op β} (hm : Stays P m) (hf : ∀ x, Stays P (f x)) : Stays P (m >>= f) := by
  intro r h
  have h1 := hm r h
  show P ((ExceptT.run m >>= ExceptT.bindCont f) r).2
  show P (ExceptT.bindCont f (ExceptT.run m r).1 (ExceptT.run m r).2).2
  rcases e : (ExceptT.run m r) with ⟨v, r'⟩
  rw [e] at h1
  cases v with
  | ok x => exact hf x r' h1
  | error _ => exact h1

theorem stays_map {m : Op α} (f : α → β) (hm : Stays P m) : Stays P (f <$> m) := by
  intro r h
  have h1 := hm r h
  show P ((ExceptT.run (f <$> m)) r).2
  rw [ExceptT.run_map]
  exact h1

theorem stays_get : Stays P (get : Op Run) := fun _ h => h

theorem stays_modify {f : Run → Run} (hf : ∀ r, P r → P (f r)) : Stays P (modify f : Op Unit) := fun r h => hf r h

theorem stays_ite {c : Prop} [Decidable c] {a b : Op α} (ha : Stays P a) (hb : Stays P b) : Stays P (if c then a else b) := by
  split <;> assumption

theorem stays_forM {f : α → Op PUnit} (hf : ∀ x, Stays P (f x)) : ∀ l : List α, Stays P (l.forM f)
  | [] => stays_pure _
  | x :: l => by
    rw [List.forM_eq_forM, List.forM_cons]
    exact stays_bind (hf x) fun _ => by rw [← List.forM_eq_forM]; exact stays_forM hf l

theorem stays_mapM {f : α → Op β} (hf : ∀ x, Stays P (f x)) : ∀ l : List α, Stays P (l.mapM f)
  | [] => by rw [List.mapM_nil]; exact stays_pure _
  | x :: l => by
    rw [List.mapM_cons]
    exact stays_bind (hf x) fun _ => stays_bind (stays_mapM hf l) fun _ => stays_pure _

theorem stays_foldlM {f : β → α → Op β} (hf : ∀ b x, Stays P (f b x)) : ∀ (l : List α) (b : β), Stays P (l.foldlM f b)
  | [], _ => by rw [List.foldlM_nil]; exact stays_pure _
  | x :: l, b => by
    rw [List.foldlM_cons]
    exact stays_bind (hf b x) fun b' => stays_foldlM hf l b'
end

/-- A property of the state, of runs. -/
def ofState (Q : State → Prop) (r : Run) : Prop := Q r.s

theorem stays_getS {Q : State → Prop} : Stays (ofState Q) getS := fun _ h => h
theorem stays_fld {Q : State → Prop} (o n : Nat) : Stays (ofState Q) (fld o n) := fun _ h => h
theorem stays_opPos {Q : State → Prop} : Stays (ofState Q) opPos := fun _ h => h

theorem stays_onS {Q : State → Prop} {f : State → State} (hf : ∀ s, Q s → Q (f s)) : Stays (ofState Q) (onS f) := fun r h => hf r.s h

theorem stays_report {Q : State → Prop} (code payload : Nat) : Stays (ofState Q) (report code payload) := fun _ h => h

/-- Of a body that starts in a state with Q, the state it ends or stops in has Q. -/
theorem Stays.start {α : Type} {Q : State → Prop} {m : Op α} (hm : Stays (ofState Q) m) {s : State} {a : OpArg} {w : WinOp}
    (h : Q (startRun s a w).s) : Q (m.run (startRun s a w)).2.s := hm (startRun s a w) h

end Sys2Proof.Machine
end

