-- ==== Sys2Proof/Tests/States.lean ====
section
/-! SUPPORT. States, operands and packets the tests are built from. -/

set_option Elab.async false

namespace Sys2Proof.Tests
open Sys2Proof Sys2Proof.Machine Sys2Proof.Safety

/-- Two ends of a run are the same. -/
def sameEnd {α : Type} [DecidableEq α] : Except Stop α → Except Stop α → Bool
  | .ok a, .ok b => decide (a = b)
  | .error a, .error b => decide (a = b)
  | _, _ => false
theorem ends_eq {α : Type} [DecidableEq α] {x : Except Stop α × Run} {e : Except Stop α} {r : Run}
    (h : (sameEnd x.1 e && decide (x.2 = r)) = true) : x = (e, r) := by
  obtain ⟨a, b⟩ := x
  cases a <;> cases e <;> simp_all [sameEnd]
theorem ends_of {α : Type} [DecidableEq α] {x : Except Stop α × Run} {e : Except Stop α} (h : sameEnd x.1 e = true) : x = (e, x.2) := by
  obtain ⟨a, b⟩ := x
  cases a <;> cases e <;> simp_all [sameEnd]
/-- What an answer holds. -/
def okOr {ε α : Type} (x : Except ε α) (a : α) : α :=
  match x with
  | .ok b => b
  | .error _ => a
def isOk {ε α : Type} (x : Except ε α) : Bool :=
  match x with
  | .ok _ => true
  | .error _ => false
theorem okOr_eq {ε α : Type} {x : Except ε α} {a : α} (h : isOk x = true) : x = .ok (okOr x a) := by
  cases x <;> simp_all [isOk, okOr]
/-- An address that is no doorbell's. -/
theorem not_doorbell {a : Nat} (h : (match place a with | .doorbell _ _ => true | _ => false) = false) : ∀ c off : Nat, place a ≠ .doorbell c off := by
  intro c off k
  rw [k] at h
  exact Bool.noConfusion h
/-- The same number, for the kernel to evaluate first. -/
def forced {α : Type} (n : Nat) (f : Nat → α) : α :=
  match n with
  | 0 => f 0
  | k + 1 => f (k + 1)
theorem forced_eq {α : Type} (n : Nat) (f : Nat → α) : forced n f = f n := by cases n <;> rfl
def crc16BitsForced : Nat → Nat → Nat
  | 0, c => c
  | n + 1, c => forced (if c.testBit 15 then ((c <<< 1) ^^^ 0x1021) % 65536 else (c <<< 1) % 65536) (crc16BitsForced n)
theorem crc16BitsForced_eq : ∀ n c, crc16BitsForced n c = crc16Bits n c
  | 0, _ => rfl
  | n + 1, c => by simp only [crc16BitsForced, crc16Bits, forced_eq]; exact crc16BitsForced_eq n _
def crc16Forced : List Byte → Nat → Nat
  | [], c => c
  | b :: bs, c => forced (crc16BitsForced 8 (c ^^^ (b.toNat <<< 8))) (crc16Forced bs)
theorem crc16Forced_eq (bs : List Byte) : ∀ c, crc16Forced bs c = bs.foldl (fun c b => crc16Bits 8 (c ^^^ (b.toNat <<< 8))) c := by
  induction bs with
  | nil => intro c; rfl
  | cons b bs ih => intro c; simp only [crc16Forced, forced_eq, crc16BitsForced_eq, ih, List.foldl_cons]
theorem descValid_forced (d : Desc) (p : Nat) : descValid d p = (d.field 0 2 == p % 65536 &&
    d.field 14 2 == crc16Forced ((descBytes d).take 14 ++ [0, 0] ++ (descBytes d).drop 16) 0xFFFF) := by
  rw [crc16Forced_eq]; rfl
theorem alook_mem {β : Type} {k : Nat} {v : β} : ∀ {l : List (Nat × β)}, alook k l = some v → (k, v) ∈ l
  | [], h => by cases h
  | (k', v') :: l, h => by
    unfold alook at h
    split at h
    · rename_i e; cases h; subst e; exact List.mem_cons_self
    · exact List.mem_cons_of_mem _ (alook_mem h)
/-- What holds of every window of the contexts listed holds of every context's window. -/
theorem windows_of {s : State} {p : WinOp → Prop} (h : ∀ x ∈ s.ctxs, ∀ w ∈ x.2.window, p w) : ∀ d w, w ∈ (s.ctx d).window → p w := by
  intro d w hw
  unfold State.ctx at hw
  cases e : alook d s.ctxs with
  | none => rw [e] at hw; cases hw
  | some x => rw [e] at hw; exact h (d, x) (alook_mem e) w hw
/-- A command answers this next state. -/
def nextIs (x : Host.Outcome State Fault Refusal) (t : State) : Bool :=
  match x with
  | .next u => decide (u = t)
  | _ => false
theorem next_eq {x : Host.Outcome State Fault Refusal} {t : State} (h : nextIs x t = true) : x = .next t := by
  cases x <;> simp_all [nextIs]


/-- A descriptor from its fields: byte offset and value. -/
def mkDesc (fs : List (Nat × Nat)) : Desc := BitVec.ofNat 1024 ((fs.map fun f => f.2 <<< (8 * f.1)).sum)
/-- A running module with one context. -/
def up (x : Ctx) : State := { pwr := { life := .ready }, ctxs := [(0, x)] }
/-- Registers of the page of context 0 in force. -/
def page (s : State) (rs : List (Nat × Nat)) : State := rs.foldl (fun s r => s.setReg (pageAddr 0 r.1) r.2) s
/-- Registers of a block in force. -/
def blocks (s : State) (rs : List (Nat × Nat × Nat)) : State := rs.foldl (fun s r => s.setReg (blockAddr r.1 r.2.1) r.2.2) s
/-- Context 0's queue pair on host port 0, and window 1, 2^30 bytes, readable and writable. -/
def hosted (s : State) : State :=
  page { s with host := { s.host with up0 := true, qps := [{ conn := ⟨2, 0, 0, 1, 1⟩, est := true }] } }
    [(0x128, 2 ^ 30), (0x130, 2 ^ 32 + 2 ^ 33 + 2 ^ 34 + 2 ^ 36),
     (0x080, 2 ^ 48), (0x090, 2 ^ 48 + 0x100000), (0x0A0, 2 ^ 48 + 0x10000000), (0x0B0, 2 ^ 48 + 0x200000)]
def live : Ctx := { enabled := true }
def crcDesc (fs : List (Nat × Nat)) : Desc :=
  let d := mkDesc fs
  d ||| BitVec.ofNat 1024 (crc16 (descBytes d) <<< 112)
/-- Memory from pieces. -/
def withMem (s : State) (xs : List (Nat × Nat × Nat)) : State := xs.foldl (fun s x => s.poke x.1 (leBytes x.2.1 x.2.2)) s
/-- A scratch address of descriptor form. -/
def scr (a : Nat) : Nat := 2 ^ 48 + a
/-- The working module: context 0 on kilns 0 and 1, scratch at 0x100000 to 0x200000, one lot, parcel 0 fired in frame 0x300000, a window of
the operation `d` at position 5. -/
def work (x : Ctx) (d : Desc) (st : OpState := .running) : State :=
  let s := page (up { x with enabled := true, step := .running, window := x.window ++ [{ pos := 5, desc := d, st := st, step := x.fired + 1 }], cmdProducer := 9, fetchPos := 8 })
    [(0x048, 3), (0x050, 1), (0x028, 0x100000), (0x030, 0x100000), (0x018, 0x200000), (0x020, 1)]
  withMem { s with kilns := [(0, { st := .running, ctx := some 0 }), (1, { st := .running, ctx := some 0 })] }
    [(0x200000, 8, 0x201001), (0x201000, 8, (PEntry.mk 1 false false 0x300000 0).toNat)]
def arg : OpArg := { ctx := 0, pos := 5 }
def op (fs : List (Nat × Nat)) : Desc := mkDesc ([(3,1),(4,77)] ++ fs)
def K2 : Nat := 1 <<< 22
def ops : List (Nat × Desc) := [
 (0, op [(2,1)]),
 (1, op [(2,2),(24,4),(32,scr 0x100000),(40,scr 0x100100)]),
 (2, op [(2,3),(24,4),(32,0x1234),(40,scr 0x100100)]),
 (3, op [(2,4),(24,4),(32,scr 0x100000),(40,0xFFFE000000000010)]),
 (4, op [(2,5),(24,4),(40,scr 0x100000),(32,0xFFFE000000000010)]),
 (5, op [(2,0x10),(24,1),(28,1),(32,1),(40,0x11),(48,scr 0x100000),(64,scr 0x100010),(88,scr 0x100020)]),
 (6, op [(2,0x11),(24,2),(32,1),(36,1),(40,scr 0x100000),(48,4),(56,scr 0x100020)]),
 (7, op [(2,0x18),(24,1),(27,1),(32,scr 0x100000),(40,scr 0x100100),(48,scr 0x100200),(56,scr 0x100300),(64,scr 0x100400)]),
 (8, op [(2,0x19),(16,0x100),(24,1),(27,1),(32,scr 0x100000),(40,scr 0x100100),(48,scr 0x100200),(56,scr 0x100300),(64,scr 0x100400),(72,scr 0x100500),(80,scr 0x100600),(88,scr 0x100700),(96,scr 0x100800)]),
 (9, op [(2,0x1A),(26,1),(24,1)]),
 (10, op [(2,0x1A),(26,2),(24,0),(28,1),(40,scr 0x110000),(48,scr 0x120000)]),
 (11, op [(2,0x1A),(26,3),(24,1),(32,0)]),
 (12, op [(2,0x1A),(26,4),(24,0)]),
 (13, op [(2,0x1A),(26,5),(24,2)]),
 (14, op [(2,0x1A),(26,6),(24,0)]),
 (15, op [(2,0x1A),(26,7),(24,3),(40,scr 0x110000),(48,scr 0x120000)]),
 (16, op [(2,0x20),(24,1),(28,1),(32,0x10),(40,scr 0x100000),(56,scr 0x100020)]),
 (17, op [(2,0x21),(24,1),(28,1),(40,scr 0x100000),(64,scr 0x100020)]),
 (18, op [(2,0x28),(24,scr 0x100000),(32,1),(36,1),(120,scr 0x100100)]),
 (19, op [(2,0x30),(24,1),(28,1),(32,0x10),(36,1),(40,0),(48,1),(56,scr 0x100000),(80,scr 0x100200),(96,scr 0x101000),(104,scr 0x102000),(112,1)]),
 (20, op [(2,0x31),(24,1),(32,scr 0x100200)]),
 (21, op [(2,0x32),(24,1),(32,scr 0x100000)]),
 (22, op [(2,0x48),(24,0),(32,scr 0x100000),(40,4)]),
 (23, op [(2,0x49),(24,1)]),
 (24, op [(2,0x4A),(24,1)]),
 (25, op [(2,0x50),(24,1),(32,0),(40,scr 0x100000)]),
 (26, op [(2,0x51),(24,1),(56,0x3F800000),(32,scr 0x101000)]),
 (27, op [(2,0x52),(24,1),(104,0x3F800000),(32,0),(40,scr 0x100000)]),
 (28, op [(2,0x60),(24,1),(28,0x21),(48,scr 0x100000)]),
 (29, op [(2,0x61),(24,1),(32,scr 0x100000),(40,scr 0x100100)])]
def rich : State := 
 let s := work {} (op [])
 let s := blocks s [(1,0,0x10000000),(1,0x100,0x20000000),(1,0x108,2 + (8<<<21) + (1<<<40)), (11,0,4),(11,8,100)]
 let s := page s [(0x078, 0x400000), (0x038, 0x500000)]
 let r0 := 0x10000000
 withMem s [(r0,16,1), (r0+256,16,0x101), (r0+3*128,16,1), (r0+3*128+16,4,64), (r0+0xC0000+3*4096,8,2^20), (0x400003,1,1),(0x400004,4,64),(0x400008,8,0x600000),
   (0x400022,1,1),(0x400023,1,1),(0x400024,4,64),(0x400028,8,0x600000), (0x100104,4,1),(0x101000,8,0x100000001), (0x101008,8,scr 0x102000), (0x101040, 16, scr 0x103000)]
def richFor (i : Nat) (d : Desc) : State :=
  let s := { rich with ctxs := [(0, { rich.ctx 0 with window := [{ pos := 5, desc := d, st := .running, step := 1}] })], pframes := [(frameKey 0 0, {generation := 1})] }
  let s := if i ∈ [7, 8, 12, 14] then { s with mem := s.mem.filter fun c => decide (0x10000000 ≤ c.1 ∨ c.1 = 0x100104) } else s
  if i = 18 then withMem s [(0x100000, 8, 0x3E)] else
  if i = 20 then { s with ctxs := [(0, { s.ctx 0 with batches := [{ handle := 0, slabAddr := scr 0x101000, bufAddr := scr 0x102000, granules := 1, ords := [{ pos := 1, desc := (ops.getD 19 (0,0)).2, done := true, rows := [some 0], bagLens := [1]}], entries := [{table := 0, row := 0, slices := 1, slab := 0, mult := 1}]}] })] }
  else if i = 21 then withMem s [(0x100000,8,0)]
  else if i = 23 then { s with ctxs := [(0, { s.ctx 0 with queues := [{id := 1, sizes := [(0,4)]}] })] } 
  else if i = 28 ∨ i = 29 then withMem s [(0x100008,1,1)] else if i = 21 then withMem s [] else s
def opW (i : Nat) : WinOp := { pos := 5, desc := (ops.getD i (0,0)).2, st := .running, step := 1 }
def opS (i : Nat) : State := richFor i (ops.getD i (0,0)).2
def opRow (i : Nat) : OpRow := operations.getD i { cmd := .fence, opc := 0, body := pure () }
def opR (i : Nat) : Run := ((opRow i).body.run (startRun (opS i) arg (opW i))).2
def collD (i : Nat) : Desc := [
 op [(2,0x40),(24,1),(48,scr 0x100000),(64,scr 0x100100)],
 op [(2,0x41),(24,1),(48,scr 0x100000),(64,scr 0x100100)],
 op [(2,0x42),(24,1),(48,scr 0x100000),(64,scr 0x100100)],
 op [(2,0x43),(24,1),(48,scr 0x100000),(64,scr 0x100100),(112,4),(116,4),(120,4)],
 op [(2,0x44),(24,2),(104,scr 0x100200)],
 op [(2,0x45),(24,1),(48,scr 0x100000)]].getD i 0
/-- Members: n of them, this one at rank 0. -/
def team (s : State) (n : Nat) : State := withMem (page s [(0x038, 0x500000)]) [(0x500000,2,7),(0x500002,2,n),(0x500040,8,0x0003000200010000)]
def collS (i n : Nat) : State :=
  let s := team (work {} (collD i)) n
  withMem s [(0x100000,8,0x3F8000003F800000),(0x100202,1,0),(0x100208,8,scr 0x100000),(0x100210,8,4),(0x100200+24+2,1,1),(0x100208+24,8,scr 0x100300),(0x100210+24,8,4)]
def collW (i : Nat) : WinOp := { pos := 5, desc := collD i, st := .running, step := 1 }
def collR (i n : Nat) : Run := (collBodyOp.run (startColl (collS i n) arg (collW i))).2
def vi (opc vd va vb vc pg rnd type imm : Nat) : Word := BitVec.ofNat 64 (opc + (vd<<<8) + (va<<<13) + (vb<<<18) + (vc<<<23) + (pg<<<28) + (rnd<<<31) + (type<<<33) + ((imm % 2^29) <<<35))
def reg (seed : Nat) : Nat := joinLanes fun l => (seed * 2654435761 * (l+1) + l*l*40503) % 2^32
def vu0 : Vu := { v := [(1, reg 1), (2, reg 7), (3, reg 9)], p := [(1, 0x5555AAAA0F0F)], s := [(1, 0x100), (2, 3), (6, 5),(7,9)], pc := 4, loops := [(2,4,2)], seed := 77, owner := (0, 5), bufs := [(0x20000, 0x10000)] }
def vs : State := let s := work {} (op [(2,0x28)]); withMem { s with kilns := [(0, { st := .running, ctx := some 0, vu := vu0 }), (1, {st := .running, ctx := some 0})] } [(0x7800000000 + 0x100, 4000, reg 11 * 2^3000 + reg 3)]
def mem_ (s : State) (r n : Nat) : State := blocks (withMem (page s [(0x038, 0x500000)]) [(0x500000,2,7),(0x500002,2,n),(0x500004,2,r),(0x500040,8,0x0003000200010000)]) [(4,0,2^15 + r), (0,0x20,100),(4,0x200,8),(4,0x208,9),(4,0x210,10),(4,0x218,11)]
def prt (s : State) : State := { s with ports := (List.range 4).map fun i => (i, ({ st := .up, lanes := 15 } : Port)) }
def job (x : Ctx) (r n : Nat) : State := prt (mem_ (up { x with enabled := true }) r n)
def ctl (ty r step : Nat) (d orig ev dig cx : Nat) (dest : Nat) : Packet := { dest := dest, src := r, vc := 0, type := ty, slots := 1, hops := 0, job := 7, body := .control step d orig ev r 0 dig cx }
def after (i : Instr) (s : State) : State := match exec i s with | .next t => t | _ => s
def dat (ty : Nat) (b : PBody) (slots : Nat := 1): Packet := { dest := 0, src := 1, vc := 1, type := ty, slots := slots, hops := 0, job := 7, body := b }

end Sys2Proof.Tests
end

