-- ==== Sys2Proof/Tests/Adders.lean ====
section
/-! SUPPORT. Small states and operands that meet the hypotheses of statements of Obligations.lean, one theorem a statement or part of
one, one bracket a state; what an earlier bracket shows of the same terms is not said again. -/

set_option Elab.async false

namespace Sys2Proof.Tests.Adders
open Sys2Proof Sys2Proof.Machine Sys2Proof.Safety Sys2Proof.Tests

def st0 (x : Ctx) : State := withMem (work x (op [])) [(0x1000,8,0x3F8000003F800000)]
def au (fmt key mask : Nat) (ad : List Nat) : AdderUpdate := { ctx := 0, pos := 5, addr := 0x1000, format := fmt, addends := ad, mask := mask, domain := 9, key := key }
def f0_1 : AdderUpdate := (au 0 0 3 [0x40000000,0x3F800001])
def st2 : State := withMem (st0 {}) [(0x1000,4,0x7F7F7F7F)]
def stp : State := { st0 {} with upsets := [(0x1000, Symbols.poison)] }
def fp_1 : AdderUpdate := (au 0 0 3 [0x40000000,0x3F800001])
def sts (d : List Domain) : State := { st0 {strict := true} with setter := { domains := d } }
def s1_1 : AdderUpdate := (au 0 3 3 [0x40000000,0x3F800001])
def s1_2 : State := (sts [{id := 9, closed := 3}])
def s3_1 : AdderUpdate := (au 0 0 3 [0x40000000,0x3F800001])
def s4_1 : AdderUpdate := (au 0 2 3 [0x40000000,0x3F800001])
def v1 := au 0 4 3 [0x40000000,0x3F800001]
def v2 := au 0 3 3 [0x41000000,0x3F800001]
def s5_1 : AdderUpdate := (au 0 4 3 [0x40000000,0x3F800001])
def s5_2 : State := (sts [{id := 9, closed := 2, held := [v1,v2]}])
def sths : State := { st0 {strict := true} with setter := { domains := [{id := 9, closed := 2, held := List.replicate 65536 v1}] } }
def s8_1 : AdderUpdate := (au 0 7 3 [0x40000000,0x3F800001])
def far (u : AdderUpdate) : AdderUpdate := { u with pos := 99 }
def x1_1 : AdderUpdate := (far (au 2 0 3 [0x7F7F, 0x7F7F]))
def stx (d : List Domain) : State := withMem (sts d) [(0x1000,4,0x7F7F7F7F)]
def x2_1 : AdderUpdate := (far (au 2 3 3 [0x7F7F, 0x7F7F]))
def x2_2 : State := (stx [{id := 9, closed := 3}])
def x3_1 : AdderUpdate := (far (au 2 0 3 [0x7F7F, 0x7F7F]))
def allOpen : State := sts ((List.range 4096).map fun i => { id := i + 10 })
def x4_1 : AdderUpdate := (au 0 2 3 [0x40000000,0x3F800001])
theorem held_full : 65536 ≤ sths.heldOn (bits s8_1.addr 39 1) := by
  have h : ∀ n, (List.replicate n v1).filter (fun u => bits u.addr 39 1 == bits s8_1.addr 39 1) = List.replicate n v1 := fun n => by
    rw [List.filter_replicate]; rfl
  show 65536 ≤ ([((List.replicate 65536 v1).filter fun u => bits u.addr 39 1 == bits s8_1.addr 39 1).length]).sum
  rw [h, List.length_replicate]; decide

/-- Obligations.SetterAddersAdd. -/
theorem witness_SetterAddersAdd :
    (((st0 { }).pwr.life = Life.ready ∧ f0_1.addr % 64 = 0 ∧ isDie f0_1.addr = true ∧ (st0 { }).serving f0_1.addr = true ∧
      ((st0 { }).ctx f0_1.ctx).strict = false ∧ (st0 { }).upset f0_1.addr = [] ∧
      ((List.filter (fun j => f0_1.mask.testBit j && (laneSum f0_1.format (ofLeBytes (Memory.getBytes (st0 { }).mem (f0_1.addr + laneBytes f0_1.format * j) (laneBytes f0_1.format))) (f0_1.addends.getD j 0 % 2 ^ (8 * laneBytes f0_1.format))).snd.snd) (List.range (64 / laneBytes f0_1.format))).length = 0 ∨ ((st0 { }).winOp f0_1.ctx f0_1.pos).isSome = true) ∧
      (((st0 { }).setter.domains.any fun d => d.id == f0_1.domain) = false) ∧ (st0 { }).setter.domains.length < 4096 ∧ 4 + 1 < 2 ^ 32) ∧
     (s1_2.pwr.life = Life.ready ∧ s1_1.addr % 64 = 0 ∧ isDie s1_1.addr = true ∧ s1_2.serving s1_1.addr = true ∧
      (s1_2.ctx s1_1.ctx).strict = true ∧ ((s1_2.setter.domains.any fun d => d.id == s1_1.domain) = true) ∧
      s1_1.key ≤ (s1_2.domain s1_1.domain).closed ∧ s1_2.upset s1_1.addr = [] ∧
      ((List.filter (fun j => s1_1.mask.testBit j && (laneSum s1_1.format (ofLeBytes (Memory.getBytes s1_2.mem (s1_1.addr + laneBytes s1_1.format * j) (laneBytes s1_1.format))) (s1_1.addends.getD j 0 % 2 ^ (8 * laneBytes s1_1.format))).snd.snd) (List.range (64 / laneBytes s1_1.format))).length = 0 ∨ (s1_2.winOp s1_1.ctx s1_1.pos).isSome = true) ∧
      max (s1_2.domain s1_1.domain).closed (4 + 1) < 2 ^ 32 ∧
      (∀ (v : AdderUpdate), v ∈ (s1_2.domain s1_1.domain).held → max (s1_2.domain s1_1.domain).closed (4 + 1) < v.key)) ∧
     ((s5_2.pwr.life = Life.ready ∧ s5_1.addr % 64 = 0 ∧ isDie s5_1.addr = true ∧ s5_2.serving s5_1.addr = true ∧
      (s5_2.ctx s5_1.ctx).strict = true ∧ ((s5_2.setter.domains.any fun d => d.id == s5_1.domain) = true) ∧
      (s5_2.domain s5_1.domain).closed < s5_1.key ∧ s5_2.heldOn (bits s5_1.addr 39 1) < 65536 ∧
      max (s5_2.domain s5_1.domain).closed (4 + 1) < 2 ^ 32 ∧ (s5_2.domain s5_1.domain).held = [v1, v2] ∧
      v1.key ≤ max (s5_2.domain s5_1.domain).closed (4 + 1) ∧ v2.key ≤ max (s5_2.domain s5_1.domain).closed (4 + 1) ∧ v2.key < v1.key) ∧
      (∀ (c : Nat) (o : WinOp), o ∈ (s5_2.ctx c).window → o.st ≠ OpState.finished)) ∧
     (x2_2.pwr.life = Life.ready ∧ x2_1.addr % 64 = 0 ∧ isDie x2_1.addr = true ∧ x2_2.serving x2_1.addr = true ∧
      (x2_2.ctx x2_1.ctx).strict = true ∧ ((x2_2.setter.domains.any fun d => d.id == x2_1.domain) = true) ∧
      x2_1.key ≤ (x2_2.domain x2_1.domain).closed ∧ x2_2.upset x2_1.addr = [] ∧
      ((List.filter (fun j => x2_1.mask.testBit j && (laneSum x2_1.format (ofLeBytes (Memory.getBytes x2_2.mem (x2_1.addr + laneBytes x2_1.format * j) (laneBytes x2_1.format))) (x2_1.addends.getD j 0 % 2 ^ (8 * laneBytes x2_1.format))).snd.snd) (List.range (64 / laneBytes x2_1.format))).length ≠ 0) ∧
      x2_2.winOp x2_1.ctx x2_1.pos = none ∧ (x2_2.ctx x2_1.ctx).memTold.contains (x2_1.pos, 774) = false ∧
      max (x2_2.domain x2_1.domain).closed (4 + 1) < 2 ^ 32 ∧
      (∀ (v : AdderUpdate), v ∈ (x2_2.domain x2_1.domain).held → max (x2_2.domain x2_1.domain).closed (4 + 1) < v.key)) ∧
     ((stx []).pwr.life = Life.ready ∧ x3_1.addr % 64 = 0 ∧ isDie x3_1.addr = true ∧ (stx []).serving x3_1.addr = true ∧
      ((stx []).ctx x3_1.ctx).strict = true ∧ (((stx []).setter.domains.any fun d => d.id == x3_1.domain) = false) ∧
      (stx []).setter.domains.length < 4096 ∧ x3_1.key = 0 ∧ (stx []).upset x3_1.addr = [] ∧
      ((List.filter (fun j => x3_1.mask.testBit j && (laneSum x3_1.format (ofLeBytes (Memory.getBytes (stx []).mem (x3_1.addr + laneBytes x3_1.format * j) (laneBytes x3_1.format))) (x3_1.addends.getD j 0 % 2 ^ (8 * laneBytes x3_1.format))).snd.snd) (List.range (64 / laneBytes x3_1.format))).length ≠ 0) ∧
      (stx []).winOp x3_1.ctx x3_1.pos = none ∧ ((stx []).ctx x3_1.ctx).memTold.contains (x3_1.pos, 774) = false) ∧
     (allOpen.pwr.life = Life.ready ∧ x4_1.addr % 64 = 0 ∧ isDie x4_1.addr = true ∧ allOpen.serving x4_1.addr = true ∧
      (allOpen.ctx x4_1.ctx).strict = true ∧ ((allOpen.setter.domains.any fun d => d.id == x4_1.domain) = false) ∧
      4096 ≤ allOpen.setter.domains.length) ∧
     (stp.pwr.life = Life.ready ∧ fp_1.addr % 64 = 0 ∧ isDie fp_1.addr = true ∧ stp.serving fp_1.addr = true ∧
      (stp.ctx fp_1.ctx).strict = false ∧ stp.upset fp_1.addr = Symbols.poison ∧ (stp.ctx fp_1.ctx).step = StepState.running ∧
      (stp.ctx fp_1.ctx).enabled = true ∧ (stp.ctx fp_1.ctx).loading = false ∧ (stp.ctx fp_1.ctx).memTold.contains (fp_1.pos, 771) = false ∧
      (∀ (o : WinOp), o ∈ (stp.ctx fp_1.ctx).window → o.adderExc = 0))) ∧
    (((sts []).pwr.life = Life.ready ∧ s3_1.addr % 64 = 0 ∧ isDie s3_1.addr = true ∧ (sts []).serving s3_1.addr = true ∧
      ((sts []).ctx s3_1.ctx).strict = true ∧ (((sts []).setter.domains.any fun d => d.id == s3_1.domain) = false) ∧
      (sts []).setter.domains.length < 4096 ∧ s3_1.key = 0 ∧ (sts []).upset s3_1.addr = [] ∧
      ((List.filter (fun j => s3_1.mask.testBit j && (laneSum s3_1.format (ofLeBytes (Memory.getBytes (sts []).mem (s3_1.addr + laneBytes s3_1.format * j) (laneBytes s3_1.format))) (s3_1.addends.getD j 0 % 2 ^ (8 * laneBytes s3_1.format))).snd.snd) (List.range (64 / laneBytes s3_1.format))).length = 0 ∨ ((sts []).winOp s3_1.ctx s3_1.pos).isSome = true)) ∧
     (s4_1.addr % 64 = 0 ∧ isDie s4_1.addr = true ∧ (sts []).serving s4_1.addr = true ∧ ((sts []).ctx s4_1.ctx).strict = true ∧
      (((sts []).setter.domains.any fun d => d.id == s4_1.domain) = false) ∧ 0 < s4_1.key ∧ (sts []).heldOn (bits s4_1.addr 39 1) < 65536) ∧
     ((sths.pwr.life = Life.ready ∧ s8_1.addr % 64 = 0 ∧ isDie s8_1.addr = true ∧ sths.serving s8_1.addr = true ∧
      (sths.ctx s8_1.ctx).strict = true ∧ ((sths.setter.domains.any fun d => d.id == s8_1.domain) = true)) ∧
      ((sths.domain s8_1.domain).closed < s8_1.key) ∧ (65536 ≤ sths.heldOn (bits s8_1.addr 39 1))) ∧
     (st2.pwr.life = Life.ready ∧ x1_1.addr % 64 = 0 ∧ isDie x1_1.addr = true ∧ st2.serving x1_1.addr = true ∧
      (st2.ctx x1_1.ctx).strict = false ∧ st2.upset x1_1.addr = [] ∧
      ((List.filter (fun j => x1_1.mask.testBit j && (laneSum x1_1.format (ofLeBytes (Memory.getBytes st2.mem (x1_1.addr + laneBytes x1_1.format * j) (laneBytes x1_1.format))) (x1_1.addends.getD j 0 % 2 ^ (8 * laneBytes x1_1.format))).snd.snd) (List.range (64 / laneBytes x1_1.format))).length ≠ 0) ∧
      st2.winOp x1_1.ctx x1_1.pos = none ∧ (st2.ctx x1_1.ctx).memTold.contains (x1_1.pos, 774) = false)) :=
  ⟨by refine ⟨?_, ?_, ⟨by decide +kernel, windows_of (p := fun o => o.st ≠ OpState.finished) (by decide +kernel)⟩, ?_, ?_, ?_, ?_⟩ <;> decide +kernel,
   by refine ⟨?_, ?_, ⟨by decide +kernel, (by decide : 2 < 7), held_full⟩, ?_⟩ <;> decide +kernel⟩

end Sys2Proof.Tests.Adders
end

