-- ==== Sys2Proof/Tests/Arithmetic.lean ====
section
/-! SUPPORT. Small states and operands that meet the hypotheses of statements of Obligations.lean, one theorem a statement or part of
one, one bracket a state; what an earlier bracket shows of the same terms is not said again. -/

set_option Elab.async false

namespace Sys2Proof.Tests.Arithmetic
open Sys2Proof Sys2Proof.Machine Sys2Proof.Safety Sys2Proof.Tests

def wop (fs : List (Nat × Nat)) : WinOp := { pos := 5, desc := op fs, st := .running, step := 1 }
/-- The working module with one operation, memory and shadows. -/
def one (fs : List (Nat × Nat)) (mem : List (Nat × Nat × Nat)) (sh : List (Nat × Shadow) := []) : State := withMem (work { shadows := sh } (op fs)) mem
def pr := [(2,0x10),(24,1),(28,1),(32,1),(40,0x11),(48,scr 0x100000),(64,scr 0x100010),(88,scr 0x100020)]
def product_2 : State := (one pr [(0x100000, 2, 0x3C00), (0x100010, 2, 0x4000)])
def ps := [(2,0x11),(24,2),(32,1),(36,1),(40,scr 0x100000),(48,4),(56,scr 0x100020)]
def partialSum_2 : State := (one ps [(0x100000, 8, 0x3F8000003F800000)])
def cv := [(2,0x20),(24,1),(28,1),(32,0x10),(40,scr 0x100000),(56,scr 0x100020)]
def convert_2 : State := (one cv [(0x100000, 4, 0x3F800000)])
def am := [(2,0x21),(24,1),(28,1),(40,scr 0x100000),(64,scr 0x100020)]
def amax_2 : State := (one am [(0x100000, 4, 0xBF800000)])
def ve := [(2,0x28),(24,scr 0x100000),(32,1),(36,1),(120,scr 0x100100)]
def vector_2 : State := (one ve [(0x100000, 8, 0x3E), (0x100100, 8, 9)])
def sh0 : Shadow := { frame := 0x400000, filled := true, old := some 0x300000 }
def shd : List (Nat × Shadow) := [(0, sh0)]
def sg := [(2,0x50),(24,1),(40,scr 0x100000),(80,0x3DCCCCCD),(84,0x3F800000),(88,0x3F666666),(108,0x3A83126F)]
def smem := [(0x400000, 4, 0x3F800000), (0x400800, 4, 0x3F000000), (0x400554, 4, 0x3F000000), (0x400AA8, 4, 0x3F000000)]
def sgd_2 : State := (one sg ([(0x100000, 4, 0x3F800000)] ++ smem) shd)
def ad := [(2,0x52),(24,1),(40,scr 0x100000),(80,0x3A83126F),(84,0x3F800000),(88,0x3F666666),(92,0x3DCCCCCD),(96,0x3F7FBE77),(100,0x3A83126F),(104,0x322BCC77),(108,0x3C23D70A),(112,0x3F800000),(116,0x3F800000)]
def adam_2 : State := (one ad ([(0x100000, 4, 0x3F800000)] ++ smem) shd)
def ag := [(2,0x51),(24,1),(52,0x3DCCCCCD),(56,0x3F800000),(60,0x322BCC77),(32,scr 0x101000)]
def agm := [(0x101000,4,1),(0x101008,8,scr 0x102000), (0x101040, 8, scr 0x103000)]
def adagrad_2 : State := (one ag (agm ++ [(0x102000,4,0x3F800000),(0x103000,8,0x3F800000BF800000)]))

/-- Obligations.ArithmeticOperationsComplete. -/
theorem witness_ArithmeticOperationsComplete :
    ((product_2.upsets = [] ∧ Released product_2 arg.ctx (wop pr) ∧ Fresh (wop pr) ∧ Dispatched product_2 arg (wop pr) 16 none ∧
      HasFields (wop pr).desc [(24, 4, 1), (28, 4, 1), (32, 4, 1), (36, 4, 0), (40, 8, 17), (56, 8, 0), (72, 8, 0), (80, 8, 0), (96, 32, 0)] ∧
      InScratch product_2 arg.ctx ((wop pr).desc.field 48 8) 2 1048576 ∧ InScratch product_2 arg.ctx ((wop pr).desc.field 64 8) 2 1048592 ∧
      InScratch product_2 arg.ctx ((wop pr).desc.field 88 8) 4 1048608) ∧
     (partialSum_2.upsets = [] ∧ Released partialSum_2 arg.ctx (wop ps) ∧ Fresh (wop ps) ∧ Dispatched partialSum_2 arg (wop ps) 17 none ∧
      HasFields (wop ps).desc [(24, 4, 2), (28, 4, 0), (32, 4, 1), (36, 4, 1), (48, 8, 4), (64, 64, 0)] ∧
      InScratch partialSum_2 arg.ctx ((wop ps).desc.field 40 8) 8 1048576 ∧
      InScratch partialSum_2 arg.ctx ((wop ps).desc.field 56 8) 4 1048608) ∧
     (convert_2.upsets = [] ∧ Released convert_2 arg.ctx (wop cv) ∧ Fresh (wop cv) ∧ Dispatched convert_2 arg (wop cv) 32 none ∧
      HasFields (wop cv).desc [(24, 4, 1), (28, 4, 1), (32, 8, 16), (48, 8, 0), (64, 64, 0)] ∧
      InScratch convert_2 arg.ctx ((wop cv).desc.field 40 8) 4 1048576 ∧ InScratch convert_2 arg.ctx ((wop cv).desc.field 56 8) 2 1048608) ∧
     (amax_2.upsets = [] ∧ Released amax_2 arg.ctx (wop am) ∧ Fresh (wop am) ∧ Dispatched amax_2 arg (wop am) 33 none ∧
      HasFields (wop am).desc [(24, 4, 1), (28, 4, 1), (32, 8, 0), (48, 16, 0), (72, 56, 0)] ∧
      InScratch amax_2 arg.ctx ((wop am).desc.field 40 8) 4 1048576 ∧ InScratch amax_2 arg.ctx ((wop am).desc.field 64 8) 4 1048608) ∧
     (vector_2.upsets = [] ∧ Released vector_2 arg.ctx (wop ve) ∧ Fresh (wop ve) ∧ Dispatched vector_2 arg (wop ve) 40 none ∧
      HasFields (wop ve).desc [(32, 4, 1), (36, 4, 1), (48, 48, 0)] ∧ (wop ve).desc.field 24 8 % 8 = 0 ∧
      InScratch vector_2 arg.ctx ((wop ve).desc.field 24 8) 8 1048576 ∧ InScratch vector_2 arg.ctx ((wop ve).desc.field 120 8) 64 1048832 ∧
      (viOf (BitVec.ofNat 64 (vector_2.memNat 1048576 8))).opc = 62) ∧
     (sgd_2.upsets = [] ∧ Released sgd_2 arg.ctx (wop sg) ∧ Fresh (wop sg) ∧ formOf ((wop sg).desc.field 32 8) = Form.state (0 * 4096) ∧
      (sgd_2.ctx arg.ctx).loading = false ∧ alook 0 (sgd_2.ctx arg.ctx).shadows = some sh0 ∧ inMemory sh0.frame 4096 = true ∧
      HasFields (wop sg).desc [(24, 4, 1), (28, 4, 0), (48, 32, 0), (120, 8, 0)] ∧
      InScratch sgd_2 arg.ctx ((wop sg).desc.field 40 8) 4 1048576 ∧ Dispatched sgd_2 arg (wop sg) 80 none ∧
      HasFields (wop sg).desc [(92, 16, 0), (112, 8, 0)]) ∧
     (adam_2.upsets = [] ∧ Released adam_2 arg.ctx (wop ad) ∧ Fresh (wop ad) ∧ formOf ((wop ad).desc.field 32 8) = Form.state (0 * 4096) ∧
      (adam_2.ctx arg.ctx).loading = false ∧ alook 0 (adam_2.ctx arg.ctx).shadows = some sh0 ∧
      HasFields (wop ad).desc [(24, 4, 1), (28, 4, 0), (48, 32, 0), (120, 8, 0)] ∧
      InScratch adam_2 arg.ctx ((wop ad).desc.field 40 8) 4 1048576 ∧ Dispatched adam_2 arg (wop ad) 82 none)) ∧
    (adagrad_2.upsets = [] ∧ Released adagrad_2 arg.ctx (wop ag) ∧ Fresh (wop ag) ∧ Dispatched adagrad_2 arg (wop ag) 81 none ∧
      HasFields (wop ag).desc [(24, 4, 1), (28, 4, 0), (40, 12, 0), (64, 64, 0)] ∧
      InScratch adagrad_2 arg.ctx ((wop ag).desc.field 32 8) 80 1052672 ∧ adagrad_2.memNat 1052672 4 = 1 ∧
      adagrad_2.memNat (1052672 + 64) 8 % 8 = 0 ∧ InScratch adagrad_2 arg.ctx (adagrad_2.memNat (1052672 + 64) 8 / 64 * 64) 64 1060864 ∧
      InScratch adagrad_2 arg.ctx (adagrad_2.memNat (1052672 + 8) 8 + adagrad_2.memNat (1052672 + 72) 4 * 64) 64 1056768) :=
  ⟨by refine ⟨?_, ?_, ?_, ?_, ?_, ?_, ?_⟩ <;> decide +kernel,
   by decide +kernel⟩

end Sys2Proof.Tests.Arithmetic
end

