-- ==== Sys2Proof/Tests/Bodies.lean ====
section
/-! SUPPORT. One dispatched operation of every kind that runs to its end, and a collective of every kind that completes or waits: they
meet the hypotheses of OperationsComplete and CollectivesComplete. -/

set_option Elab.async false

namespace Sys2Proof.Tests.Bodies
open Sys2Proof Sys2Proof.Machine Sys2Proof.Safety Sys2Proof.Tests

/-- Operation i of the list is dispatched, its body runs to its end, with nothing sent to the host and no event. -/
abbrev completes (i : Nat) : Prop :=
  Dispatched (opS i) arg (opW i) (opRow i).opc (opRow i).action ∧ sameEnd ((opRow i).body.run (startRun (opS i) arg (opW i))).1 (.ok ()) = true ∧
    (opR i).writes = 0 ∧ (opR i).events = []

theorem completes_shows {i : Nat} (h : completes i) : (opRow i).body.run (startRun (opS i) arg (opW i)) = (.ok (), opR i) := ends_of h.2.1

theorem completes_moves : ∀ i ∈ [0, 1, 2, 3, 4], completes i := by decide +kernel
theorem completes_kilns : ∀ i ∈ [5, 6, 7, 8], completes i := by decide +kernel
theorem completes_pages : ∀ i ∈ [9, 10, 11, 12, 13, 14, 15], completes i := by decide +kernel
theorem completes_numbers : ∀ i ∈ [16, 17, 18, 25, 26, 27], completes i := by decide +kernel
theorem completes_tables : ∀ i ∈ [19, 20, 21, 28, 29], completes i := by decide +kernel
theorem completes_queues : ∀ i ∈ [22, 23, 24], completes i := by decide +kernel

/-- Obligations.OperationsComplete: the states above are one for every row of the list. -/
theorem witness_OperationsComplete : operations.length = 30 ∧ ∀ i < 30, operations[i]?.map (·.opc) = some (opRow i).opc := by decide +kernel

/-- The state of collective i among n members; PERMUTE moves to and from the other member when there is one. -/
def among (i n : Nat) : State := if i = 4 ∧ n = 2 then withMem (collS 4 2) [(0x100200, 1, 1), (0x100218, 1, 1)] else collS i n
/-- Collective i among n members runs to an end, completing or not. -/
abbrev ends (i n : Nat) (done : Bool) : Prop :=
  Dispatched (among i n) arg (collW i) (collectives.getD i (.product, 0)).2 none ∧
    sameEnd (collBodyOp.run (startColl (among i n) arg (collW i))).1 (.ok done) = true ∧
    ((collBodyOp.run (startColl (among i n) arg (collW i))).2.writes = 0 ∧ (collBodyOp.run (startColl (among i n) arg (collW i))).2.events = [])

theorem ends_shows {i n : Nat} {done : Bool} (h : ends i n done) : ∃ r, collBodyOp.run (startColl (among i n) arg (collW i)) = (.ok done, r) ∧
    r.writes = 0 ∧ r.events = [] := ⟨_, ends_of h.2.1, h.2.2⟩

theorem ends_alone : ∀ i < 6, ends i 1 true := by decide +kernel
theorem ends_waiting : ∀ i < 6, ends i 2 false := by decide +kernel

/-- Obligations.CollectivesComplete: with one member every collective completes; with two it waits for the other. -/
theorem witness_CollectivesComplete : collectives.length = 6 ∧ (∀ i < 6, ends i 1 true) ∧ ∀ i < 6, ends i 2 false :=
  ⟨rfl, ends_alone, ends_waiting⟩

end Sys2Proof.Tests.Bodies
end

