-- ==== Sys2Proof/Tests/Bursts.lean ====
section
/-! SUPPORT. Small states and operands that meet the hypotheses of statements of Obligations.lean, one theorem a statement or part of
one, one bracket a state; what an earlier bracket shows of the same terms is not said again. -/

set_option Elab.async false

namespace Sys2Proof.Tests.Bursts
open Sys2Proof Sys2Proof.Machine Sys2Proof.Safety Sys2Proof.Tests

def heardOf (x : Stack) (v : Int) : Stack := { x with temps := aset 3 v x.temps, faulty := x.faulty.filter (· != 3) }
def bs (e : Symbols.Pattern) (a : Nat := 0x1000) : State := { blocks (withMem (up { live with step := .running }) [(0x1000,8,0x1122334455667788)]) [(2,8,1000)] with upsets := if e = [] then [] else [(a, e)] }
def e1 : Symbols.Pattern := [(2,0x33)]
def e3 : Symbols.Pattern := [(2,0x33),(7,1),(66,9)]
def e5 : Symbols.Pattern := [(2,0x33),(7,1),(8,9),(12,55),(40,66)]
def ep_2 : State := (bs Symbols.poison)
def slp : State := { bs [] with pwr := { life := .ready, current := 1 } }
def img : List Byte := leBytes 64 (2^500 + 12345678901234567)
def w3_4 : State := (bs Symbols.poison)
def stk (x : Stack) (d : Nat := 10^8) : State := { blocks { pwr := {life := .ready}, host := {up0 := true}, ports := [(1,{st:=.up})] } [(2,0x20,95)] with setter := { stack0 := x }, datum := d }
def k1_r : Option Int := (none : Option Int)
def k1_rx1 : Option Int := (some (600:Int))
def k2_4 : State := (stk {selfRefresh := true, coolSince := some 5, doubled := true, faulty := [3]})
def k2_r : Option Int := (none : Option Int)
def k2_rx1 : Option Int := (some (600:Int))
def k3_4 : State := (stk {selfRefresh := true, coolSince := some (10^8), doubled := true, hard := true, tripped := true})
def k3_r : Option Int := (none : Option Int)
def k3_rx1 : Option Int := (some (600:Int))
def m1_2 : State := (stk {level := 100, temps := [(2,384)], prev := 380})
def m2_2 : State := (stk {level := 50, temps := [(2,360)], prev := 380})
def m3_2 : State := (stk {level := 100, temps := [(2,360)], prev := 380, hard := true})

/-- Obligations.MemoryBursts, part 1. -/
theorem witness_MemoryBursts_1 :
    ((bs []).pwr.life = Life.ready ∧ isDie (4112 / 64 * 64) = true ∧ inMemory (4112 / 64 * 64) 64 = true ∧
      (bs []).serving (4112 / 64 * 64) = true ∧ (bs []).upset (4112 / 64 * 64) = [] ∧ (bs []).pwr.current = 0 ∧
      (¬∃ y, (y ∈ if (locate (4112 / 64 * 64)).fst = 0 then (bs []).setter.scrubbed0 else (bs []).setter.scrubbed1) ∧ y.fst ≤ 4112 / 64 * 64 ∧
      4112 / 64 * 64 < y.snd)) ∧
    ((bs e1).pwr.life = Life.ready ∧ (bs e1).serving (4112 / 64 * 64) = true ∧ (bs e1).upset (4112 / 64 * 64) = e1 ∧ e1 ≠ [] ∧ e1.clean = e1 ∧
      e1 ≠ Symbols.poison ∧ Symbols.decode ((bs e1).blk 2 0) e1 = Symbols.Decoded.corrected e1 ∧ (∀ (y : Nat × Byte), y ∈ e1 → y.fst < 72) ∧
      ((bs e1).chan (locate (4112 / 64 * 64)).fst (locate (4112 / 64 * 64)).snd.fst).window < (bs e1).blk 2 8 ∧ List.length e1 ≤ 2 ∧
      (bs e1).pwr.current = 0 ∧
      (¬∃ y, (y ∈ if (locate (4112 / 64 * 64)).fst = 0 then (bs e1).setter.scrubbed0 else (bs e1).setter.scrubbed1) ∧ y.fst ≤ 4112 / 64 * 64 ∧
      4112 / 64 * 64 < y.snd)) ∧
    ((bs e3).pwr.life = Life.ready ∧ (bs e3).serving (4112 / 64 * 64) = true ∧ (bs e3).upset (4112 / 64 * 64) = e3 ∧ e3 ≠ [] ∧ e3.clean = e3 ∧
      e3 ≠ Symbols.poison ∧ Symbols.decode ((bs e3).blk 2 0) e3 = Symbols.Decoded.corrected (List.reverse e3) ∧
      (∀ (y : Nat × Byte), y ∈ List.reverse e3 → y.fst < 72) ∧ List.reverse e3 ≠ [] ∧
      ((bs e3).chan (locate (4112 / 64 * 64)).fst (locate (4112 / 64 * 64)).snd.fst).window < (bs e3).blk 2 8 ∧ 3 ≤ (List.reverse e3).length ∧
      e3.xor (List.reverse e3) = [] ∧ (bs e3).pwr.current = 0 ∧
      (¬∃ y, (y ∈ if (locate (4112 / 64 * 64)).fst = 0 then (bs e3).setter.scrubbed0 else (bs e3).setter.scrubbed1) ∧ y.fst ≤ 4112 / 64 * 64 ∧
      4112 / 64 * 64 < y.snd)) ∧
    ((bs e5).pwr.life = Life.ready ∧ (bs e5).serving (4112 / 64 * 64) = true ∧ (bs e5).upset (4112 / 64 * 64) = e5 ∧ e5 ≠ [] ∧ e5.clean = e5 ∧
      e5 ≠ Symbols.poison ∧ Symbols.decode ((bs e5).blk 2 0) e5 = Symbols.Decoded.uncorrectable ∧ (bs e5).pwr.current = 0 ∧
      (¬∃ y, (y ∈ if (locate (4112 / 64 * 64)).fst = 0 then (bs e5).setter.scrubbed0 else (bs e5).setter.scrubbed1) ∧ y.fst ≤ 4112 / 64 * 64 ∧
      4112 / 64 * 64 < y.snd)) ∧
    (ep_2.pwr.life = Life.ready ∧ ep_2.serving (4112 / 64 * 64) = true ∧ ep_2.upset (4112 / 64 * 64) = Symbols.poison ∧
      (ep_2.ctx 0).step = StepState.running ∧ (ep_2.ctx 0).enabled = true ∧ (ep_2.ctx 0).loading = false ∧
      (ep_2.ctx 0).memTold.contains (5, 771) = false ∧ (∀ (o : WinOp), o ∈ (ep_2.ctx 0).window → o.adderExc = 0)) ∧
    (slp.pwr.life = Life.ready ∧ isDie (309237645248 / 64 * 64) = true ∧ inMemory (309237645248 / 64 * 64) 64 = true ∧
      slp.serving (309237645248 / 64 * 64) = true ∧ slp.upset (309237645248 / 64 * 64) = [] ∧ slp.pwr.current ≠ 0) :=
  by refine ⟨?_, ?_, ?_, ?_, ?_, ?_⟩ <;> decide +kernel

/-- Obligations.MemoryBursts, part 2. -/
theorem witness_MemoryBursts_2 :
    ((bs []).pwr.life = Life.ready ∧ inMemory (343597383680 / 64 * 64) 64 = false ∧ ((bs []).ctx 0).step = StepState.running ∧
      ((bs []).ctx 0).enabled = true ∧ ((bs []).ctx 0).loading = false ∧ ((bs []).ctx 0).memTold.contains (5, 773) = false ∧
      (∀ (o : WinOp), o ∈ ((bs []).ctx 0).window → o.adderExc = 0)) ∧
    ((bs e5).pwr.life = Life.ready ∧ inMemory (4112 / 64 * 64) 64 = true ∧ (bs e5).serving (4112 / 64 * 64) = true ∧
      (2 ^ 64 - 1) % 2 ^ 64 = 2 ^ 64 - 1 ∧ img.length = 64) ∧
    ((bs []).serving (4112 / 64 * 64) = true ∧ 3855 % 2 ^ 64 ≠ 2 ^ 64 - 1 ∧ (bs []).upset (4112 / 64 * 64) = []) ∧
    (w3_4.pwr.life = Life.ready ∧ w3_4.serving (4112 / 64 * 64) = true ∧ isDie (4112 / 64 * 64) = true ∧
      w3_4.upset (4112 / 64 * 64) = Symbols.poison) :=
  by refine ⟨?_, ?_, ?_, ?_⟩ <;> decide +kernel

/-- Obligations.StacksThrottle, part 1. -/
theorem witness_StacksThrottle_1 :
    (((stk { }).pwr.life ≠ Life.off ∧ (stk { }).booting = false ∧ 0 < 2 ∧ 3 < 13 ∧ 4 < 512 ∧ ((stk { }).stack 0).selfRefresh = false ∧
      (((stk { }).stack 0).coolSince = none ∨ ((stk { }).stack 0).doubled = false) ∧ ¬3 ∈ ((stk { }).stack 0).faulty ∧
      ((stk { }).stack 0).hard = false ∧ -80 ≤ 400 ∧ 400 ≤ 520 ∧ ((stk { }).stack 0).tripped = false ∧
      340 < (heardOf ((stk { }).stack 0) 400).hottest.snd ∧ (heardOf ((stk { }).stack 0) 400).hottest.snd < 420) ∧
      (((stk { }).stack 0).doubled = false ∧ -80 ≤ 440 ∧ 440 ≤ 520 ∧ 440 ≤ (heardOf ((stk { }).stack 0) 440).hottest.snd ∧ -80 ≤ 420 ∧
      420 ≤ 520 ∧ 420 ≤ (heardOf ((stk { }).stack 0) 420).hottest.snd ∧ (heardOf ((stk { }).stack 0) 420).hottest.snd < 440 ∧ -80 ≤ 341 ∧
      341 ≤ 520 ∧ 340 < (heardOf ((stk { }).stack 0) 341).hottest.snd ∧ (heardOf ((stk { }).stack 0) 341).hottest.snd < 420 ∧ -80 ≤ 328 ∧
      328 ≤ 520) ∧ (((heardOf ((stk { }).stack 0) 328).hottest.snd ≤ 340 ∨ (heardOf ((stk { }).stack 0) 328).hottest.snd < 420 ∧
      ((stk { }).stack 0).doubled = true)) ∧ (k1_rx1 = none ∨ ∃ v, k1_rx1 = some v ∧ (v < -80 ∨ 520 < v)) ∧
      (k1_r = none ∨ ∃ v, k1_r = some v ∧ (v < -80 ∨ 520 < v))) ∧
    ((k3_4.pwr.life ≠ Life.off ∧ k3_4.booting = false ∧ (k3_4.stack 0).selfRefresh = true ∧ (k3_4.stack 0).coolSince = some (10 ^ 8) ∧
      (k3_4.stack 0).doubled = true ∧ k3_4.datum < 10 ^ 8 + 10000000 ∧ ¬3 ∈ (k3_4.stack 0).faulty ∧ (k3_4.stack 0).hard = true ∧
      (k3_4.stack 0).tripped = true ∧ 360 < (heardOf (k3_4.stack 0) 400).hottest.snd ∧ (heardOf (k3_4.stack 0) 400).hottest.snd < 420 ∧
      ((heardOf (k3_4.stack 0) 341).hottest.snd ≤ 340 ∨ (heardOf (k3_4.stack 0) 341).hottest.snd ≤ 360 ∧ (k3_4.stack 0).doubled = true) ∧
      ((heardOf (k3_4.stack 0) 328).hottest.snd ≤ 340 ∨ (heardOf (k3_4.stack 0) 328).hottest.snd ≤ 360 ∧ (k3_4.stack 0).doubled = true)) ∧
      (k3_rx1 = none ∨ ∃ v, k3_rx1 = some v ∧ (v < -80 ∨ 520 < v)) ∧ (k3_r = none ∨ ∃ v, k3_r = some v ∧ (v < -80 ∨ 520 < v))) ∧
    ((k2_4.pwr.life ≠ Life.off ∧ k2_4.booting = false ∧ (k2_4.stack 0).coolSince = some 5 ∧ (k2_4.stack 0).doubled = true ∧
      5 + 10000000 ≤ k2_4.datum ∧ 3 ∈ (k2_4.stack 0).faulty ∧ (k2_4.stack 0).tripped = false ∧
      ((heardOf (k2_4.stack 0) 400).hottest.snd ≤ 340 ∨ (heardOf (k2_4.stack 0) 400).hottest.snd < 420 ∧ (k2_4.stack 0).doubled = true) ∧
      ((heardOf (k2_4.stack 0) 341).hottest.snd ≤ 340 ∨ (heardOf (k2_4.stack 0) 341).hottest.snd < 420 ∧ (k2_4.stack 0).doubled = true)) ∧
      (k2_rx1 = none ∨ ∃ v, k2_rx1 = some v ∧ (v < -80 ∨ 520 < v)) ∧ (k2_r = none ∨ ∃ v, k2_r = some v ∧ (v < -80 ∨ 520 < v))) :=
  ⟨(by refine ⟨?_, ?_, ?_, by first | exact Or.inl rfl | exact Or.inr ⟨_, rfl, by decide⟩, by first | exact Or.inl rfl | exact Or.inr ⟨_, rfl, by decide⟩⟩ <;> decide +kernel),
   ⟨by decide +kernel, by first | exact Or.inl rfl | exact Or.inr ⟨_, rfl, by decide⟩, by first | exact Or.inl rfl | exact Or.inr ⟨_, rfl, by decide⟩⟩,
   ⟨by decide +kernel, by first | exact Or.inl rfl | exact Or.inr ⟨_, rfl, by decide⟩, by first | exact Or.inl rfl | exact Or.inr ⟨_, rfl, by decide⟩⟩⟩

/-- Obligations.StacksThrottle, part 2. -/
theorem witness_StacksThrottle_2 :
    (m1_2.pwr.life ≠ Life.off ∧ m1_2.booting = false ∧ 0 < 2 ∧ 4 * ↑(m1_2.blk 2 32) ≤ (m1_2.stack 0).hottest.snd ∧
      (m1_2.stack 0).prev - 2 ≤ (m1_2.stack 0).hottest.snd ∧ 25 < (m1_2.stack 0).level) ∧
    (m2_2.pwr.life ≠ Life.off ∧ m2_2.booting = false ∧ (m2_2.stack 0).hottest.snd < 4 * ↑(m2_2.blk 2 32) - 12 ∧ (m2_2.stack 0).level < 100 ∧
      ¬(((m2_2.stack 0).hard && !(decide ((m2_2.stack 0).hottest.snd < 400) && (m2_2.stack 0).faulty.isEmpty)) = true ∧
      50 ≤ (m2_2.stack 0).level)) ∧
    (m3_2.pwr.life ≠ Life.off ∧ m3_2.booting = false ∧ ((m3_2.stack 0).hottest.snd < 4 * ↑(m3_2.blk 2 32) ∧
      (4 * ↑(m3_2.blk 2 32) - 12 ≤ (m3_2.stack 0).hottest.snd ∨ 100 ≤ (m3_2.stack 0).level ∨ ((m3_2.stack 0).hard && !(decide ((m3_2.stack 0).hottest.snd < 400) && (m3_2.stack 0).faulty.isEmpty)) = true ∧
      50 ≤ (m3_2.stack 0).level) ∨ 4 * ↑(m3_2.blk 2 32) ≤ (m3_2.stack 0).hottest.snd ∧
      ((m3_2.stack 0).hottest.snd < (m3_2.stack 0).prev - 2 ∨ (m3_2.stack 0).level ≤ 25))) :=
  by refine ⟨?_, ?_, ?_⟩ <;> decide +kernel

end Sys2Proof.Tests.Bursts
end

