-- ==== Sys2Proof/Tests/Cone.lean ====
section
/-! SUPPORT. Small states and operands that meet the hypotheses of statements of Obligations.lean, one theorem a statement or part of
one, one bracket a state; what an earlier bracket shows of the same terms is not said again. -/

set_option Elab.async false

namespace Sys2Proof.Tests.Cone
open Sys2Proof Sys2Proof.Machine Sys2Proof.Safety Sys2Proof.Tests

def ww (d : Desc) : WinOp := { pos := 5, desc := d, st := .running, step := 1 }
def dC := op [(2,0x62)]
def sC := team (work { lastSwitch := 5, late := true } dC) 2
def sC2 := let s := withMem (page sC [(0x078, 0x400000)]) [(0x400003,1,2),(0x400004,4,64),(0x400008,8,0x600000)]; { s with ctxs := [(0, { s.ctx 0 with queues := [{ id := 0, sends := 2, credits := 1}]})] }
def unbalanced_q : QueueEnd := ({ id := 0, sends := 2, credits := 1} : QueueEnd)
def unbalanced_rest : List QueueEnd := ([] : List QueueEnd)
def unbalanced_rec : QueueRec := ({ peer := 0, recv := false, slots := 2, slotBytes := 64, base := 0x600000 } : QueueRec)
def bend (x : Ctx) (n rank : Nat) : State := withMem (team (work { x with coneAt := some (5, 0, 77) } dC) n) [(0x500004,2,rank)]
def b1 := bend { tallies := [{step := 1, bytes := [], fired := true}], fired := 1 } 1 0
def b2 : State := let s := blocks (bend {} 1 0) [(11,0x30,0)]; { s with tier := { s.tier with journal := [{ ctx := 0, type := 2, step := 1 }] } }
def b3 := bend {} 2 0
def b4 := bend {} 2 1
def b5 := bend {} 1 0
def b6 := blocks b2 [(11,0x40,1)]

/-- Obligations.ConeClosesTheStep, part 1. -/
theorem witness_ConeClosesTheStep_1 :
    (Dispatched sC arg (ww dC) 98 none ∧ (ww dC).desc.field 24 104 = 0 ∧ (sC.ctx arg.ctx).coneAt = none ∧ (sC.ctx arg.ctx).queues = [] ∧
      (sC.ctx arg.ctx).carried = [] ∧ (sC.ctx arg.ctx).migrations = [] ∧ (sC.ctx arg.ctx).shadows = [] ∧ (sC.ctx arg.ctx).watches = [] ∧
      (sC.takeTally (ceilDiv (sC.tallyRecord arg.ctx sC.datum []).length 4096)).isSome = true ∧ sC.blk 11 64 = 0) ∧
    (Dispatched sC2 arg (ww dC) 98 none ∧ (sC2.ctx arg.ctx).coneAt = none ∧ (sC2.ctx arg.ctx).queues = unbalanced_q :: unbalanced_rest ∧
      sC2.queueRec arg.ctx unbalanced_q.id = some unbalanced_rec ∧ (unbalanced_rec.recv = false ∧
      unbalanced_q.credits < unbalanced_q.sends ∨ unbalanced_rec.recv = true ∧ ((∃ b, b ∈ unbalanced_q.arrived ∧
      unbalanced_q.releases ≤ b.fst) ∨ unbalanced_q.releases < unbalanced_q.recvs)) ∧ (sC2.ctx arg.ctx).ring = RingState.active ∧
      sC2.upsets = [] ∧ (∀ (p : QueueEnd), p ∈ (sC2.ctx arg.ctx).queues → inMemory (sC2.pg arg.ctx 120 + 32 * p.id) 32 = true)) :=
  by refine ⟨?_, ?_⟩ <;> decide +kernel

/-- Obligations.ConeClosesTheStep, part 2. -/
theorem witness_ConeClosesTheStep_2 :
    ((b1.ctx arg.ctx).coneAt = some (arg.pos, 0, 77) ∧ (b1.ctx arg.ctx).step = StepState.running ∧ b1.pwr.life = Life.ready ∧
      b1.prevDelivered arg.ctx = false) ∧
    ((b2.ctx arg.ctx).coneAt = some (arg.pos, 0, 77) ∧ (b2.ctx arg.ctx).step = StepState.running ∧ b2.pwr.life = Life.ready ∧
      b2.prevDelivered arg.ctx = true ∧ b2.backlogOver = true ∧ b2.tier.stopped = false ∧ b2.blk 11 64 = 0 ∧
      (b2.ctx arg.ctx).backTold = false) ∧
    ((b3.ctx arg.ctx).coneAt = some (arg.pos, 0, 77) ∧ (b3.ctx arg.ctx).step = StepState.running ∧ b3.pwr.life = Life.ready ∧
      b3.prevDelivered arg.ctx = true ∧ b3.backlogOver = false ∧ (b3.ctx arg.ctx).bentSent = false ∧ b3.childrenBent arg.ctx = false) ∧
    ((b4.ctx arg.ctx).coneAt = some (arg.pos, 0, 77) ∧ (b4.ctx arg.ctx).step = StepState.running ∧ b4.pwr.life = Life.ready ∧
      b4.prevDelivered arg.ctx = true ∧ b4.backlogOver = false ∧ (b4.ctx arg.ctx).bentSent = false ∧ b4.childrenBent arg.ctx = true ∧
      b4.rank arg.ctx ≠ 0) ∧
    ((b5.ctx arg.ctx).coneAt = some (arg.pos, 0, 77) ∧ (b5.ctx arg.ctx).step = StepState.running ∧ b5.pwr.life = Life.ready ∧
      b5.prevDelivered arg.ctx = true ∧ b5.backlogOver = false ∧ (b5.ctx arg.ctx).bentSent = false ∧ b5.childrenBent arg.ctx = true ∧
      b5.rank arg.ctx = 0) ∧
    ((b6.ctx arg.ctx).coneAt = some (arg.pos, 0, 77) ∧ (b6.ctx arg.ctx).step = StepState.running ∧ b6.pwr.life = Life.ready ∧
      b6.prevDelivered arg.ctx = true ∧ b6.backlogOver = true ∧ b6.tier.stopped = false ∧ b6.blk 11 64 = 1) :=
  by refine ⟨?_, ?_, ?_, ?_, ?_, ?_⟩ <;> decide +kernel

end Sys2Proof.Tests.Cone
end

