-- ==== Sys2Proof/Tests/Control.lean ====
section
/-! SUPPORT. Small states and operands that meet the hypotheses of statements of Obligations.lean, one theorem a statement or part of
one, one bracket a state; what an earlier bracket shows of the same terms is not said again. -/

set_option Elab.async false

namespace Sys2Proof.Tests.Control
open Sys2Proof Sys2Proof.Machine Sys2Proof.Safety Sys2Proof.Tests

def src : Src := ⟨0, 7, 9⟩
def st (x : Ctx) : State := hosted (work x (op [(2,1)]))
def ctxOf (s : State) (f : Ctx → Ctx) : State := { s with ctxs := [(0, f (s.ctx 0))] }
def s1 := st { fired := 4 }
def s2 := ctxOf (st { fired := 4 }) fun x => { x with step := .inDoubt }
def s3 := ctxOf (st { fired := 4, hearth := 3 }) fun x => { x with step := .stopped, window := [], launch := some (5, 9) }
def e1 := page { up {} with ctxs := [(0, { retirePos := 7, cmdProducer := 9, eventPos := 3, tallyPos := 512, fetchPos := 8 })] } []
def la : State := { s3 with dat := { st := .root }, datum := 1000 }
def la2 : State := { la with pwr := { la.pwr with current := 2 } }
def early_4 : State := { la with datum := 8 }
def go_4 : State := { la with datum := 9 }
def la3 := ctxOf la fun x => { x with fetchPos := 8, retirePos := 8 }
def go2_4 : State := { la3 with datum := 9 }
def bk (w : List (Nat×Nat)) (busy : Nat) (h : Option (Src × Nat)) : State := { up live with bankS := { written := w, busyUntil := busy, held := h }, datum := 50 }
def k1 := bk [] 60 (some (src, 3))
def k2 := bk [] 60 none
def k3 := bk [] 50 (some (src, 3))
def k3o : State := { k3 with bankM := { held := some (⟨2, 0, 9⟩, 7) }, bankS := { k3.bankS with second := true } }
def order_o : Src := (⟨2, 0, 9⟩ : Src)

/-- Obligations.StepControlResolves, part 1. -/
theorem witness_StepControlResolves_1 :
    (s1.pwr.life = Life.ready ∧ (s1.ctx 0).enabled = true ∧ (s1.ctx 0).step = StepState.running ∧ (s1.ctx 0).loading = false ∧
      5 % 2 ^ 48 = s1.step 0 % 2 ^ 48 ∧
      ((s1.ctx 0).step ≠ StepState.inDoubt ∨ (s1.ctx 0).enabled = false ∨ ¬5 % 2 ^ 48 = s1.step 0 % 2 ^ 48) ∧
      ((s1.ctx 0).step ≠ StepState.stopped ∨ (s1.ctx 0).enabled = false)) ∧
    (s2.pwr.life = Life.ready ∧ ((s2.ctx 0).step ≠ StepState.running ∨ (s2.ctx 0).enabled = false ∨ ¬5 % 2 ^ 48 = s2.step 0 % 2 ^ 48) ∧
      (s2.ctx 0).enabled = true ∧ (s2.ctx 0).step = StepState.inDoubt ∧ 5 % 2 ^ 48 = s2.step 0 % 2 ^ 48 ∧
      (∀ (w : WinOp), w ∈ (s2.ctx 0).window → w.adderExc = 0)) :=
  by refine ⟨?_, ?_⟩ <;> decide +kernel

/-- Obligations.StepControlResolves, part 2. -/
theorem witness_StepControlResolves_2 :
    (s2.pwr.life = Life.ready ∧ (s2.ctx 0).enabled = true ∧ (s2.ctx 0).step = StepState.inDoubt ∧ 5 % 2 ^ 48 = s2.step 0 % 2 ^ 48 ∧
      (s2.ctx 0).disableAfter = false ∧ (s2.ctx 0).ring = RingState.active) :=
  by decide +kernel

/-- Obligations.LoadSealRestore. -/
theorem witness_LoadSealRestore :
    (s3.pwr.life = Life.ready ∧ (s3.ctx 0).enabled = true ∧ (s3.ctx 0).step = StepState.stopped ∧ (s3.ctx 0).loading = false ∧
      s3.upsets = [] ∧ 3 % 2 ^ 48 < (s3.ctx 0).fired ∧ 3 % 2 ^ 48 = (s3.ctx 0).hearth) ∧
    ((s3.ctx 0).fired ≤ 4 % 2 ^ 48 ∧ 4 % 2 ^ 48 ≠ (s3.ctx 0).hearth ∧ (s3.tier.recordOf 0 (4 % 2 ^ 48)).fst = none) :=
  by refine ⟨?_, ?_⟩ <;> decide +kernel

/-- Obligations.ContextsAreEnabledAndDisabled. -/
theorem witness_ContextsAreEnabledAndDisabled :
    (e1.pwr.life = Life.ready ∧ (e1.ctx 0).enabled = false ∧ (e1.enableBad 0).isSome = true) ∧
    (s3.pwr.life = Life.ready ∧ (s3.ctx 0).enabled = true ∧ (s3.ctx 0).step = StepState.stopped) ∧
    (s1.pwr.life = Life.ready ∧ (s1.ctx 0).enabled = true ∧ (s1.ctx 0).step = StepState.running ∧ (s1.ctx 0).loading = false) ∧
    (s2.pwr.life = Life.ready ∧ (s2.ctx 0).enabled = true ∧
      ((s2.ctx 0).step = StepState.bent ∨ (s2.ctx 0).step = StepState.armed ∨ (s2.ctx 0).step = StepState.inDoubt ∨ (s2.ctx 0).step = StepState.voiding) ∧
      (s2.ctx 0).loading = false) :=
  by refine ⟨?_, ?_, ?_, ?_⟩ <;> decide +kernel

/-- Obligations.LaunchesStartTheStep. -/
theorem witness_LaunchesStartTheStep :
    (early_4.pwr.life = Life.ready ∧ early_4.pwr.current ≠ 2 ∧ (early_4.ctx 0).enabled = true ∧ (early_4.ctx 0).loading = false ∧
      (early_4.ctx 0).step = StepState.stopped ∧ 5 % 2 ^ 48 = early_4.step 0 % 2 ^ 48 ∧
      (early_4.dat.st = DatumState.aligned ∨ early_4.dat.st = DatumState.root) ∧ 9 < early_4.datum + early_4.blk 10 40 * 1000 ∧
      (early_4.ctx 0).launch = some (5, 9) ∧ (early_4.ctx 0).enabled = true ∧ (early_4.ctx 0).step = StepState.stopped ∧
      early_4.datum < 9) ∧
    (la.pwr.life = Life.ready ∧ la.pwr.current = 0 ∧ (la.ctx 0).enabled = true ∧ (la.ctx 0).loading = false ∧
      (la.ctx 0).step = StepState.stopped ∧ 5 % 2 ^ 48 = la.step 0 % 2 ^ 48 ∧ (la.dat.st = DatumState.aligned ∨ la.dat.st = DatumState.root) ∧
      la.datum + la.blk 10 40 * 1000 ≤ 1000 + la.blk 10 40 * 1000) ∧
    (s3.pwr.life = Life.ready ∧ s3.pwr.current ≠ 2 ∧ (s3.ctx 0).enabled = true ∧ (s3.ctx 0).loading = false ∧
      (s3.ctx 0).step = StepState.stopped ∧ 5 % 2 ^ 48 = s3.step 0 % 2 ^ 48 ∧
      (¬(s3.dat.st = DatumState.aligned ∨ s3.dat.st = DatumState.root))) ∧
    (la.pwr.current ≠ 2 ∧ ¬((la.ctx 0).enabled = true ∧ (la.ctx 0).loading = false ∧ (la.ctx 0).step = StepState.stopped ∧
      6 % 2 ^ 48 = la.step 0 % 2 ^ 48)) ∧
    (la2.pwr.life = Life.ready ∧ la2.pwr.current = 2) ∧
    (go_4.pwr.life = Life.ready ∧ (go_4.ctx 0).launch = some (5, 9) ∧ (go_4.ctx 0).enabled = true ∧ (go_4.ctx 0).step = StepState.stopped ∧
      9 ≤ go_4.datum ∧ (go_4.ctx 0).retirePos < (go_4.ctx 0).fetchPos) ∧
    (go2_4.pwr.life = Life.ready ∧ (go2_4.ctx 0).launch = some (5, 9) ∧ (go2_4.ctx 0).enabled = true ∧
      (go2_4.ctx 0).step = StepState.stopped ∧ 9 ≤ go2_4.datum ∧ (go2_4.ctx 0).fetchPos ≤ (go2_4.ctx 0).retirePos) :=
  by refine ⟨?_, ?_, ?_, ?_, ?_, ?_, ?_⟩ <;> decide +kernel

/-- Obligations.CommitsTakeEffectOrWait. -/
theorem witness_CommitsTakeEffectOrWait :
    (k1.pwr.life = Life.ready ∧ (k1.bankOf src).held.isSome = true ∧ (k1.bankOf src).held = some (src, BitVec.toNat (3 : Word)) ∧
      k1.datum < (k1.bankOf src).busyUntil) ∧
    (k2.pwr.life = Life.ready ∧ (k2.bankOf src).held = none ∧ k2.datum < (k2.bankOf src).busyUntil) ∧
    (k3.pwr.life = Life.ready ∧ (k3.bankOf src).held = some (src, BitVec.toNat (3 : Word)) ∧ (k3.bankOf src).busyUntil ≤ k3.datum ∧
      (k3.bankOf src).written = [] ∧ ((k3.bankOf src).second = false ∨ (k3.otherBank src).held = none)) ∧
    (k3o.pwr.life = Life.ready ∧ (k3o.bankOf src).held = some (src, BitVec.toNat (3 : Word)) ∧ (k3o.bankOf src).busyUntil ≤ k3o.datum ∧
      (k3o.bankOf src).written = [] ∧ (k3o.bankOf src).second = true ∧ (k3o.otherBank src).held = some (order_o, 7) ∧
      srcMgmt order_o ≠ srcMgmt src) :=
  by refine ⟨?_, ?_, ?_, ?_⟩ <;> decide +kernel

end Sys2Proof.Tests.Control
end

