-- ==== Sys2Proof/Tests/Digests.lean ====
section
/-! SUPPORT. Small states and operands that meet the hypotheses of statements of Obligations.lean, one theorem a statement or part of
one, one bracket a state; what an earlier bracket shows of the same terms is not said again. -/

set_option Elab.async false

namespace Sys2Proof.Tests.Digests
open Sys2Proof Sys2Proof.Machine Sys2Proof.Safety Sys2Proof.Tests

/-- member of rank r of n, context 0, grid r -/
def mem_ (s : State) (r n : Nat) : State := blocks (withMem (page s [(0x038, 0x500000)]) [(0x500000,2,7),(0x500002,2,n),(0x500004,2,r),(0x500040,8,0x0003000200010000)]) [(4,0,2^15 + r), (0,0x20,100),(4,0x200,8),(4,0x208,9),(4,0x210,10),(4,0x218,11)]
def prt (s : State) : State := { s with ports := (List.range 4).map fun i => (i, ({ st := .up, lanes := 15 } : Port)) }
def job (x : Ctx) (r n : Nat) : State := prt (mem_ (up { x with enabled := true }) r n)
def ctl (ty r step : Nat) (d orig ev dig cx : Nat) (dest : Nat) : Packet := { dest := dest, src := r, vc := 0, type := ty, slots := 1, hops := 0, job := 7, body := .control step d orig ev r 0 dig cx }
def h1_3 : Packet := (ctl 5 1 4 0 1 0 0 0 0)
def h1_4 : State := (job { step := .bent, fired := 3 } 0 3)
def tl (told : Bool) (dt : Nat) (dl : Bool): State := { job { step := .running, fired := 3, coneAt := some (5,10^6,7), heldTold := told, tallies := [{step := 3, bytes := [], delivered := dl}] } 0 2 with datum := dt }
def t1_3 : Packet := (ctl 5 1 4 0 1 0 0 0 2)
def t1_4 : State := (tl false 12000000 false)
def t2_4 : State := (tl false 12000000 true)
def dg (x : Ctx) (r n : Nat) := job { x with fired := 4 } r n
def d1_2 : Packet := (ctl 6 1 4 0 0 0 99 0 0)
def d1_3 : State := (dg {} 0 3)
def d2_2 : Packet := (ctl 6 1 4 0 0 0 99 0 0)
def d2_3 : State := (dg {digests := [(0,4,98)]} 0 2)
def d3_2 : Packet := (ctl 6 1 4 0 0 0 99 0 0)
def d3_3 : State := (dg {digests := [(1,4,98)]} 0 2)
def d4_2 : Packet := (ctl 6 9 4 0 0 0 99 0 1)
def d4_3 : State := (dg {} 1 10)
def ac : State := { (job { fired := 4, checkDue := [(4, 99)] } 0 2) with }
def d5_rest : List (Nat × Nat) := ([] : List (Nat × Nat))
def rr_1 : State := { pwr := {life := .ready}, frames0 := {reserve := 4529840, pool := 5}, frames1 := {reserve := 4529840, pool := 500} }
def d6_2 : Packet := (ctl 6 0 4 0 1 0x0607 2 0 1)
def d6_3 : State := (dg {} 1 10)
def d7_2 : Packet := (ctl 6 9 4 0 1 0x0607 2 0 1)
def d7_3 : State := (dg {} 1 10)

/-- Obligations.HeartbeatsAndDigests, part 1. -/
theorem witness_HeartbeatsAndDigests_1 :
    (t1_4.pwr.life = Life.ready ∧ ((t1_4.ctx 0).enabled = false ∨ (t1_4.treeLinks 0).contains 2 = false) ∧ t1_4.isMine t1_3 = false ∧
      t1_3.type = 5 ∧ t1_3.hops < 8 ∧ t1_3.vc = 0 ∧ ((t1_4.ctx 0).coneAt).isSome = true ∧ t1_4.prevDelivered 0 = false ∧
      (t1_4.ctx 0).heldTold = false ∧ (t1_4.ctx 0).coneAt.get!.snd.fst + 10000000 ≤ t1_4.datum ∧ (t1_4.ctx 0).step = StepState.running) ∧
    (h1_4.pwr.life = Life.ready ∧ (h1_4.ctx 0).enabled = true ∧ (h1_4.treeLinks 0).contains 1 = true ∧ h1_4.isMine h1_3 = true) ∧
    (t2_4.pwr.life = Life.ready ∧ ((t2_4.ctx 0).coneAt).isSome = true ∧
      (t2_4.prevDelivered 0 = true ∨ (t2_4.ctx 0).heldTold = true ∨ t2_4.datum < (t2_4.ctx 0).coneAt.get!.snd.fst + 10000000)) :=
  by refine ⟨?_, ?_, ?_⟩ <;> decide +kernel

/-- Obligations.HeartbeatsAndDigests, part 2. -/
theorem witness_HeartbeatsAndDigests_2 :
    ((d1_3.rank 0 = 0 ∧ (((d1_3.ctx 0).digests.any fun e => e.fst == 1 && e.snd.fst == 4) = false) ∧
      ((List.filter (fun e => e.snd.fst == 4) (d1_3.ctx 0).digests).length + 1 < d1_3.members 0) ∧ (d1_3.ctx 0).checkDue = []) ∧
      (d1_3.control d1_2 6 = some (0, 4, 0, 0, 0, 1, 99, 0))) ∧
    ((d2_3.rank 0 = 0 ∧ (((d2_3.ctx 0).digests.any fun e => e.fst == 1 && e.snd.fst == 4) = false) ∧ d2_3.members 0 = 2 ∧ 98 ≠ 99 ∧
      (d2_3.ctx 0).digests = [(0, 4, 98)]) ∧ (d2_3.control d2_2 6 = some (0, 4, 0, 0, 0, 1, 99, 0))) ∧
    ((d3_3.rank 0 = 0 ∧ (((d3_3.ctx 0).digests.any fun e => e.fst == 1 && e.snd.fst == 4) = true)) ∧
      (d3_3.control d3_2 6 = some (0, 4, 0, 0, 0, 1, 99, 0))) ∧
    ((d4_3.rank 0 ≠ 0 ∧ 0 ≠ 1543) ∧ (d4_3.control d4_2 6 = some (0, 4, 0, 0, 0, 9, 99, 0))) ∧
    (ac.pwr.life = Life.ready ∧ (ac.ctx 0).enabled = true ∧ (ac.ctx 0).checkDue = (4, 99) :: d5_rest ∧ ac.rank 0 = 0 ∧ 1 < ac.members 0 ∧
      (ac.ctx 0).digests = []) ∧
    ((d6_3.rank 0 ≠ 0 ∧ 0 = treeParent (d6_3.rank 0)) ∧ (d6_3.control d6_2 6 = some (0, 4, 0, 1, 1543, 0, 2, 0))) ∧
    ((d7_3.rank 0 ≠ 0 ∧ 9 ≠ treeParent (d7_3.rank 0)) ∧ (d7_3.control d7_2 6 = some (0, 4, 0, 1, 1543, 9, 2, 0))) :=
  by and_intros <;> first | rfl | decide +kernel

/-- Obligations.WalkAndReserves, part 2. -/
theorem witness_WalkAndReserves_2 :
    (rr_1.pwr.life = Life.ready) :=
  by decide +kernel

end Sys2Proof.Tests.Digests
end

