-- ==== Sys2Proof/Tests/Dispatching.lean ====
section
/-! SUPPORT. Small states and operands that meet the hypotheses of statements of Obligations.lean, one theorem a statement or part of
one, one bracket a state; what an earlier bracket shows of the same terms is not said again. -/

set_option Elab.async false

namespace Sys2Proof.Tests.Dispatching
open Sys2Proof Sys2Proof.Machine Sys2Proof.Safety Sys2Proof.Tests

def dq (d : Desc) : State := work { window := [{ pos := 4, desc := op [(2,1)], st := .running, step := 1}] } d .waiting
def full : State := let s := dq (op [(2,1)]); { s with ctxs := [(0, { s.ctx 0 with entryq := List.replicate 4200 { kind := 1, outcome := 0, code := 0, context := 0, position := 0, step := 0, datum := 0, tag := 0, payload := 0} })] }
def dfence := dq (op [(2,1),(16,1)])
def fence_w : WinOp := ({ pos := 5, desc := op [(2,1),(16,1)], st := .waiting, step := 1 } : WinOp)
def dkiln := dq (op [(2,0x10),(16,1 + (1<<<22))])
def kiln_w : WinOp := ({ pos := 5, desc := op [(2,0x10),(16,1+(1<<<22))], st := .waiting, step := 1 } : WinOp)
def two (k0 : Kiln) : State :=
  let s := work { starve := [(0, 5)] } (op [(2,0x10)]) .waiting
  let x := (s.ctx 0)
  let s := { s with ctxs := [(0, x), (1, x)], kilns := [(0, k0)], datum := 10^9 }
  (s.setReg (pageAddr 1 0x048) 1).setReg (pageAddr 1 0x050) 1
def ks1 := page (two { st := .starving, ctx := some 0, since := 1000, starving := some .collective }) [(0x068, 50), (0x060, 1000)]
def ks3 := page (two { st := .running, ctx := some 0, since := 1000, takenAt := 10^9-10^6+1 }) [(0x068, 0), (0x060, 1000)]
def kc1 := two { st := .running, ctx := some 0 }
def kc2 := two { st := .switching, ctx := some 0, next := some 1, save := true, saggar0 := [(3, 5)] }
def kc3 := page (two { st := .switching, ctx := some 0, save := true, saggar0 := [(3, 5)] }) [(0x058, 0x40000000)]
def lw (d : Desc) (wt : Wait) (told : Bool) (cs : List Coll := []) : State := let s := work {} d; { s with ctxs := [(0, { s.ctx 0 with window := [{ pos := 5, desc := d, st := .running, step := 1, wait := some wt, told := told }], colls := cs })] }
def lwW (d : Desc) (wt : Wait) (told : Bool) : WinOp := { pos := 5, desc := d, st := .running, step := 1, wait := some wt, told := told }
def dq1 := op [(2,0x48),(24,3)]
def l1 := lw dq1 .queueCredit true
def told_4 : WinOp := (lwW dq1 .queueCredit true)
def l2 := lw dq1 .queueCredit false
def credit_4 : WinOp := (lwW dq1 .queueCredit false)
def l3 := lw (op [(2,0x49),(24,3)]) .queueArrival false
def arrival_4 : WinOp := (lwW (op [(2,0x49),(24,3)]) .queueArrival false)
def l4 := lw (op [(2,0x1A),(26,2),(24,3)]) .page false
def page_4 : WinOp := (lwW (op [(2,0x1A),(26,2),(24,3)]) .page false)
def coll1 : Coll := { pos := 5, desc := 0, opcode := 0x40, tag := 2, seq := 3, epoch := 0, start := 0, team := [0,1], peers := [{ rank := 1, sendBytes := 4, recvBytes := 4 }] }
def l5 := lw (op [(2,0x40)]) .collective false [coll1]
def coll_4 : WinOp := (lwW (op [(2,0x40)]) .collective false)

/-- Obligations.DispatchStartsTheOldest. -/
theorem witness_DispatchStartsTheOldest :
    (full.eventsOver 0 ≥ 4096 ∧ (((full.ctx 0).window.all fun v => !eligible (full.ctx 0).window v) = true)) ∧
    (dfence.pwr.life = Life.ready ∧ dfence.pwr.current = 0 ∧ dfence.pwr.transition = none ∧ (dfence.ctx 0).enabled = true ∧
      (dfence.ctx 0).launch = none ∧ (dfence.ctx 0).step = StepState.running ∧ ringDispatches (dfence.ctx 0) = true ∧
      dfence.eventsOver 0 < 4096 ∧ (List.find? (fun v => eligible (dfence.ctx 0).window v) (dfence.ctx 0).window = some fence_w) ∧
      dfence.headerFault 0 fence_w.desc = none ∧ usesKiln fence_w.desc = false) ∧
    (dkiln.pwr.life = Life.ready ∧ dkiln.pwr.current = 0 ∧ dkiln.pwr.transition = none ∧ (dkiln.ctx 0).enabled = true ∧
      (dkiln.ctx 0).launch = none ∧ (dkiln.ctx 0).step = StepState.running ∧ ringDispatches (dkiln.ctx 0) = true ∧ dkiln.eventsOver 0 < 4096 ∧
      (List.find? (fun v => eligible (dkiln.ctx 0).window v) (dkiln.ctx 0).window = some kiln_w) ∧ dkiln.headerFault 0 kiln_w.desc = none ∧
      usesKiln kiln_w.desc = true ∧ (∀ (k : Nat), k ∈ dkiln.opKilns 0 kiln_w.desc → dkiln.holds k 0 = true)) :=
  by refine ⟨?_, ?_, ?_⟩ <;> decide +kernel

/-- Obligations.KilnsChangeContexts, part 1. -/
theorem witness_KilnsChangeContexts_1 :
    ((ks1.kiln 0).ctx = some 0 ∧ ks1.nextFor 0 0 = some 1 ∧ (ks1.kiln 0).st = KilnState.starving ∧ ks1.pg 0 104 ≠ 0 ∧
      (ks1.kiln 0).since + ks1.pg 0 104 * 1000 ≤ ks1.datum ∧ ((ks1.kiln 0).st = KilnState.running ∨ (ks1.kiln 0).st = KilnState.starving) ∧
      (ks1.kiln 0).takenAt + ks1.pg 0 96 * 1000 ≤ ks1.datum ∧ ks1.priority 1 = ks1.priority 0) ∧
    ((ks3.kiln 0).ctx = some 0 ∧ ks3.nextFor 0 0 = some 1 ∧ ks3.pg 0 104 = 0 ∧ ks3.datum < (ks3.kiln 0).takenAt + ks3.pg 0 96 * 1000) :=
  by refine ⟨?_, ?_⟩ <;> decide +kernel

/-- Obligations.KilnsChangeContexts, part 2. -/
theorem witness_KilnsChangeContexts_2 :
    ((kc1.kiln 0).st ≠ KilnState.switching) ∧
    (((kc2.kiln 0).st = KilnState.switching ∧ kc2.pwr.life = Life.ready ∧ kc2.pwr.current = 0 ∧ ((kc2.kiln 0).next).isSome = true ∧
      SlotReady kc2 ((kc2.kiln 0).next.get (by decide +kernel)) 0 ∧
      (kc2.busyOn ((kc2.kiln 0).next.get (by decide +kernel)) 0 = true ∨ kc2.parks ((kc2.kiln 0).next.get (by decide +kernel)) = false ∧
      kc2.workFor ((kc2.kiln 0).next.get (by decide +kernel)) 0 = true)) ∧
      (∀ (c : Nat), (kc2.kiln 0).save = true → (kc2.kiln 0).ctx = some c → SlotReady kc2 c 0 ∧
      ∀ (b : Nat), b ∈ (kc2.kiln 0).dirty → (b + 1) * 65536 ≤ kc2.residentSize c)) ∧
    (((kc3.kiln 0).st = KilnState.switching ∧ kc3.pwr.life = Life.ready ∧ kc3.pwr.current = 0 ∧ (kc3.kiln 0).next = none) ∧
      (∀ (c : Nat), (kc3.kiln 0).save = true → (kc3.kiln 0).ctx = some c → SlotReady kc3 c 0 ∧
      ∀ (b : Nat), b ∈ (kc3.kiln 0).dirty → (b + 1) * 65536 ≤ kc3.residentSize c)) :=
  ⟨by decide +kernel,
   ⟨by decide +kernel, fun c _ h => (by rw [show (kc2.kiln 0).ctx = some 0 by decide +kernel] at h; cases h; decide +kernel)⟩,
   ⟨by decide +kernel, fun c _ h => (by rw [show (kc3.kiln 0).ctx = some 0 by decide +kernel] at h; cases h; decide +kernel)⟩⟩

/-- Obligations.LongWaitsAreTold. -/
theorem witness_LongWaitsAreTold :
    (l1.winOp 0 5 = some told_4 ∧ told_4.told = true) ∧
    (l2.winOp 0 5 = some credit_4 ∧ credit_4.told = false ∧ credit_4.wait = some Wait.queueCredit) ∧
    (l3.winOp 0 5 = some arrival_4 ∧ arrival_4.told = false ∧ arrival_4.wait = some Wait.queueArrival) ∧
    (l4.winOp 0 5 = some page_4 ∧ page_4.told = false ∧ page_4.wait = some Wait.page) ∧
    (l5.winOp 0 5 = some coll_4 ∧ coll_4.told = false ∧ (l5.ctx 0).coll 5 = some coll1 ∧ (coll1.awaits).isSome = true) :=
  by refine ⟨?_, ?_, ?_, ?_, ?_⟩ <;> decide +kernel

end Sys2Proof.Tests.Dispatching

namespace Sys2Proof.Tests.Dispatching2
open Sys2Proof Sys2Proof.Machine Sys2Proof.Safety Sys2Proof.Tests

def dq (d : Desc) : State := work { window := [{ pos := 4, desc := op [(2,1)], st := .running, step := 1}] } d .waiting
def dbad := dq (op [(2,0x10),(16,1 + (7<<<22))])
def bad_w : WinOp := ({ pos := 5, desc := op [(2,0x10),(16,1+(7<<<22))], st := .waiting, step := 1 } : WinOp)

/-- Obligations.DispatchStartsTheOldest. -/
theorem witness_DispatchStartsTheOldest :
    (dbad.pwr.life = Life.ready ∧ dbad.pwr.current = 0 ∧ dbad.pwr.transition = none ∧ (dbad.ctx 0).enabled = true ∧
      (dbad.ctx 0).launch = none ∧ (dbad.ctx 0).step = StepState.running ∧ ringDispatches (dbad.ctx 0) = true ∧ dbad.eventsOver 0 < 4096 ∧
      (List.find? (fun v => eligible (dbad.ctx 0).window v) (dbad.ctx 0).window = some bad_w) ∧
      dbad.headerFault 0 bad_w.desc = some (16, 16) ∧ (dbad.ctx 0).ring = RingState.active) :=
  by decide +kernel

end Sys2Proof.Tests.Dispatching2
end

