-- ==== Sys2Proof/Tests/Embedding.lean ====
section
/-! SUPPORT. Small states and operands that meet the hypotheses of statements of Obligations.lean, one theorem a statement or part of
one, one bracket a state; what an earlier bracket shows of the same terms is not said again. -/

set_option Elab.async false

namespace Sys2Proof.Tests.Embedding
open Sys2Proof Sys2Proof.Machine Sys2Proof.Safety Sys2Proof.Tests

def wop (fs : List (Nat × Nat)) : WinOp := { pos := 5, desc := op fs, st := .running, step := 1 }
def one (fs : List (Nat × Nat)) (mem : List (Nat × Nat × Nat)) (x : Ctx := {}) : State := blocks (withMem (work x (op fs)) mem) [(11,0,4),(11,8,100)]
def e0 : PEntry := PEntry.mk 1 false false 0x300000 0
def ga := [(2,0x30),(24,1),(28,1),(32,0x13),(36,1),(40,0),(48,50),(56,scr 0x100000),(80,scr 0x100200),(96,scr 0x101000),(104,scr 0x102000),(112,1)]
def gather_2 : State := (one ga [(0x100000,4,2),(0x300080,40,2^300+0x3F803F80)])
def sc := [(2,0x31),(24,1),(28,3),(32,scr 0x100200)]
def od : Machine.Ordinal := { pos := 1, desc := op ga, done := true, rows := [some 2], bagLens := [1]}
def bt : Batch := { handle := 3, slabAddr := scr 0x101000, bufAddr := scr 0x102000, granules := 1, ords := [od], entries := [{table := 0, row := 2, slices := 1, slab := 0, mult := 1}]}
def scatter_2 : State := (one sc [(0x100200,64,2^500+0x3F800000),(0x101000,4,0x3F000000)] { batches := [bt] })
def mg (d : Nat) := [(2,0x32),(24,1),(28,d),(32,scr 0x100000)]
def migSame_2 : State := (one (mg 3) [])
def migSame_3 : WinOp := (wop (mg 3))
def ms (d : Nat) : State := one (mg d) []
def gu (s : State) : Nat × State := (s.takeReserve s.reserveDie).getD (0, s)
def kv (s : State) (d : Nat) : Nat × State := ((gu s).2.takePool d).getD (0, s)
def migTo_3 : WinOp := (wop (mg 1))
def migTo_u : State := (gu (ms 1)).2
def migTo_v : State := (kv (ms 1) 1).2
def an := [(2,0x60),(24,1),(28,0x21),(48,scr 0x100000)]
def announce_2 : State := (one an [(0x100008,8,1)])
def ef : PEntry := PEntry.mk 2 false false 0 0
def announceF_2 : State := (one an [(0x100008,8,1),(0x201000, 8, ef.toNat)])
def cl := [(2,0x61),(24,1),(32,scr 0x100000),(40,scr 0x100100)]
def checkLine_2 : State := (one cl [(0x100008,8,1),(0x300000,8,77)])

/-- Obligations.EmbeddingOperationsComplete. -/
theorem witness_EmbeddingOperationsComplete :
    ((gather_2.upsets = [] ∧ Released gather_2 arg.ctx (wop ga) ∧ Fresh (wop ga) ∧ Dispatched gather_2 arg (wop ga) 48 none ∧
      HasFields (wop ga).desc [(24, 4, 1), (28, 4, 1), (32, 4, 16 + 3), (36, 4, 1), (64, 16, 0), (88, 8, 0), (112, 4, 1), (116, 12, 0)] ∧
      3 < 16 ∧ (gather_2.ctx arg.ctx).strict = false ∧ (∀ (b : Batch), b ∈ (gather_2.ctx arg.ctx).batches → b.handle ≠ 3) ∧
      (∀ (v : WinOp), v ∈ (gather_2.ctx arg.ctx).window → v.pos < arg.pos → opcodeOf v.desc = 48 → v.st = OpState.finished) ∧
      0 < gather_2.entriesFree ∧ InScratch gather_2 arg.ctx ((wop ga).desc.field 56 8) 4 1048576 ∧
      InScratch gather_2 arg.ctx ((wop ga).desc.field 80 8) 64 1049088 ∧ InScratch gather_2 arg.ctx ((wop ga).desc.field 96 8) 64 1052672 ∧
      InScratch gather_2 arg.ctx ((wop ga).desc.field 104 8) 32 1056768) ∧ ((wop ga).desc.field 48 8 ≤ 2 ^ 39 ∧
      gather_2.memNat 1048576 4 < (wop ga).desc.field 48 8 ∧ (wop ga).desc.field 40 8 % 4096 = 0 ∧
      formOf ((wop ga).desc.field 40 8) = Form.state 0 ∧
      formOf ((wop ga).desc.field 40 8 + gather_2.memNat 1048576 4 * 64) = Form.state (0 + gather_2.memNat 1048576 4 * 64) ∧
      alook ((0 + gather_2.memNat 1048576 4 * 64) / 4096) (gather_2.ctx arg.ctx).shadows = none ∧
      InDram gather_2 arg.ctx ((0 + gather_2.memNat 1048576 4 * 64) / 4096) e0 ∧ (1052672 + 64 ≤ e0.frame ∨ e0.frame + 4096 ≤ 1052672))) ∧
    ((scatter_2.upsets = [] ∧ Released scatter_2 arg.ctx (wop sc) ∧ Fresh (wop sc) ∧ Dispatched scatter_2 arg (wop sc) 49 none ∧
      HasFields (wop sc).desc [(24, 4, 1), (28, 4, 3), (40, 8, 0), (52, 76, 0)] ∧ (scatter_2.ctx arg.ctx).strict = false ∧
      (List.find? (fun b => b.handle == 3) (scatter_2.ctx arg.ctx).batches = some bt) ∧ bt.ords = [od] ∧ od.done = true ∧
      od.scattered = false ∧ od.bagLens = [1] ∧ od.rows = [some 2] ∧ (gatherOf od.desc).bags = 1 ∧ (gatherOf od.desc).weight = 0) ∧
      (bits (gatherOf od.desc).flags 7 7 = 0 ∧ InScratch scatter_2 arg.ctx ((wop sc).desc.field 32 8) 64 1049088 ∧
      formOf bt.slabAddr = Form.scratch 1052672 ∧ scatter_2.pg arg.ctx 40 ≤ 1052672 ∧
      (1052672 + (Option.map (fun x => x.slab) (List.find? (fun q => q.table == (gatherOf od.desc).table && q.row == 2) bt.entries)).getD 0 * 64 + 64 ≤ scatter_2.pg arg.ctx 40 + scatter_2.pg arg.ctx 48) ∧
      (inMemory (1052672 + (Option.map (fun x => x.slab) (List.find? (fun q => q.table == (gatherOf od.desc).table && q.row == 2) bt.entries)).getD 0 * 64) 64 = true))) ∧
    (migSame_2.upsets = [] ∧ Released migSame_2 arg.ctx migSame_3 ∧ Fresh migSame_3 ∧ Dispatched migSame_2 arg migSame_3 50 none ∧
      HasFields migSame_3.desc [(24, 4, 1), (28, 4, 3), (40, 88, 0)] ∧ 3 < 4 ∧
      InScratch migSame_2 arg.ctx (migSame_3.desc.field 32 8) 8 1048576 ∧ (migSame_2.ctx arg.ctx).migrations = [] ∧
      (migSame_2.ctx arg.ctx).maskFrames = [] ∧ (migSame_2.entryAddr arg.ctx (migSame_2.memNat 1048576 8)).isSome = true ∧
      ((List.map (fun y => y.snd.migrations.length) migSame_2.ctxs).sum < 1048576) ∧
      migSame_2.firedEntry arg.ctx (migSame_2.memNat 1048576 8) = some e0 ∧ EntryInMemory migSame_2 arg.ctx (migSame_2.memNat 1048576 8) ∧
      inClass e0 3 = true) ∧
    (((ms 1).upsets = [] ∧ Released (ms 1) arg.ctx migTo_3 ∧ Fresh migTo_3 ∧ Dispatched (ms 1) arg migTo_3 50 none ∧
      HasFields migTo_3.desc [(24, 4, 1), (28, 4, 1), (40, 88, 0)] ∧ 1 < 4 ∧ InScratch (ms 1) arg.ctx (migTo_3.desc.field 32 8) 8 1048576 ∧
      ((ms 1).ctx arg.ctx).migrations = [] ∧ ((ms 1).ctx arg.ctx).maskFrames = [] ∧
      ((ms 1).entryAddr arg.ctx ((ms 1).memNat 1048576 8)).isSome = true ∧
      ((List.map (fun y => y.snd.migrations.length) (ms 1).ctxs).sum < 1048576) ∧
      (ms 1).firedEntry arg.ctx ((ms 1).memNat 1048576 8) = some e0 ∧ EntryInMemory (ms 1) arg.ctx ((ms 1).memNat 1048576 8) ∧
      inClass e0 1 = false) ∧ (1 < 2 ∧ (ms 1).takeReserve (ms 1).reserveDie = some ((gu (ms 1)).fst, migTo_u) ∧
      migTo_u.takePool 1 = some ((kv (ms 1) 1).fst, migTo_v))) ∧
    ((announce_2.upsets = [] ∧ Released announce_2 arg.ctx (wop an) ∧ Fresh (wop an) ∧ Dispatched announce_2 arg (wop an) 96 none ∧
      HasFields (wop an).desc [(24, 4, 1), (28, 4, 33), (32, 16, 0), (56, 72, 0)] ∧
      InScratch announce_2 arg.ctx ((wop an).desc.field 48 8) 16 1048576 ∧ announce_2.memNat (1048576 + 8) 8 = 1 ∧ 1 ≤ announce_2.blk 11 0 ∧
      announce_2.firedEntry arg.ctx (announce_2.memNat 1048576 8) = some e0 ∧ EntryInMemory announce_2 arg.ctx (announce_2.memNat 1048576 8) ∧
      announce_2.announced arg.ctx (announce_2.memNat 1048576 8) = false ∧ announce_2.heldParcels < announce_2.blk 11 8 ∧
      announce_2.tier.promoq.length < announce_2.freePool + announce_2.freeable ∧ announce_2.tier.dropped < 2 ^ 32) ∧ (e0.where_ = 1)) ∧
    (announceF_2.upsets = [] ∧ Released announceF_2 arg.ctx (wop an) ∧ Dispatched announceF_2 arg (wop an) 96 none ∧
      InScratch announceF_2 arg.ctx ((wop an).desc.field 48 8) 16 1048576 ∧ announceF_2.memNat (1048576 + 8) 8 = 1 ∧
      1 ≤ announceF_2.blk 11 0 ∧ announceF_2.firedEntry arg.ctx (announceF_2.memNat 1048576 8) = some ef ∧
      EntryInMemory announceF_2 arg.ctx (announceF_2.memNat 1048576 8) ∧
      announceF_2.announced arg.ctx (announceF_2.memNat 1048576 8) = false ∧ announceF_2.heldParcels < announceF_2.blk 11 8 ∧
      announceF_2.tier.promoq.length < announceF_2.freePool + announceF_2.freeable ∧ announceF_2.tier.dropped < 2 ^ 32 ∧ ef.where_ = 2 ∧
      ef.lost = false) ∧
    (checkLine_2.upsets = [] ∧ Released checkLine_2 arg.ctx (wop cl) ∧ Fresh (wop cl) ∧ Dispatched checkLine_2 arg (wop cl) 97 none ∧
      HasFields (wop cl).desc [(24, 8, 1), (48, 80, 0)] ∧ InScratch checkLine_2 arg.ctx ((wop cl).desc.field 32 8) 16 1048576 ∧
      InScratch checkLine_2 arg.ctx ((wop cl).desc.field 40 8) 16 1048832 ∧ checkLine_2.memNat (1048576 + 8) 8 = 1 ∧
      InDram checkLine_2 arg.ctx (checkLine_2.memNat 1048576 8) e0) :=
  by refine ⟨⟨by decide +kernel, by decide +kernel⟩, ⟨by decide +kernel, by decide +kernel⟩, ?_, ⟨by decide +kernel, by decide +kernel⟩, ⟨by decide +kernel, by decide +kernel⟩, ?_, ?_⟩ <;> decide +kernel

end Sys2Proof.Tests.Embedding
end

