-- ==== Sys2Proof/Tests/Entry.lean ====
section
/-! SUPPORT. Small states and operands that meet the hypotheses of statements of Obligations.lean, one theorem a statement or part of
one, one bracket a state; what an earlier bracket shows of the same terms is not said again. -/

set_option Elab.async false

namespace Sys2Proof.Tests.Entry
open Sys2Proof Sys2Proof.Machine Sys2Proof.Safety Sys2Proof.Tests

def a0 : State := {}
def a1 : State := up live
def a2 : State := {up live with dat := { slew := 3}}
def a3 : State := {up live with dat := { slew := -3}}
def d1 := up { live with cmdProducer := 5, retirePos := 5, fetchPos := 5, eventPos := 7, eventConsumer := 3, tallyDone := 100, tallyConsumer := 50 }
def low_3 : Word := (5 : Word)
def top_3 : Word := (69 : Word)
def d2 := up { live with ring := .halted, retirePos := 9, fetchPos := 12 }
def d3 := up { live with ring := .torn, retirePos := 9, fetchPos := 12 }
def resume_3 : Word := (9 : Word)
def torn_3 : Word := (12 : Word)
def hit_4 : Word := (101:Word)
def halted_4 : Word := (10:Word)
def a5 : State := { up live with pwr := { life := .ready, failedAt := some 5 }, datum := 2000004 }

/-- Obligations.EmptyQueueTicks. -/
theorem witness_EmptyQueueTicks :
    (a0.pending = [] ∧ a0.pwr.life = Life.off) ∧
    (a1.pending = [] ∧ a1.pwr.life ≠ Life.off ∧ a1.pwr.failedAt = none ∧ (a1.dat.slew = 0 ∨ a1.dat.phase ≠ 0)) ∧
    (a2.pending = [] ∧ a2.pwr.life ≠ Life.off ∧ a2.pwr.failedAt = none ∧ a2.dat.phase = 0 ∧ 0 < a2.dat.slew) ∧
    (a3.pending = [] ∧ a3.pwr.life ≠ Life.off ∧ a3.pwr.failedAt = none ∧ a3.dat.phase = 0 ∧ a3.dat.slew < 0) ∧
    (a5.pending = [] ∧ a5.pwr.life ≠ Life.off ∧ a5.pwr.failedAt = some 5 ∧ a5.dat.slew = 0 ∧ a5.datum + 1 < 2 ^ 64) :=
  by refine ⟨?_, ?_, ?_, ?_, ?_⟩ <;> decide +kernel

/-- Obligations.DoorbellsTakeEffect, part 1. -/
theorem witness_DoorbellsTakeEffect_1 :
    ((d1.ctx 0).enabled = true ∧ (d1.ctx 0).cmdProducer ≤ BitVec.toNat low_3 ∧ BitVec.toNat low_3 ≤ (d1.ctx 0).retirePos + d1.cmdEntries 0 ∧
      (d1.ctx 0).eventConsumer ≤ BitVec.toNat low_3 ∧ BitVec.toNat low_3 ≤ (d1.ctx 0).eventPos) ∧
    ((d1.ctx 0).tallyConsumer ≤ BitVec.toNat top_3 ∧ BitVec.toNat top_3 ≤ (d1.ctx 0).tallyDone) ∧
    ((d2.ctx 0).enabled = true ∧ (d2.ctx 0).ring = RingState.halted ∧ BitVec.toNat resume_3 = (d2.ctx 0).retirePos) ∧
    ((d3.ctx 0).enabled = true ∧ (d3.ctx 0).ring = RingState.torn ∧ BitVec.toNat torn_3 = (d3.ctx 0).fetchPos) :=
  by refine ⟨?_, ?_, ?_, ?_⟩ <;> decide +kernel

/-- Obligations.DoorbellsTakeEffect, part 2. -/
theorem witness_DoorbellsTakeEffect_2 :
    ((d1.ctx 0).enabled = true ∧ BitVec.toNat (2 : Word) < (d1.ctx 0).cmdProducer ∧ BitVec.toNat (2 : Word) < (d1.ctx 0).eventConsumer ∧
      BitVec.toNat (2 : Word) < (d1.ctx 0).tallyConsumer) :=
  by decide +kernel

/-- Obligations.DoorbellsTakeEffect, part 3. -/
theorem witness_DoorbellsTakeEffect_3 :
    ((d1.ctx 0).enabled = true ∧ 4 ≠ 8 ∧
      ((d1.ctx 0).ring = RingState.active ∨ (d1.ctx 0).ring = RingState.blocked ∨ (d1.ctx 0).ring = RingState.stalled)) ∧
    ((d1.ctx 0).cmdProducer ≤ BitVec.toNat hit_4 ∧ (d1.ctx 0).retirePos + d1.cmdEntries 0 < BitVec.toNat hit_4 ∧
      (d1.ctx 0).eventConsumer ≤ BitVec.toNat hit_4 ∧ (d1.ctx 0).eventPos < BitVec.toNat hit_4 ∧
      (d1.ctx 0).tallyConsumer ≤ BitVec.toNat hit_4 ∧ (d1.ctx 0).tallyDone < BitVec.toNat hit_4) ∧
    ((d2.ctx 0).enabled = true ∧ (d2.ctx 0).ring = RingState.halted ∧ BitVec.toNat halted_4 ≠ (d2.ctx 0).retirePos) ∧
    ((d3.ctx 0).enabled = true ∧ (d3.ctx 0).ring = RingState.torn ∧ BitVec.toNat (9 : Word) ≠ (d3.ctx 0).fetchPos) :=
  by refine ⟨?_, ?_, ?_, ?_⟩ <;> decide +kernel

end Sys2Proof.Tests.Entry
end

