-- ==== Sys2Proof/Tests/FabricData.lean ====
section
/-! SUPPORT. Small states and operands that meet the hypotheses of statements of Obligations.lean, one theorem a statement or part of
one, one bracket a state; what an earlier bracket shows of the same terms is not said again. -/

set_option Elab.async false

namespace Sys2Proof.Tests.FabricData
open Sys2Proof Sys2Proof.Machine Sys2Proof.Safety Sys2Proof.Tests

def a0 : State := { blocks (prt (collS 0 2)) [(4,0,2^15),(4,0x200,8),(4,0x208,9)] with datum := 5000 }
def a1 : State := after (.allReduce arg) a0
def pR : Packet := dat 0x20 (.ready 0 0 0 1 0 0x40 4 4 5100)
def a2 : State := after (.ready pR) a1
def pD : Packet := dat 0x21 (.data 0 0 0 1 0 0 (leBytes 4 0x40000000))
def a3 : State := after (.data pD) a2
def pF : Packet := dat 0x22 (.finish 0 0 0 1 0 4)
def eR : EarlyReady := { tag := 0, seq := 0, rank := 1, opcode := 0x40, sendBytes := 4, recvBytes := 4, start := 5100, epoch := 0, step := 1, attempt := 0 }
def noPeer : Peer := { rank := 0, sendBytes := 0, recvBytes := 0 }
def kOf (s : State) := (s.ctx 0).colls.headD (({ pos := 0, desc := 0, opcode := 0, tag := 0, seq := 0, epoch := 0, start := 0, team := [] }) : Coll)
def mr (s : State) : State := okOr (s.matchReady 0 (kOf s) eR) s
def rnR (s : State) := ((readyPass 1 5100).run (startColl (mr s) { ctx := 0, pos := (kOf s).pos } (collW 0))).2
def a2' := a2.modColl 0 5 fun k => { k.modPeer 1 (fun q =>
                { q with got := q.got + 4, buf := Memory.putBytes q.buf 0 (leBytes 4 0x40000000), marks := q.marks ++ [(q.got + 4, k.clock)] })
              with clock := k.clock + 1 }
def data_r : Run := (collPass.run (startColl a2' arg (collW 0))).2
def a3' := a3.modColl 0 5 fun k => k.modPeer 1 fun q => { q with finGot := true }
def fin_r : Run := (collPass.run (startColl a3' arg (collW 0))).2
def a2f := after (.finish pF) a2
def a2f' := a2f.modColl 0 5 fun k => { k.modPeer 1 (fun q =>
                { q with got := q.got + 4, buf := Memory.putBytes q.buf 0 (leBytes 4 0x40000000), marks := q.marks ++ [(q.got + 4, k.clock)] })
              with clock := k.clock + 1 }
def datalast_r : Run := (collPass.run (startColl a2f' arg (collW 0))).2
def datae_1 : Packet := (dat 0x21 (.data 0 0 0 1 3 0 (leBytes 4 0x40000000)))
def st (x : Ctx) : State := { job { x with step := .running, fired := 4, attempt := 2 } 0 2 with datum := 5000 }
def stP : State := (st {}).setPort ((primaryOf ((st {}).route 1)).getD 0) { (st {}).port ((primaryOf ((st {}).route 1)).getD 0) with stale := some (100, 3) }
def s20_1 : Packet := (dat 0x20 (.ready 0 0 0 4 0 0x40 4 4 5100))
def s20b_1 : Packet := (dat 0x20 (.ready 0 0 1 5 0 0x40 4 4 5100))
def s21_1 : Packet := (dat 0x21 (.data 0 0 0 4 0 0 [1,2]))
def s21b_1 : Packet := (dat 0x21 (.data 0 0 0 4 0 0 [1,2]))
def s22_1 : Packet := (dat 0x22 (.finish 0 0 0 4 0 0 ))
def s22b_1 : Packet := (dat 0x22 (.finish 0 0 0 4 0 0 ))
def s28_1 : Packet := (dat 0x28 (.queueData 3 0 4 0 0 [1,2] ))
def s28b_1 : Packet := (dat 0x28 (.queueData 3 0 4 0 0 [1,2] ))
def s29_1 : Packet := (dat 0x29 (.queueCredit 3 0 4 0 1 ))
def s29b_1 : Packet := (dat 0x29 (.queueCredit 3 0 4 0 1 ))
def r1_1 : Packet := (dat 0x20 (.ready 0 0 2 6 0 0x40 4 4 5100))
def r2_1 : Packet := (dat 0x20 (.ready 0 0 2 5 0 0x40 4 4 5100))
def d1_1 : Packet := (dat 0x21 (.data 0 0 2 5 0 0 [1,2]))
def f1_1 : Packet := (dat 0x22 (.finish 0 0 2 5 0 0 ))
def q1 : State := withMem (page (st {}) [(0x78,0x600000)]) [(0x600060,8,0x0000200002010001),(0x600068,8,0x800000700000)]
def qr := ((q1.queueRec 0 3).get (by decide +kernel))
def q1_1 : Packet := (dat 0x28 (.queueData 3 2 5 1 8 [1,2,3] ))
def c1_1 : Packet := (dat 0x29 (.queueCredit 3 2 5 1 1 ))
def c0 : State := { blocks (prt (collS 2 2)) [(4,0,2^15),(4,0x200,8),(4,0x208,9)] with datum := 5000 }
def g1 : State := after (.allGather arg) c0
def gD : Packet := dat 0x21 (.data 0 0 0 1 0 0 (leBytes 2 0x4000))
def gp (s : State) (f : Peer → Peer) : State := s.modColl 0 5 fun k => k.modPeer 1 f
def gF0 : State := gp g1 fun q => { q with ready := true, finSent := true, sent := true, got := 4, buf := Memory.putBytes q.buf 0 (leBytes 4 0x40000000), marks := [(4, 1)] }
def gdata_pr : Peer := (kOf g1).peers.headD noPeer
def gfin_pr : Peer := (kOf gF0).peers.headD noPeer

/-- Obligations.FabricDataIsTaken. -/
theorem witness_FabricDataIsTaken :
    (((a1.pwr.life = Life.ready ∧ a1.isMine pR = true ∧ a1.jobPacket pR = some (0, 1) ∧ pR.type = 32 ∧
      pR.body = PBody.ready 0 0 0 1 0 64 4 4 5100 ∧ a1.age 0 1 0 = Age.current ∧ (a1.ctx 0).collOf 0 0 = some (kOf a1) ∧
      (a1.winOp 0 (kOf a1).pos).isSome = true ∧ ((a1.winOp 0 (kOf a1).pos).get (by decide +kernel)).st = OpState.running) ∧
      (a1.matchReady 0 (kOf a1) { tag := 0, seq := 0, rank := 1, opcode := 64, sendBytes := 4, recvBytes := 4, start := 5100, epoch := 0, step := 1, attempt := 0 } = Except.ok (mr a1)) ∧
      (ExceptT.run (readyPass 1 5100) (startColl (mr a1) { ctx := 0, pos := (kOf a1).pos } ((a1.winOp 0 (kOf a1).pos).get (by decide +kernel))) = (Except.ok false, rnR a1))) ∧
     ((a2.pwr.life = Life.ready ∧ a2.isMine pD = true ∧ a2.jobPacket pD = some (0, 1) ∧ pD.type = 33 ∧
      pD.body = PBody.data 0 0 0 1 0 0 (leBytes 4 1073741824) ∧ a2.age 0 1 0 = Age.current ∧ (a2.ctx 0).collOf 0 0 = some (kOf a2) ∧
      (a2.winOp 0 (kOf a2).pos).isSome = true ∧ ((a2.winOp 0 (kOf a2).pos).get (by decide +kernel)).st = OpState.running ∧
      0 = (kOf a2).epoch) ∧
      (ExceptT.run collPass (startColl a2' { ctx := 0, pos := (kOf a2).pos } ((a2.winOp 0 (kOf a2).pos).get (by decide +kernel))) = (Except.ok false, data_r))) ∧
     ((a3.pwr.life = Life.ready ∧ a3.isMine pF = true ∧ a3.jobPacket pF = some (0, 1) ∧ pF.type = 34 ∧ pF.body = PBody.finish 0 0 0 1 0 4 ∧
      a3.age 0 1 0 = Age.current ∧ (a3.ctx 0).collOf 0 0 = some (kOf a3) ∧ (a3.winOp 0 (kOf a3).pos).isSome = true ∧
      ((a3.winOp 0 (kOf a3).pos).get (by decide +kernel)).st = OpState.running ∧ fin_r.writes = 0 ∧ fin_r.events = [] ∧
      Released fin_r.s 0 ((a3.winOp 0 (kOf a3).pos).get (by decide +kernel))) ∧
      (ExceptT.run collPass (startColl a3' { ctx := 0, pos := (kOf a3).pos } ((a3.winOp 0 (kOf a3).pos).get (by decide +kernel))) = (Except.ok true, fin_r))) ∧
     ((a2f.pwr.life = Life.ready ∧ a2f.isMine pD = true ∧ a2f.jobPacket pD = some (0, 1) ∧ a2f.age 0 1 0 = Age.current ∧
      (a2f.ctx 0).collOf 0 0 = some (kOf a2f) ∧ (a2f.winOp 0 (kOf a2f).pos).isSome = true ∧
      ((a2f.winOp 0 (kOf a2f).pos).get (by decide +kernel)).st = OpState.running ∧ 0 = (kOf a2f).epoch ∧ datalast_r.writes = 0 ∧
      datalast_r.events = [] ∧ Released datalast_r.s 0 ((a2f.winOp 0 (kOf a2f).pos).get (by decide +kernel))) ∧
      (ExceptT.run collPass (startColl a2f' { ctx := 0, pos := (kOf a2f).pos } ((a2f.winOp 0 (kOf a2f).pos).get (by decide +kernel))) = (Except.ok true, datalast_r))) ∧
     (a2.isMine datae_1 = true ∧ a2.jobPacket datae_1 = some (0, 1) ∧ datae_1.type = 33 ∧
      datae_1.body = PBody.data 0 0 0 1 3 0 (leBytes 4 1073741824) ∧ 3 ≠ (kOf a2).epoch ∧ (a2.ctx 0).enabled = true ∧
      (a2.ctx 0).step = StepState.running ∧ (a2.ctx 0).loading = false ∧ (∀ (o : WinOp), o ∈ (a2.ctx 0).window → o.adderExc = 0)) ∧
     ((st { }).pwr.life = Life.ready ∧ (st { }).isMine s20_1 = true ∧ (st { }).jobPacket s20_1 = some (0, 1) ∧ s20_1.type = 32 ∧
      s20_1.body = PBody.ready 0 0 0 4 0 64 4 4 5100 ∧ (st { }).age 0 4 0 = Age.behind ∧
      ((st { }).port ((primaryOf ((st { }).route s20_1.src)).getD 0)).stale = none) ∧
     (stP.pwr.life = Life.ready ∧ stP.isMine s20b_1 = true ∧ stP.jobPacket s20b_1 = some (0, 1) ∧ s20b_1.type = 32 ∧
      s20b_1.body = PBody.ready 0 0 1 5 0 64 4 4 5100 ∧ stP.age 0 5 1 = Age.behind ∧
      (stP.port ((primaryOf (stP.route s20b_1.src)).getD 0)).stale = some (100, 3) ∧ stP.datum < 100 + 1000000)) ∧
    (((st { }).isMine s21_1 = true ∧ (st { }).jobPacket s21_1 = some (0, 1) ∧ s21_1.type = 33 ∧ s21_1.body = PBody.data 0 0 0 4 0 0 [1, 2] ∧
      ((st { }).port ((primaryOf ((st { }).route s21_1.src)).getD 0)).stale = none) ∧
     (stP.isMine s21b_1 = true ∧ stP.jobPacket s21b_1 = some (0, 1) ∧ s21b_1.type = 33 ∧ s21b_1.body = PBody.data 0 0 0 4 0 0 [1, 2] ∧
      stP.age 0 4 0 = Age.behind ∧ (stP.port ((primaryOf (stP.route s21b_1.src)).getD 0)).stale = some (100, 3)) ∧
     ((st { }).isMine s22_1 = true ∧ (st { }).jobPacket s22_1 = some (0, 1) ∧ s22_1.type = 34 ∧ s22_1.body = PBody.finish 0 0 0 4 0 0 ∧
      ((st { }).port ((primaryOf ((st { }).route s22_1.src)).getD 0)).stale = none) ∧
     (stP.isMine s22b_1 = true ∧ stP.jobPacket s22b_1 = some (0, 1) ∧ s22b_1.type = 34 ∧ s22b_1.body = PBody.finish 0 0 0 4 0 0 ∧
      (stP.port ((primaryOf (stP.route s22b_1.src)).getD 0)).stale = some (100, 3)) ∧
     ((st { }).isMine s28_1 = true ∧ (st { }).jobPacket s28_1 = some (0, 1) ∧ s28_1.type = 40 ∧
      s28_1.body = PBody.queueData 3 0 4 0 0 [1, 2] ∧ ((st { }).port ((primaryOf ((st { }).route s28_1.src)).getD 0)).stale = none) ∧
     (stP.isMine s28b_1 = true ∧ stP.jobPacket s28b_1 = some (0, 1) ∧ s28b_1.type = 40 ∧ s28b_1.body = PBody.queueData 3 0 4 0 0 [1, 2] ∧
      (stP.port ((primaryOf (stP.route s28b_1.src)).getD 0)).stale = some (100, 3)) ∧
     ((st { }).isMine s29_1 = true ∧ (st { }).jobPacket s29_1 = some (0, 1) ∧ s29_1.type = 41 ∧ s29_1.body = PBody.queueCredit 3 0 4 0 1 ∧
      ((st { }).port ((primaryOf ((st { }).route s29_1.src)).getD 0)).stale = none)) ∧
    ((stP.isMine s29b_1 = true ∧ stP.jobPacket s29b_1 = some (0, 1) ∧ s29b_1.type = 41 ∧ s29b_1.body = PBody.queueCredit 3 0 4 0 1 ∧
      (stP.port ((primaryOf (stP.route s29b_1.src)).getD 0)).stale = some (100, 3)) ∧
     ((st { }).isMine r1_1 = true ∧ (st { }).jobPacket r1_1 = some (0, 1) ∧ r1_1.type = 32 ∧ r1_1.body = PBody.ready 0 0 2 6 0 64 4 4 5100 ∧
      ((st { }).age 0 6 2 = Age.ahead ∨ (st { }).age 0 6 2 = Age.current ∧ ((st { }).ctx 0).collOf 0 0 = none) ∧
      ((st { }).ctx 0).earlyReady.length < 64) ∧
     ((st { }).isMine r2_1 = true ∧ (st { }).jobPacket r2_1 = some (0, 1) ∧ r2_1.type = 32 ∧ r2_1.body = PBody.ready 0 0 2 5 0 64 4 4 5100 ∧
      ((st { }).age 0 5 2 = Age.ahead ∨ (st { }).age 0 5 2 = Age.current ∧ ((st { }).ctx 0).collOf 0 0 = none)) ∧
     ((st { }).isMine d1_1 = true ∧ (st { }).jobPacket d1_1 = some (0, 1) ∧ d1_1.type = 33 ∧ d1_1.body = PBody.data 0 0 2 5 0 0 [1, 2] ∧
      (st { }).age 0 5 2 = Age.current ∧ ((st { }).ctx 0).collOf 0 0 = none) ∧
     ((st { }).isMine f1_1 = true ∧ (st { }).jobPacket f1_1 = some (0, 1) ∧ f1_1.type = 34 ∧ f1_1.body = PBody.finish 0 0 2 5 0 0) ∧
     (q1.pwr.life = Life.ready ∧ q1.isMine q1_1 = true ∧ q1.jobPacket q1_1 = some (0, 1) ∧ q1_1.type = 40 ∧
      q1_1.body = PBody.queueData 3 2 5 1 8 [1, 2, 3] ∧ q1.age 0 5 2 = Age.current ∧ q1.queueRec 0 3 = some qr ∧ qr.recv = true ∧
      qr.peer = 1 ∧ q1.upsets = [] ∧ [1, 2, 3] ≠ [] ∧
      inMemory (bits (qr.slot (((q1.ctx 0).queue 3).releases + (1 + 65536 - ((q1.ctx 0).queue 3).releases % 65536) % 65536)) 0 40 + 8) [1, 2, 3].length = true ∧
      inMemory (q1.pg 0 120 + 32 * 3) 32 = true ∧
      q1.trayOf (qr.slot (((q1.ctx 0).queue 3).releases + (1 + 65536 - ((q1.ctx 0).queue 3).releases % 65536) % 65536)) = none) ∧
     (q1.isMine c1_1 = true ∧ q1.jobPacket c1_1 = some (0, 1) ∧ c1_1.type = 41 ∧ c1_1.body = PBody.queueCredit 3 2 5 1 1)) ∧
    (((g1.pwr.life = Life.ready ∧ g1.isMine gD = true ∧ g1.jobPacket gD = some (0, 1) ∧ gD.type = 33 ∧
      gD.body = PBody.data 0 0 0 1 0 0 (leBytes 2 16384) ∧ g1.age 0 1 0 = Age.current ∧ (g1.ctx 0).collOf 0 0 = some (kOf g1) ∧
      (g1.ctx 0).coll (kOf g1).pos = some (kOf g1) ∧ (g1.winOp 0 (kOf g1).pos).isSome = true ∧
      ((g1.winOp 0 (kOf g1).pos).get (by decide +kernel)).st = OpState.running ∧
      opcodeOf ((g1.winOp 0 (kOf g1).pos).get (by decide +kernel)).desc = 66 ∧ 0 = (kOf g1).epoch ∧ (kOf g1).peers = [gdata_pr] ∧
      gdata_pr.rank = 1) ∧ (gdata_pr.ready = false ∧ gdata_pr.finSent = false ∧
      gdata_pr.got + (leBytes 2 16384).length < gdata_pr.recvBytes)) ∧
     ((gF0.pwr.life = Life.ready ∧ gF0.isMine pF = true ∧ gF0.jobPacket pF = some (0, 1) ∧ gF0.age 0 1 0 = Age.current ∧
      (gF0.ctx 0).collOf 0 0 = some (kOf gF0) ∧ (gF0.ctx 0).coll (kOf gF0).pos = some (kOf gF0) ∧ (gF0.winOp 0 (kOf gF0).pos).isSome = true ∧
      ((gF0.winOp 0 (kOf gF0).pos).get (by decide +kernel)).st = OpState.running ∧
      opcodeOf ((gF0.winOp 0 (kOf gF0).pos).get (by decide +kernel)).desc = 66 ∧ (kOf gF0).opcode = 66 ∧ (kOf gF0).peers = [gfin_pr] ∧
      gfin_pr.rank = 1 ∧ gfin_pr.finSent = true ∧ gfin_pr.sent = true) ∧ ((kOf gF0).events = [] ∧ gF0.blk 4 56 = 0 ∧
      Released gF0 0 ((gF0.winOp 0 (kOf gF0).pos).get (by decide +kernel))))) :=
  ⟨by refine ⟨⟨by decide +kernel, okOr_eq (by decide +kernel), ends_eq (by decide +kernel)⟩, ⟨by decide +kernel, ends_eq (by decide +kernel)⟩, ⟨by decide +kernel, ends_eq (by decide +kernel)⟩, ⟨by decide +kernel, ends_eq (by decide +kernel)⟩, ?_, ?_, ?_⟩ <;> decide +kernel,
   by refine ⟨?_, ?_, ?_, ?_, ?_, ?_, ?_⟩ <;> decide +kernel,
   by refine ⟨?_, ?_, ?_, ?_, ?_, ?_, ?_⟩ <;> decide +kernel,
   ⟨⟨by decide +kernel, by decide +kernel⟩,
   ⟨by decide +kernel, by decide +kernel⟩⟩⟩

end Sys2Proof.Tests.FabricData
end

