-- ==== Sys2Proof/Tests/Firing.lean ====
section
/-! SUPPORT. Small states and operands that meet the hypotheses of statements of Obligations.lean, one theorem a statement or part of
one, one bracket a state; what an earlier bracket shows of the same terms is not said again. -/

set_option Elab.async false

namespace Sys2Proof.Tests.Firing
open Sys2Proof Sys2Proof.Machine Sys2Proof.Safety Sys2Proof.Tests

/-- member of rank r of n, context 0, grid r -/
def mem_ (s : State) (r n : Nat) : State := blocks (withMem (page s [(0x038, 0x500000)]) [(0x500000,2,7),(0x500002,2,n),(0x500004,2,r),(0x500040,8,0x0003000200010000)]) [(4,0,2^15 + r), (0,0x20,100),(4,0x200,8),(4,0x208,9),(4,0x210,10),(4,0x218,11)]
def prt (s : State) : State := { s with ports := (List.range 4).map fun i => (i, ({ st := .up, lanes := 15 } : Port)) }
def job (x : Ctx) (r n : Nat) : State := prt (mem_ (up { x with enabled := true }) r n)
def ctl (ty r step : Nat) (d orig ev dig cx : Nat) (dest : Nat) : Packet := { dest := dest, src := r, vc := 0, type := ty, slots := 1, hops := 0, job := 7, body := .control step d orig ev r 0 dig cx }
def b1 := job { step := .bent, selfBent := true, fired := 3 } 0 2
def leader_1 : Packet := (ctl 1 1 4 0 0 0 0 0 0)
def old_1 : Packet := (ctl 1 1 3 0 0 0 0 0 0)
def b2 := job { step := .bent, selfBent := true, fired := 3 } 0 3
def wait_1 : Packet := (ctl 1 1 4 0 0 0 0 0 0)
def b3 := job { step := .bent, selfBent := true, fired := 3 } 1 10
def mid_1 : Packet := (ctl 1 9 4 0 0 0 0 0 1)
def fs (st : StepState) : State := { job { step := st, fired := 3, coneAt := some (5,0,7) } 1 10 with datum := 1000 }
def fno_1 : Packet := (ctl 3 0 5 2000 0 0 0 0 1)
def fno_2 : State := (fs .bent)
def farm_1 : Packet := (ctl 3 0 4 2000 0 0 0 0 1)
def farm_2 : State := (fs .bent)
def flate_1 : Packet := (ctl 3 0 4 500 0 0 0 0 1)
def flate_2 : State := (fs .bent)
def fa_1 : Packet := (ctl 3 0 4 500 0 0 0 0 1)
def fa_2 : State := (fs .armed)
def fr_1 : Packet := (ctl 3 0 4 500 0 0 0 0 1)
def fr_2 : State := (fs .running)
def fdoubt_1 : Packet := (ctl 3 0 4 2000 0 0 0 0 1)
def fdoubt_2 : State := (fs .inDoubt)
def sw (x : Ctx) : State := { job { x with step := .armed, fired := 3, fireD := some 900, shadows := [(1, {frame := 0x300000, filled := false, old := some 0x301000})], bentFrom := [(1,4)], pendingRegs := [(pageAddr 0 0x60, 3)] } 0 2 with datum := 1000 }
def s3_3 : State := { sw {} with datum := 800 }

/-- Obligations.FiringSwitches, part 3. -/
theorem witness_FiringSwitches_3 :
    ((b1.control leader_1 1).isSome = true ∧ b1.step (b1.control leader_1 1).get!.fst ≤ (b1.control leader_1 1).get!.snd.fst ∧
      (b1.ctx (b1.control leader_1 1).get!.fst).bentFrom.contains ((b1.control leader_1 1).get!.snd.snd.snd.snd.snd.fst, (b1.control leader_1 1).get!.snd.fst) = false ∧
      (b1.ctx (b1.control leader_1 1).get!.fst).selfBent = true ∧ (b1.ctx (b1.control leader_1 1).get!.fst).step = StepState.bent ∧
      (b1.ctx (b1.control leader_1 1).get!.fst).bentSent = false ∧
      (((treeChildren (b1.rank (b1.control leader_1 1).get!.fst) (b1.members (b1.control leader_1 1).get!.fst)).all fun r => ((b1.ctx (b1.control leader_1 1).get!.fst).bentFrom ++ [((b1.control leader_1 1).get!.snd.snd.snd.snd.snd.fst, (b1.control leader_1 1).get!.snd.fst)]).contains (r, b1.step (b1.control leader_1 1).get!.fst)) = true) ∧
      b1.rank (b1.control leader_1 1).get!.fst = 0) ∧
    ((b1.control old_1 1).isSome = true ∧
      ((b1.control old_1 1).get!.snd.fst < b1.step (b1.control old_1 1).get!.fst ∨ (b1.ctx (b1.control old_1 1).get!.fst).bentFrom.contains ((b1.control old_1 1).get!.snd.snd.snd.snd.snd.fst, (b1.control old_1 1).get!.snd.fst) = true)) ∧
    ((b2.control wait_1 1).isSome = true ∧ b2.step (b2.control wait_1 1).get!.fst ≤ (b2.control wait_1 1).get!.snd.fst ∧
      (b2.ctx (b2.control wait_1 1).get!.fst).bentFrom.contains ((b2.control wait_1 1).get!.snd.snd.snd.snd.snd.fst, (b2.control wait_1 1).get!.snd.fst) = false ∧
      ((b2.ctx (b2.control wait_1 1).get!.fst).selfBent = false ∨ ((treeChildren (b2.rank (b2.control wait_1 1).get!.fst) (b2.members (b2.control wait_1 1).get!.fst)).all fun r => ((b2.ctx (b2.control wait_1 1).get!.fst).bentFrom ++ [((b2.control wait_1 1).get!.snd.snd.snd.snd.snd.fst, (b2.control wait_1 1).get!.snd.fst)]).contains (r, b2.step (b2.control wait_1 1).get!.fst)) = false)) ∧
    ((b3.control mid_1 1).isSome = true ∧ b3.step (b3.control mid_1 1).get!.fst ≤ (b3.control mid_1 1).get!.snd.fst ∧
      (b3.ctx (b3.control mid_1 1).get!.fst).bentFrom.contains ((b3.control mid_1 1).get!.snd.snd.snd.snd.snd.fst, (b3.control mid_1 1).get!.snd.fst) = false ∧
      (b3.ctx (b3.control mid_1 1).get!.fst).selfBent = true ∧ (b3.ctx (b3.control mid_1 1).get!.fst).step = StepState.bent ∧
      (b3.ctx (b3.control mid_1 1).get!.fst).bentSent = false ∧
      (((treeChildren (b3.rank (b3.control mid_1 1).get!.fst) (b3.members (b3.control mid_1 1).get!.fst)).all fun r => ((b3.ctx (b3.control mid_1 1).get!.fst).bentFrom ++ [((b3.control mid_1 1).get!.snd.snd.snd.snd.snd.fst, (b3.control mid_1 1).get!.snd.fst)]).contains (r, b3.step (b3.control mid_1 1).get!.fst)) = true) ∧
      b3.rank (b3.control mid_1 1).get!.fst ≠ 0) :=
  by refine ⟨?_, ?_, ?_, ?_⟩ <;> decide +kernel

/-- Obligations.FiringSwitches, part 1. -/
theorem witness_FiringSwitches_1 :
    ((fno_2.control fno_1 3).isSome = true ∧ (fno_2.control fno_1 3).get!.snd.fst ≠ fno_2.step (fno_2.control fno_1 3).get!.fst) ∧
    ((farm_2.control farm_1 3).isSome = true ∧ (farm_2.control farm_1 3).get!.snd.fst = farm_2.step (farm_2.control farm_1 3).get!.fst ∧
      (farm_2.ctx (farm_2.control farm_1 3).get!.fst).loading = false ∧
      (farm_2.ctx (farm_2.control farm_1 3).get!.fst).step = StepState.bent ∧ farm_2.datum ≤ (farm_2.control farm_1 3).get!.snd.snd.fst) ∧
    ((flate_2.control flate_1 3).isSome = true ∧
      (flate_2.control flate_1 3).get!.snd.fst = flate_2.step (flate_2.control flate_1 3).get!.fst ∧
      (flate_2.ctx (flate_2.control flate_1 3).get!.fst).loading = false ∧
      (flate_2.ctx (flate_2.control flate_1 3).get!.fst).step = StepState.bent ∧
      (flate_2.control flate_1 3).get!.snd.snd.fst < flate_2.datum ∧ (flate_2.ctx (flate_2.control flate_1 3).get!.fst).stopAfter = false ∧
      (flate_2.ctx (flate_2.control flate_1 3).get!.fst).disableAfter = false) ∧
    ((fa_2.control fa_1 3).isSome = true ∧ (fa_2.control fa_1 3).get!.snd.fst = fa_2.step (fa_2.control fa_1 3).get!.fst ∧
      (fa_2.ctx (fa_2.control fa_1 3).get!.fst).loading = false ∧
      ((fa_2.ctx (fa_2.control fa_1 3).get!.fst).step = StepState.armed ∨ (fa_2.ctx (fa_2.control fa_1 3).get!.fst).step = StepState.stopped)) ∧
    ((fr_2.control fr_1 3).isSome = true ∧ (fr_2.control fr_1 3).get!.snd.fst = fr_2.step (fr_2.control fr_1 3).get!.fst ∧
      (fr_2.ctx (fr_2.control fr_1 3).get!.fst).loading = false ∧
      ((fr_2.ctx (fr_2.control fr_1 3).get!.fst).step = StepState.running ∨ (fr_2.ctx (fr_2.control fr_1 3).get!.fst).step = StepState.voiding)) ∧
    ((4 = fdoubt_2.step 0 ∧ (fdoubt_2.ctx 0).loading = false ∧ (fdoubt_2.ctx 0).step = StepState.inDoubt ∧ fdoubt_2.datum ≤ 2000 ∧
      (fdoubt_2.ctx 0).disableAfter = false) ∧ (fdoubt_2.control fdoubt_1 3 = some (0, 4, 2000, 0, 0, 0, 0, 0))) :=
  by refine ⟨?_, ?_, ?_, ?_, ?_, ⟨by decide +kernel, by rfl⟩⟩ <;> decide +kernel

/-- Obligations.FiringSwitches, part 2. -/
theorem witness_FiringSwitches_2 :
    (((sw { }).ctx 0).fireD = some 900 ∧ ((sw { }).ctx 0).step = StepState.armed ∧ (sw { }).pwr.life = Life.ready ∧ 900 ≤ (sw { }).datum ∧
      ((sw { }).ctx 0).stopAfter = false ∧ ((sw { }).ctx 0).disableAfter = false) ∧
    ((s3_3.ctx 0).fireD = some 900 ∧ (s3_3.ctx 0).step = StepState.armed ∧ s3_3.pwr.life = Life.ready ∧ s3_3.datum < 900) :=
  by refine ⟨?_, ?_⟩ <;> decide +kernel

end Sys2Proof.Tests.Firing
end

