-- ==== Sys2Proof/Tests/Flash.lean ====
section
/-! SUPPORT. Small states and operands that meet the hypotheses of statements of Obligations.lean, one theorem a statement or part of
one, one bracket a state; what an earlier bracket shows of the same terms is not said again. -/

set_option Elab.async false

namespace Sys2Proof.Tests.Flash
open Sys2Proof Sys2Proof.Machine Sys2Proof.Safety Sys2Proof.Tests

def tr (x : Ctx) (t : Tier) : State := { work x (op []) with tier := { t with mounted := true } }
def ji (ty n : Nat) (d : Bool) : JItem := { ctx := 0, type := ty, step := n, durable := d }
def jn : List JItem := [ji 1 1 false, ji 2 1 false, ji 1 2 false, ji 2 2 false, ji 1 3 false]
def hm : List (Nat × Home) := [(homeKey 0 1, { loc := 2 + 5 * 512, step := 2 })]
def j1_5 : State := (tr {fired := 2} { journal := jn, homes := hm })
def j2_5 : State := (tr {fired := 2} { stopped := true, journal := jn, homes := hm })
def j3_5 : State := { tr {fired := 2} { stopped := true } with tier := {} }
def fw (t : Tier) : State := blocks (tr {} t) [(11,0x50,100),(11,0x48,365)]
def good : List Byte := (List.replicate 4 255 ++ List.replicate 4120 0) ++ List.replicate 4 255
def rd (loc : Nat) (tries others : List (Option (List Byte))) (load : Nat := 3) : SectorRead := { loc := loc, tries := tries, others := others, eccLoad := load }
def k2 : Nat := blockOf (2 + 5 * 512)
def w1_6 : SectorRead := (rd (2 + 5 * 512) [some good] [])
def w1_7 : State := (fw { blocks := [(k2, { refire := true })], homes := hm, flash := [] })
def w1_d : Option (List Byte) := some good
def w1_rest : List (Option (List Byte)) := ([] : List (Option (List Byte)))
def w2_6 : SectorRead := (rd (2 + 5 * 512) [none, some good] [])
def w2_7 : State := (fw { homes := hm, flash := [(3 + 5 * 512, { kind := 1 })], lostChannels := [(4,false)] })
def w3_6 : SectorRead := (rd (2 + 5 * 512) [none, none] [some good])
def w3_7 : State := (fw { blocks := [(k2, { retired := true })], homes := hm, lostChannels := [(4,true)] })
def w0_7 : State := (fw { writeProtect := true })
def lostRead : SectorRead := rd (2 + 5 * 512) [none] [none] 40
def w6_7 : State := (fw { blocks := [(k2, { retired := true })], homes := [(homeKey 0 1000000, { loc := 2 + 5 * 512, step := 2 })], flash := [(2 + 5 * 512, { kind := 1, tag := 1, step := 2 })] })
def w6_h : Home := ({ loc := 2 + 5 * 512, step := 2 } : Home)
/-- Zeros leave a CRC register of zero as it is. -/
theorem crc_zeros (n : Nat) : (List.replicate n (0 : Byte)).foldl (fun c b => crcRefl 0x82F63B78 8 (c ^^^ b.toNat)) 0 = 0 := by
  induction n with
  | zero => rfl
  | succ n ih => rw [List.replicate_succ, List.foldl_cons]; exact ih
/-- Four bytes of ones clear the register. -/
theorem crc_cleared (n : Nat) : crc32c (List.replicate 4 255 ++ List.replicate n 0) = 0xFFFFFFFF := by
  unfold crc32c
  rw [List.foldl_append, show (List.replicate 4 (255 : Byte)).foldl (fun c b => crcRefl 0x82F63B78 8 (c ^^^ b.toNat)) 0xFFFFFFFF = 0 by
    decide +kernel, crc_zeros]
  rfl
/-- The sector passes its check. -/
theorem good_ok : sectorGood good = true := by
  have h : (List.replicate 4 (255 : Byte) ++ List.replicate 4120 0).length = 4124 := by rw [List.length_append, List.length_replicate, List.length_replicate]
  have a : good.take 4124 = List.replicate 4 255 ++ List.replicate 4120 0 := List.take_left' h
  have b : good.drop 4124 = List.replicate 4 255 := List.drop_left' h
  have c : good.length = 4128 := by unfold good; rw [List.length_append, h, List.length_replicate]
  unfold sectorGood
  rw [a, b, c, crc_cleared]
  decide +kernel
/-- Where nothing was programmed at the location, the sector is good. -/
theorem good_read {t : Tier} {loc : Nat} (h : alook loc t.flash = none) : t.readGood loc (some good) = true := by
  unfold Tier.readGood; rw [Option.any_some, good_ok, h]; rfl

/-- Obligations.FlashKeepsState, part 1. -/
theorem witness_FlashKeepsState_1 :
    (j1_5.tierRuns = true ∧ j1_5.tier.stopped = false ∧ (j1_5.tier.stopped = false ∨ j1_5.tier.dirtySince ≠ []) ∧
      reservedBlock 77 = false) ∧
    (j2_5.tierRuns = true ∧ j2_5.tier.stopped = true ∧ j2_5.tier.dirtySince = [] ∧ reservedBlock 0 = true) ∧
    (j3_5.tierRuns = false) :=
  by refine ⟨?_, ?_, ?_⟩ <;> decide +kernel

/-- Obligations.FlashKeepsState, part 2. -/
theorem witness_FlashKeepsState_2 :
    ((w2_7.tier.mounted = true ∧ w2_7.pwr.life ≠ Life.off ∧ w2_7.booting = false ∧ w2_7.refireDue (blockOf (3 + 5 * 512)) = false ∧
      reservedBlock (blockOf (3 + 5 * 512)) = false ∧ w2_7.tier.writeProtect = false ∧ w2_7.tier.liveIn (blockOf (3 + 5 * 512)) = [] ∧
      (w2_7.tier.block (blockOf (3 + 5 * 512))).retired = false ∧ 5120 * 1024 + 16 ≤ w2_7.tier.spareMiB ∧
      w2_7.tier.serves (bits w2_6.loc 0 5) = true ∧ 0 < 1 ∧ 1 < 9 ∧ 1 < w2_6.tries.length ∧
      (∀ (i : Nat), i < 1 → w2_7.tier.readGood w2_6.loc (w2_6.tries.getD i none) = false)) ∧
      (((w2_7.tier.lostChannels.any fun z => z.fst == 4) = true) ∧ w2_7.pwr.life = Life.ready ∧
      w2_7.tier.lostChannels.contains (4, false) = true) ∧ (w2_7.tier.readGood w2_6.loc (w2_6.tries.getD 1 none) = true)) ∧
    ((w6_7.tier.mounted = true ∧ w6_7.pwr.life ≠ Life.off ∧ w6_7.booting = false ∧ reservedBlock (blockOf (2 + 5 * 512)) = false ∧
      w6_7.tier.writeProtect = false ∧ w6_7.tier.liveIn (blockOf (2 + 5 * 512)) ≠ [] ∧
      (w6_7.tier.block (blockOf (2 + 5 * 512))).retired = true ∧ w6_7.tier.serves (bits lostRead.loc 0 5) = true ∧ 0 < lostRead.tries.length ∧
      (∀ (q : Option (List Byte)), q ∈ lostRead.tries → w6_7.tier.readGood lostRead.loc q = false) ∧
      w6_7.tier.readGood lostRead.loc (rebuiltSector lostRead.others) = false ∧ lostRead.journal = none ∧
      (List.find? (fun z => z.snd.loc == lostRead.loc) w6_7.tier.homes = some (homeKey 0 1000000, w6_h)) ∧
      w6_7.platEntry (homeKey 0 1000000 / 2 ^ 33) (homeKey 0 1000000 % 2 ^ 33) = none) ∧
      ((w6_7.tier.block (blockOf lostRead.loc)).retired = true ∧ ((w6_7.tier.lostChannels.any fun z => z.fst == 9) = false))) ∧
    ((w1_7.tier.mounted = true ∧ w1_7.pwr.life ≠ Life.off ∧ w1_7.booting = false ∧ w1_7.tierRuns = true ∧
      w1_7.refireDue (blockOf (2 + 5 * 512)) = true ∧ w1_7.tier.freshBlock (k2 + 1) = true ∧ k2 + 1 < 2 ^ 21 ∧
      k2 + 1 ≠ blockOf (2 + 5 * 512) ∧
      4 * (w1_7.tier.liveIn (blockOf (2 + 5 * 512))).length ≤ (List.filter w1_7.tier.fresh (List.map (sectorOf (k2 + 1)) (List.range 4096))).length ∧
      w1_7.tier.serves (bits w1_6.loc 0 5) = true) ∧ (w1_6.tries = w1_d :: w1_rest) ∧ (w1_7.tier.readGood w1_6.loc w1_d = true)) ∧
    ((w3_7.tier.mounted = true ∧ w3_7.pwr.life ≠ Life.off ∧ w3_7.booting = false ∧ w3_7.tier.serves (bits w3_6.loc 0 5) = true ∧
      0 < w3_6.tries.length ∧ w3_6.tries.length ≤ 9 ∧ (∀ (q : Option (List Byte)), q ∈ w3_6.tries → w3_7.tier.readGood w3_6.loc q = false) ∧
      (∀ (z : Nat × Bool), z ∈ w3_7.tier.lostChannels → z.snd = true) ∧ alook (stripeOf w3_6.loc) w3_7.tier.stripes = none) ∧
      (w3_7.tier.readGood w3_6.loc (rebuiltSector w3_6.others) = true)) ∧
    (w0_7.tier.mounted = true ∧ w0_7.pwr.life ≠ Life.off ∧ w0_7.booting = false ∧
      (reservedBlock (blockOf (2 + 5 * 512)) = true ∨ w0_7.tier.writeProtect = true)) :=
  ⟨⟨by decide +kernel, by decide +kernel, good_read rfl⟩,
   ⟨by decide +kernel, by decide +kernel⟩,
   ⟨by decide +kernel, rfl, good_read rfl⟩,
   ⟨by decide +kernel, by rw [show rebuiltSector w3_6.others = some good from rfl]; exact good_read rfl⟩,
   by decide +kernel⟩

end Sys2Proof.Tests.Flash
end

