-- ==== Sys2Proof/Tests/Flits.lean ====
section
/-! SUPPORT. Small states and operands that meet the hypotheses of statements of Obligations.lean, one theorem a statement or part of
one, one bracket a state; what an earlier bracket shows of the same terms is not said again. -/

set_option Elab.async false

namespace Sys2Proof.Tests.Flits
open Sys2Proof Sys2Proof.Machine Sys2Proof.Safety Sys2Proof.Tests

def pk (ty vc slots : Nat) (b : PBody) : Packet := { dest := 0, src := 1, vc := vc, type := ty, slots := slots, hops := 0, job := 7, body := b }
def cx : PBody := .control 4 0 0 0 1 0 0 0
def fl (q : Nat) (k : Packet) (first n : Nat) (ackv := true): Flit := { hdr := { credits := [1,2,3,4], ack := 4095, ackValid := ackv }, seq := q, pieces := [⟨k, first, n⟩] }
def hh (a : Nat) (v := true) : FlitHdr := { credits := [1,2,3,4], ack := a, ackValid := v }
def okrx : RxReport := { errors := [[(3,1)],[],[],[]], crcOk := true }
def badrx : RxReport := { errors := [[(3,1)],[],(List.range 17).map fun i => (i,1),[]], crcOk := true }
def lk (x : Port) : State := { (job { fired := 3, step := .running } 0 3) with ports := [(1, { x with st := .up, lanes := 15 })] }
def lk0 (x : Port) : State := { blocks { pwr := {life := .ready} } [(4,0,2^15)] with ports := [(1, { x with st := .up, lanes := 15 })] }
def rp (n : Nat) : List Flit := (List.range n).map fun i => { fl i (pk 0x20 1 1 cx) 0 1 with seq := i }
def part_2 : Flit := (fl 0 (pk 0x20 1 9 cx) 0 4)
def part_3 : FlitHdr := (hh 4095)
def part_q : Piece := (⟨pk 0x20 1 9 cx, 0, 4⟩ : Piece)
def ack_5 : State := (lk0 {replay := rp 5, txSeq := 5, unacked := 3, rxSeq := 9})
def bad3_5 : State := (lk {asking := true})
def later_2 : Flit := (fl 5 (pk 1 0 1 cx) 0 1)
def later_5 : State := (lk0 {replay := rp 5, txSeq := 5})
def stuck_3 : FlitHdr := (hh 4095)
def stuck_5 : State := (lk0 {replay := rp 5, txSeq := 5, stuck := 7})
def ln0_4 : FlitHdr := (hh 4095 false)
def ln4_5 : State := { lk0 {} with ports := [(1, {st := .degraded, lanes := 11 })] }
def ln3_4 : FlitHdr := (hh 4095 false)
def ln3_5 : State := { lk0 {} with ports := [(1, {st := .degraded, lanes := 11 })] }
def tr3_7 : State := { lk0 {} with ports := [(1, {st := .training })] }
def tr5_7 : State := (blocks { lk0 {} with ports := [(1, {st := .down })] } [(4,0x28,500)])
def tr6_7 : State := (blocks { lk0 {} with ports := [(1, {st := .disabled })] } [(4,0x28,500)])

/-- Obligations.LinksCarryFlits, part 1. -/
theorem witness_LinksCarryFlits_1 :
    ((lk { }).pwr.life = Life.ready ∧ ((lk { }).port 1).linked = true ∧ ((lk { }).port 1).waiting = [] ∧ ((lk { }).port 1).vc1wait = [] ∧
      ((lk { }).port 1).replay = [] ∧ ((lk { }).port 1).unacked = 0 ∧ (∀ (n : Nat), n ∈ ((lk { }).port 1).freed → n = 0) ∧
      (∀ (i : Nat), i < 4 → ((lk { }).countLanes 1 badrx).laneOver 1 i = false) ∧ ((∃ e, e ∈ badrx.errors ∧
      fecCorrected e = none) ∨ badrx.crcOk = false) ∧ ((lk { }).port 1).asking = false) ∧
    (later_5.pwr.life = Life.ready ∧ (later_5.port 1).linked = true ∧ (later_5.port 1).waiting = [] ∧ (later_5.port 1).vc1wait = [] ∧
      (later_5.port 1).replay ≠ [] ∧ (later_5.port 1).stuck < 7 ∧ (∀ (i : Nat), i < 4 → (later_5.countLanes 1 okrx).laneOver 1 i = false) ∧
      (¬((∃ e, e ∈ okrx.errors ∧ fecCorrected e = none) ∨ okrx.crcOk = false)) ∧ later_2.seq ≠ (later_5.port 1).rxSeq ∧
      (later_5.port 1).asking = false ∧
      ((later_5.port 1).replay.length < if (hh 7).ackValid = true then ((hh 7).ack % 4096 + 4097 - (Option.map (fun x => x.seq) (later_5.port 1).replay.head?).getD (later_5.port 1).txSeq) % 4096 else 0) ∧
      later_5.enabledCtxs = []) ∧
    ((∀ (i : Nat), i < 4 → ((lk { }).countLanes 1 okrx).laneOver 1 i = false) ∧ part_2.seq = ((lk { }).port 1).rxSeq ∧
      ((if part_2.hdr.ackValid = true then (part_2.hdr.ack % 4096 + 4097 - (Option.map (fun x => x.seq) ((lk { }).port 1).replay.head?).getD ((lk { }).port 1).txSeq) % 4096 else 0) ≤ ((lk { }).port 1).replay.length) ∧
      part_2.pieces = [part_q] ∧ part_q.first = 0 ∧ part_q.count < part_q.pkt.slots ∧ ((lk { }).port 1).unacked + 1 < 32 ∧
      ((if part_3.ackValid = true then (part_3.ack % 4096 + 4097 - (Option.map (fun x => x.seq) ((lk { }).port 1).replay.head?).getD ((lk { }).port 1).txSeq) % 4096 else 0) ≤ ((lk { }).port 1).replay.length) ∧
      ((if (if part_3.ackValid = true then (part_3.ack % 4096 + 4097 - (Option.map (fun x => x.seq) ((lk { }).port 1).replay.head?).getD ((lk { }).port 1).txSeq) % 4096 else 0) = 0 then ((lk { }).port 1).stuck else 0) < 7)) ∧
    (stuck_5.pwr.life = Life.ready ∧ (stuck_5.port 1).linked = true ∧ (stuck_5.port 1).waiting = [] ∧ (stuck_5.port 1).vc1wait = [] ∧
      (stuck_5.port 1).replay ≠ [] ∧ 7 ≤ (stuck_5.port 1).stuck ∧ stuck_5.enabledCtxs = [] ∧
      (∀ (i : Nat), i < 4 → (stuck_5.countLanes 1 okrx).laneOver 1 i = false) ∧
      ((if stuck_3.ackValid = true then (stuck_3.ack % 4096 + 4097 - (Option.map (fun x => x.seq) (stuck_5.port 1).replay.head?).getD (stuck_5.port 1).txSeq) % 4096 else 0) ≤ (stuck_5.port 1).replay.length) ∧
      (7 ≤ if (if stuck_3.ackValid = true then (stuck_3.ack % 4096 + 4097 - (Option.map (fun x => x.seq) (stuck_5.port 1).replay.head?).getD (stuck_5.port 1).txSeq) % 4096 else 0) = 0 then (stuck_5.port 1).stuck else 0)) ∧
    (ack_5.pwr.life = Life.ready ∧ (ack_5.port 1).linked = true ∧ (ack_5.port 1).waiting = [] ∧ (ack_5.port 1).vc1wait = [] ∧
      (0 < (ack_5.port 1).unacked ∨ ∃ n, n ∈ (ack_5.port 1).freed ∧ n ≠ 0)) ∧
    (bad3_5.pwr.life = Life.ready ∧ (bad3_5.port 1).linked = true ∧ (bad3_5.port 1).waiting = [] ∧ (bad3_5.port 1).vc1wait = [] ∧
      (∀ (i : Nat), i < 4 → (bad3_5.countLanes 1 badrx).laneOver 1 i = false) ∧ (bad3_5.port 1).asking = true) :=
  by refine ⟨?_, ?_, ?_, ?_, ?_, ?_⟩ <;> decide +kernel

/-- Obligations.LinksCarryFlits, part 2. -/
theorem witness_LinksCarryFlits_2 :
    ((lk0 { }).pwr.life = Life.ready ∧ ((lk0 { }).port 1).linked = true ∧ ((lk0 { }).port 1).waiting = [] ∧ ((lk0 { }).port 1).replay = [] ∧
      (lk0 { }).enabledCtxs = [] ∧ 2 < 4 ∧ 0 < 16 ∧ (lk0 { }).laneOver 1 2 = false ∧ (∀ (i : Nat), i < 4 → (lk0 { }).laneOver 1 i = false) ∧
      ln0_4.ackValid = false ∧ ((lk0 { }).port 1).lanes = 15) ∧
    (4 < 16 ∧ (4 = 2 ^ 2 ∨ 4 = 0 ∧ (lk0 { }).laneOver 1 2 = true)) ∧
    (3 < 16 ∧ 2 ≤ laneCount 3) ∧
    (ln4_5.pwr.life = Life.ready ∧ (ln4_5.port 1).linked = true ∧ (ln4_5.port 1).waiting = [] ∧ (ln4_5.port 1).replay = [] ∧
      ln4_5.enabledCtxs = [] ∧ 3 < 4 ∧ 8 < 16 ∧ (8 = 2 ^ 3 ∨ 8 = 0 ∧ ln4_5.laneOver 1 3 = true) ∧ (ln4_5.port 1).lanes.testBit 3 = true ∧
      laneCount (ln4_5.port 1).lanes ≤ 3) ∧
    (ln3_5.pwr.life = Life.ready ∧ (ln3_5.port 1).linked = true ∧ (ln3_5.port 1).waiting = [] ∧ (ln3_5.port 1).replay = [] ∧
      ln3_5.enabledCtxs = [] ∧ (∀ (i : Nat), i < 4 → ln3_5.laneOver 1 i = false) ∧ ln3_4.ackValid = false ∧
      (ln3_5.port 1).lanes = 15 - 2 ^ 2) :=
  by refine ⟨?_, ?_, ?_, ?_, ?_⟩ <;> decide +kernel

/-- Obligations.PortsTraverse, part 1. -/
theorem witness_PortsTraverse_1 :
    ((lk0 { }).pwr.life = Life.ready ∧ ((lk0 { }).port 1).waiting = [] ∧ (lk0 { }).portRuns 1 = true ∧
      ((lk0 { }).port 1).st ≠ PortState.training ∧ ¬(((lk0 { }).port 1).usable = true ∧ (lk0 { }).carriesJob 1 = true) ∧
      ((lk0 { }).port 1).st ≠ PortState.disabled ∧ (((lk0 { }).port 1).st ≠ PortState.down ∨ (lk0 { }).blk 4 40 = 0) ∧
      ((lk0 { }).port 1).linked = true ∧ (lk0 { }).enabledCtxs = []) ∧
    (tr3_7.pwr.life = Life.ready ∧ (tr3_7.port 1).waiting = [] ∧ tr3_7.portRuns 1 = true ∧ (tr3_7.port 1).st = PortState.training ∧
      3 ≤ laneCount 15 ∧ ((tr3_7.port 1).st = PortState.disabled ∨ (tr3_7.port 1).st = PortState.training)) ∧
    (tr5_7.pwr.life = Life.ready ∧ (tr5_7.port 1).waiting = [] ∧ tr5_7.portRuns 1 = true ∧ (tr5_7.port 1).st = PortState.down ∧
      tr5_7.blk 4 40 ≠ 0) ∧
    ((lk { }).pwr.life = Life.ready ∧ ((lk { }).port 1).waiting = [] ∧ (lk { }).portRuns 1 = true ∧ ((lk { }).port 1).usable = true ∧
      (lk { }).carriesJob 1 = true) ∧
    (tr6_7.pwr.life = Life.ready ∧ (tr6_7.port 1).waiting = [] ∧ tr6_7.portRuns 1 = true ∧ (tr6_7.port 1).st = PortState.disabled) :=
  by refine ⟨?_, ?_, ?_, ?_, ?_⟩ <;> decide +kernel

end Sys2Proof.Tests.Flits

namespace Sys2Proof.Tests.Flits2
open Sys2Proof Sys2Proof.Machine Sys2Proof.Safety Sys2Proof.Tests

def lk (x : Port) : State := { (job { fired := 3, step := .running } 0 3) with ports := [(1, { x with st := .up, lanes := 15 })] }
def lk0 (x : Port) : State := { blocks { pwr := {life := .ready} } [(4,0,2^15)] with ports := [(1, { x with st := .up, lanes := 15 })] }
def tr2_i : Instr := Instr.portEnable 1
def tr2_ix1 : Instr := Instr.portRetrain 1
def tr4_7 : State := { lk0 {} with ports := [(1, {st := .training })] }
def tr4_i : Instr := Instr.trainingEnd 1 3 5 6 (-3) 9
def tr4_ix1 : Instr := Instr.trainingTimeout 1 3

/-- Obligations.PortsTraverse, part 1. -/
theorem witness_PortsTraverse_1 :
    (tr4_7.pwr.life = Life.ready ∧ (tr4_7.port 1).waiting = [] ∧ tr4_7.portRuns 1 = true ∧ (tr4_7.port 1).st = PortState.training ∧
      (tr4_7.port 1).st ≠ PortState.disabled ∧ ¬((tr4_7.port 1).usable = true ∧ tr4_7.carriesJob 1 = true) ∧ laneCount 3 < 3 ∧
      (tr4_ix1 = Instr.trainingEnd 1 3 5 6 (-3) 9 ∨ tr4_ix1 = Instr.trainingTimeout 1 3) ∧
      (tr4_i = Instr.trainingEnd 1 3 5 6 (-3) 9 ∨ tr4_i = Instr.trainingTimeout 1 3) ∧
      ((tr4_7.port 1).st ≠ PortState.down ∨ tr4_7.blk 4 40 = 0) ∧
      ((tr4_7.port 1).st = PortState.disabled ∨ (tr4_7.port 1).st = PortState.training)) ∧
    ((lk { }).pwr.life = Life.ready ∧ ((lk { }).port 1).waiting = [] ∧ (lk { }).portRuns 1 = true ∧ ((lk { }).port 1).usable = true ∧
      (lk { }).carriesJob 1 = true ∧ (tr2_ix1 = Instr.portEnable 1 ∨ tr2_ix1 = Instr.portRetrain 1) ∧
      (tr2_i = Instr.portEnable 1 ∨ tr2_i = Instr.portRetrain 1) ∧ ((lk { }).port 1).st ≠ PortState.training) :=
  by refine ⟨?_, ?_⟩ <;> decide +kernel

/-- A packet of this member's job, one slot long, in a flit of its own. -/
def sole (ty vc : Nat) (b : PBody) : Packet := { dest := 0, src := 1, vc := vc, type := ty, slots := 1, hops := 0, job := 7, body := b }
def flitOf (k : Packet) : Flit :=
  { hdr := { credits := [1, 2, 3, 4], ack := 4095, ackValid := true }, seq := 0, pieces := [⟨k, 0, 1⟩] }
def clean : RxReport := { errors := [[(3, 1)], [], [], []], crcOk := true }
def control : PBody := .control 4 0 0 0 1 0 0 0
/-- A packet of every type, with the command it becomes. -/
def kinds : List ((Packet → Instr) × Packet) :=
  [(.bent, sole 1 0 control), (.abort, sole 2 0 control), (.fire, sole 3 0 (.control 9 0 0 0 1 0 0 0)), (.void, sole 4 0 control), (.heartbeat, sole 5 0 control),
   (.digest, sole 6 0 control), (.lost, sole 7 0 control), (.trayReadRequest, sole 0x18 1 (.tray 0x100000 4 [])),
   (.trayReadResponse, sole 0x19 1 (.tray 0x100000 4 [1, 2, 3, 4])), (.trayWrite, sole 0x1A 1 (.tray 0x100000 4 [1, 2, 3, 4])),
   (.ready, sole 0x20 1 (.ready 0 0 0 4 0 0x40 4 4 5100)), (.data, sole 0x21 1 (.data 0 0 0 4 0 0 [1, 2])),
   (.finish, sole 0x22 1 (.finish 0 0 0 4 0 0)), (.queueData, sole 0x28 2 (.queueData 3 0 4 0 0 [1, 2])),
   (.queueCredit, sole 0x29 2 (.queueCredit 3 0 4 0 1))]
/-- The port once a flit with the packet has been taken. -/
def taken (k : Packet) : State :=
  (lk {}).setPort 1 { ((lk {}).countLanes 1 clean).port 1 with
    credits := [64, 16384, 8192, 64], replay := [], rxSeq := 1, unacked := 1, flitsRx := 1, freed := modAt [0, 0, 0, 0] k.vc fun n => n + 1 }
/-- Obligations.LinksCarryFlits, part 1: a sound flit with one whole packet of each type for this module, whose command has a next state. -/
theorem witness_LinksCarryFlits_packets :
    ((lk {}).pwr.life = .ready ∧ ((lk {}).port 1).linked = true ∧ ((lk {}).port 1).waiting = [] ∧ ((lk {}).port 1).usable = true) ∧
    (kinds.map fun c => c.2.type) = [1, 2, 3, 4, 5, 6, 7, 0x18, 0x19, 0x1A, 0x20, 0x21, 0x22, 0x28, 0x29] ∧
    ∀ c ∈ kinds, rxBad clean = false ∧ (flitOf c.2).seq = ((lk {}).port 1).rxSeq ∧
      (flitOf c.2).hdr.ack % 4096 + 4097 - 0 = 2 * 4096 ∧ c.2.slots ≤ 1 ∧ (lk {}).isMine c.2 = true ∧
      nextIs (exec (c.1 c.2) (taken c.2)) (after (c.1 c.2) (taken c.2)) = true :=
  by decide +kernel

end Sys2Proof.Tests.Flits2
end

