-- ==== Sys2Proof/Tests/Hosts.lean ====
section
/-! SUPPORT. Small states and operands that meet the hypotheses of statements of Obligations.lean, one theorem a statement or part of
one, one bracket a state; what an earlier bracket shows of the same terms is not said again. -/

set_option Elab.async false

namespace Sys2Proof.Tests.Hosts
open Sys2Proof Sys2Proof.Machine Sys2Proof.Safety Sys2Proof.Tests

def H (x : Ctx) : State := hosted (up { x with enabled := true })
def rq (k c : Nat) : ReqData := { magic := 0x4252, version := 1, kind := k, ctx := c, reservedZero := true }
def allow (s : State) : State := blocks (page s [(0xC0,0x42),(0xD0,0x100),(0x080,0x8000000000000000),(0x090,0x8000000000001000),(0x0A0,0x8000000000002000),(0x0B0,0x8000000000003000)]) [(5,0x00,0x42),(5,0x10,0x100 + 128)]
def no (s : State) : State := { s with host := { s.host with qps := [] } }
def r4_4 : ReqData := { rq 1 0 with version := 2 }
def r1_5 : State := (allow (H {}))
def r2_5 : State := (allow (H {}))
def r3_5 : State := (page (no (allow (H {}))) [(0x80,0)])
def s1_5 : State := (no (allow (H {})))
def c1_5 : State := (no (allow (H {})))
def c2_5 : State := (no (allow (H {ring := .orphaned, ringBefore := .stalled, fetchPos := 5, eventPos := 7, tallyDone := 3, tallyPos := 9, tallies := [{step := 1, bytes := [1], written := true}]})))
def cn : Conn := ⟨2, 0, 0, 1, 1⟩
def q0 (e : Bool) : Qp := { conn := cn, est := e, rkey := 99 }
def L (e : Bool) (x : Ctx) (more : List Qp) : State := let s := H { x with writes := [{ addr := 5, bytes := [1,2], kind := .status, port := 0 }] }; { s with host := { s.host with qps := q0 e :: more, up1 := true } }
def rtu_2 : Qp := (q0 false)
def rtu_3 : State := (L false {} [])
def rtu_u : Conn := (⟨2,0,1,1,4⟩ : Conn)
def one_2 : Qp := (q0 true)
def one_3 : State := (L true {} [])
def two : Qp := { conn := ⟨2, 0, 1, 1, 4⟩, est := false }
def two_2 : Qp := (q0 true)
def two_3 : State := (L true {} [two])
def two_u : Conn := (⟨2,0,1,1,4⟩ : Conn)
def W (sc : Bool) (st : Bool) (x : Ctx := {}) : State := blocks (let s := withMem (work x (op [])) [(0x100010,8,0x1122334455667788)]; { s with host := { up0 := true, qps := [q0 true, { conn := ⟨1,0,0,1,3⟩, est := true, rkey := 55 }] } }) [(5,0x400, if sc then 0x100000 else 0x1000), (5,0x408,0x1000), (5,0x410, 1 + (if sc then 2 else 0) + (if st then 2^12 else 0)), (5,0x418,77), (5,0x148, 8+3)]
def bb : List Byte := [1,2,3,4,5,6,7,8]
def wr_2 : Qp := (q0 true)
def wr_7 : State := (W true false)
def wr_w : InWindow := (((W true false).inWindow 77).getD ⟨0,0,0,false,0,false⟩)
def wrx_2 : Qp := (q0 true)
def wrx_7 : State := (W true false)
def wrx_w : InWindow := (((W true false).inWindow 77).getD ⟨0,0,0,false,0,false⟩)
def ws_2 : Qp := (q0 true)
def ws_7 : State := (W false false)
def ws_w : InWindow := (((W false false).inWindow 77).getD ⟨0,0,0,false,0,false⟩)
def ws_bytes : List Byte := (List.replicate 8 0 : List Byte)
def wn_2 : Qp := (q0 true)
def wn_7 : State := (W false false)
def wk_2 : Qp := (q0 true)
def wk_7 : State := (W false false)
def cs : Conn := ⟨1,0,0,1,3⟩
def qs : Qp := { conn := cs, est := true, rkey := 55 }
def st1_7 : State := (W false false)
def w9 : HostWrite := { addr := 2 ^ 48 + 5, bytes := [1,2], kind := .status, port := 0 }
def Lw (e : Bool) (w : HostWrite) (more : List Qp) : State :=
  let s := page (H { writes := [w] }) [(0x130, 2^32+2^33+2^34+2^35+2^36)]
  { s with host := { s.host with qps := q0 e :: more, up1 := true } }
def two1 : Qp := { conn := ⟨2, 0, 1, 1, 4⟩, est := true }
def deep_2 : Qp := (q0 true)
def deep_3 : State := { Lw true w9 [two1] with pwr := { life := .ready, current := 2 } }
def Wd : State := { W true false with pwr := { life := .ready, current := 2 } }
def wdp_2 : Qp := (q0 true)
def wdp_w : InWindow := ((Wd.inWindow 77).getD ⟨0,0,0,false,0,false⟩)
def rtuUp : State :=
  { rtu_3 with host := { rtu_3.host with qps := rtu_3.host.qps.map fun r => if r.conn = cn then { r with est := true } else r } }

/-- Obligations.HostsAttach, part 1. -/
theorem witness_HostsAttach_1 :
    ((H { }).hostHears 0 = true ∧ (¬(r4_4.magic = 16978 ∧ r4_4.version = 1 ∧ (r4_4.kind = 1 ∨ r4_4.kind = 2 ∧ r4_4.ctx ≤ 1023) ∧
      r4_4.reservedZero = true)) ∧
      (((H { }).host.qps.any fun q => !q.closing && sameEndpoint q.conn { kind := r4_4.kind, ctx := if r4_4.kind = 2 then r4_4.ctx else 0, port := 0, addr := 66, qpn := 7 } && q.conn.port == 0 && q.conn.addr == 66) = false)) ∧
    (r1_5.hostHears 0 = true ∧ ((rq 1 0).magic = 16978 ∧ (rq 1 0).version = 1 ∧ ((rq 1 0).kind = 1 ∨ (rq 1 0).kind = 2 ∧
      (rq 1 0).ctx ≤ 1023) ∧ (rq 1 0).reservedZero = true) ∧
      ((r1_5.host.qps.any fun q => !q.closing && sameEndpoint q.conn { kind := (rq 1 0).kind, ctx := if (rq 1 0).kind = 2 then (rq 1 0).ctx else 0, port := 0, addr := 67, qpn := 7 } && q.conn.port == 0 && q.conn.addr == 67) = false) ∧
      r1_5.allowed 67 (rq 1 0) = false) ∧
    (r2_5.hostHears 0 = true ∧ ((rq 2 0).magic = 16978 ∧ (rq 2 0).version = 1 ∧ ((rq 2 0).kind = 1 ∨ (rq 2 0).kind = 2 ∧
      (rq 2 0).ctx ≤ 1023) ∧ (rq 2 0).reservedZero = true) ∧
      ((r2_5.host.qps.any fun q => !q.closing && sameEndpoint q.conn { kind := (rq 2 0).kind, ctx := if (rq 2 0).kind = 2 then (rq 2 0).ctx else 0, port := 0, addr := 66, qpn := 7 } && q.conn.port == 0 && q.conn.addr == 66) = false) ∧
      r2_5.allowed 66 (rq 2 0) = true ∧
      r2_5.busy { kind := (rq 2 0).kind, ctx := if (rq 2 0).kind = 2 then (rq 2 0).ctx else 0, port := 0, addr := 66, qpn := 7 } = true) ∧
    (r3_5.hostHears 0 = true ∧
      ((r3_5.host.qps.any fun q => !q.closing && sameEndpoint q.conn { kind := (rq 2 0).kind, ctx := if (rq 2 0).kind = 2 then (rq 2 0).ctx else 0, port := 0, addr := 66, qpn := 7 } && q.conn.port == 0 && q.conn.addr == 66) = false) ∧
      r3_5.allowed 66 (rq 2 0) = true ∧
      r3_5.busy { kind := (rq 2 0).kind, ctx := if (rq 2 0).kind = 2 then (rq 2 0).ctx else 0, port := 0, addr := 66, qpn := 7 } = false ∧
      (rq 2 0).kind = 2 ∧ ((r3_5.ctx (rq 2 0).ctx).enabled = false ∨ r3_5.ringsSet (rq 2 0).ctx = false)) ∧
    (s1_5.hostHears 0 = true ∧
      ((s1_5.host.qps.any fun q => !q.closing && sameEndpoint q.conn { kind := (rq 1 0).kind, ctx := if (rq 1 0).kind = 2 then (rq 1 0).ctx else 0, port := 0, addr := 66, qpn := 7 } && q.conn.port == 0 && q.conn.addr == 66) = false) ∧
      s1_5.allowed 66 (rq 1 0) = true ∧
      s1_5.busy { kind := (rq 1 0).kind, ctx := if (rq 1 0).kind = 2 then (rq 1 0).ctx else 0, port := 0, addr := 66, qpn := 7 } = false ∧
      (rq 1 0).kind = 1) ∧
    (c1_5.hostHears 0 = true ∧
      ((c1_5.host.qps.any fun q => !q.closing && sameEndpoint q.conn { kind := (rq 2 0).kind, ctx := if (rq 2 0).kind = 2 then (rq 2 0).ctx else 0, port := 0, addr := 66, qpn := 7 } && q.conn.port == 0 && q.conn.addr == 66) = false) ∧
      c1_5.allowed 66 (rq 2 0) = true ∧
      c1_5.busy { kind := (rq 2 0).kind, ctx := if (rq 2 0).kind = 2 then (rq 2 0).ctx else 0, port := 0, addr := 66, qpn := 7 } = false ∧
      (c1_5.ctx (rq 2 0).ctx).enabled = true ∧ c1_5.ringsSet (rq 2 0).ctx = true ∧ (c1_5.ctx (rq 2 0).ctx).ring ≠ RingState.orphaned) ∧
    (c2_5.hostHears 0 = true ∧
      ((c2_5.host.qps.any fun q => !q.closing && sameEndpoint q.conn { kind := (rq 2 0).kind, ctx := if (rq 2 0).kind = 2 then (rq 2 0).ctx else 0, port := 0, addr := 66, qpn := 7 } && q.conn.port == 0 && q.conn.addr == 66) = false) ∧
      c2_5.allowed 66 (rq 2 0) = true ∧
      c2_5.busy { kind := (rq 2 0).kind, ctx := if (rq 2 0).kind = 2 then (rq 2 0).ctx else 0, port := 0, addr := 66, qpn := 7 } = false ∧
      (c2_5.ctx (rq 2 0).ctx).enabled = true ∧ c2_5.ringsSet (rq 2 0).ctx = true ∧ (c2_5.ctx (rq 2 0).ctx).ring = RingState.orphaned) :=
  by refine ⟨?_, ?_, ?_, ?_, ?_, ?_, ?_⟩ <;> decide +kernel

/-- Obligations.HostsAttach, part 2. -/
theorem witness_HostsAttach_2 :
    ((rtu_3.hostHears cn.port = true ∧ cn.kind = 2 ∧ rtu_3.liveQp cn = some rtu_2 ∧ rtu_2.est = false ∧
      (rtu_3.ctx cn.ctx).ring ≠ RingState.orphaned ∧ (∀ (v : WinOp), v ∈ (rtu_3.ctx cn.ctx).window → v.reads = []) ∧
      (∀ (w : HostWrite), w ∈ (rtu_3.ctx cn.ctx).writes → w.sent = false → (rtuUp.writePort cn.ctx w).isSome = true) ∧
      (List.filter (fun r => !r.closing && sameEndpoint r.conn cn && r.conn != cn) rtu_3.host.qps = []) ∧ (rtu_3.ctx cn.ctx).enabled = true ∧
      rtu_3.hostHears rtu_u.port = true ∧ rtu_3.pwr.lost.contains 4 = false ∧ rtu_3.pwr.current ≠ 2) ∧ (NoneHeld rtu_3)) ∧
    ((two_3.hostHears cn.port = true ∧ two_3.liveQp cn = some two_2 ∧ two_2.est = true ∧
      (List.filter (fun r => !r.closing && sameEndpoint r.conn cn && r.conn != cn) two_3.host.qps ≠ []) ∧
      (∀ (r : Qp), r ∈ List.filter (fun r => r.conn.kind == 2 && r.conn.ctx == cn.ctx && r.conn != cn) two_3.host.qps → r.est = false) ∧
      two_3.hostHears two_u.port = true ∧ two_3.pwr.lost.contains 4 = false ∧ two_3.pwr.current ≠ 2) ∧ (NoneHeld two_3)) ∧
    (deep_3.hostHears cn.port = true ∧ deep_3.liveQp cn = some deep_2 ∧
      (List.filter (fun r => !r.closing && sameEndpoint r.conn cn && r.conn != cn) deep_3.host.qps ≠ []) ∧
      (List.filter (fun r => r.conn.kind == 2 && r.conn.ctx == cn.ctx && r.conn != cn) deep_3.host.qps = [two1]) ∧ two1.est = true ∧
      deep_3.portOpen two1.conn.port = true ∧ (deep_3.ctx cn.ctx).ring ≠ RingState.orphaned ∧ (deep_3.ctx cn.ctx).window = [] ∧
      (deep_3.ctx cn.ctx).writes = [w9] ∧ w9.port = cn.port ∧ w9.sent = true ∧
      windowHolds deep_3 cn.ctx (hostParts w9.addr).fst (hostParts w9.addr).snd w9.bytes.length true = true ∧
      (deep_3.pg cn.ctx (256 + 32 * (hostParts w9.addr).fst + 16)).testBit (34 + two1.conn.port) = true ∧
      (deep_3.pwr.lost.contains 4 = true ∨ deep_3.pwr.current = 2)) ∧
    (one_3.hostHears cn.port = true ∧ one_3.liveQp cn = some one_2 ∧ one_2.est = true) :=
  by refine ⟨⟨by decide +kernel, by unfold NoneHeld NothingHeld; decide +kernel⟩, ⟨by decide +kernel, by unfold NoneHeld NothingHeld; decide +kernel⟩, ?_, ?_⟩ <;> decide +kernel

/-- Obligations.HostAccessesAreAnswered. -/
theorem witness_HostAccessesAreAnswered :
    ((wr_7.hostHears cn.port = true ∧ cn.port < 2 ∧ wr_7.liveQp cn = some wr_2 ∧ wr_2.est = true ∧ wr_7.inWindow 77 = some wr_w ∧
      wr_7.pwr.current ≠ 2 ∧ wr_w.grants cn 1048592 8 = true ∧ wr_w.scratch = true ∧ inMemory 1048592 8 = true ∧ wr_7.upsets = [] ∧
      wr_w.grants cn 1048592 bb.length = true ∧ inMemory 1048592 bb.length = true ∧ bb ≠ [] ∧ (wr_7.blk 5 328).testBit 3 = true) ∧
      (bits (wr_7.blk 5 328) 0 3 ≠ 4 ∧ bits (wr_7.blk 5 328) 0 3 = 3) ∧ (NoneHeld wr_7)) ∧
    ((wn_7.hostHears cn.port = true ∧ wn_7.liveQp cn = some wn_2 ∧ wn_2.est = true ∧ wn_7.inWindow 78 = none ∧ wn_2.rkey ≠ 78 ∧
      (List.find? (fun z => z.fst == cn.addr) wn_7.host.refusedIn = none) ∧ (wn_7.blk 5 328).testBit 3 = true ∧
      bits (wn_7.blk 5 328) 0 3 = 3) ∧ (NoneHeld wn_7)) ∧
    (wrx_7.hostHears cn.port = true ∧ wrx_7.liveQp cn = some wrx_2 ∧ wrx_2.est = true ∧ wrx_7.inWindow 77 = some wrx_w ∧
      wrx_w.grants cn 1052668 8 = false ∧ (List.find? (fun z => z.fst == cn.addr) wrx_7.host.refusedIn = none) ∧
      wrx_w.grants cn 1052668 bb.length = false) ∧
    (ws_7.hostHears cn.port = true ∧ ws_7.liveQp cn = some ws_2 ∧ ws_2.est = true ∧ ws_7.inWindow 77 = some ws_w ∧ ws_7.pwr.current ≠ 2 ∧
      ws_w.grants cn 4112 8 = true ∧ ws_w.scratch = false ∧ (ws_7.ctx ws_w.ctx).enabled = true ∧
      ws_7.hostState ws_w.ctx (pieces 4112 8) = some (ws_7, ws_bytes, false) ∧ ws_w.grants cn 4112 bb.length = true ∧
      (List.find? (fun z => z.fst == cn.addr) ws_7.host.refusedIn = none)) ∧
    ((wk_7.hostHears cn.port = true ∧ wk_7.liveQp cn = some wk_2 ∧ wk_2.est = true ∧ wk_7.inWindow 99 = none ∧ wk_2.rkey = 99 ∧ cn.kind ≠ 1 ∧
      (List.find? (fun z => z.fst == cn.addr) wk_7.host.refusedIn = none)) ∧ (∀ (c off : Nat), place 4112 ≠ Place.doorbell c off)) ∧
    ((st1_7.hostHears cs.port = true ∧ cs.port < 2 ∧ st1_7.liveQp cs = some qs ∧ qs.est = true ∧ st1_7.inWindow 55 = none ∧ qs.rkey = 55 ∧
      cs.kind = 1 ∧ regRange (blockAddr 4 0) 8 = true ∧ bb.length = 8 ∧ (specOf (inForceAddr (blockAddr 4 0))).isSome = true ∧
      inRegWindow (blockAddr 4 0) = false) ∧ (∀ (c off : Nat), place (blockAddr 4 0) ≠ Place.doorbell c off)) ∧
    (Wd.hostHears cn.port = true ∧ Wd.liveQp cn = some wdp_2 ∧ wdp_2.est = true ∧ Wd.inWindow 77 = some wdp_w ∧ Wd.pwr.current = 2 ∧
      wdp_w.grants cn 1048592 8 = true ∧ wdp_w.grants cn 1048592 bb.length = true) :=
  by refine ⟨⟨by decide +kernel, by decide +kernel, by unfold NoneHeld NothingHeld; decide +kernel⟩, ⟨by decide +kernel, by unfold NoneHeld NothingHeld; decide +kernel⟩, ?_, ?_, ⟨by decide +kernel, not_doorbell (by decide +kernel)⟩, ⟨by decide +kernel, not_doorbell (by decide +kernel)⟩, ?_⟩ <;> decide +kernel

end Sys2Proof.Tests.Hosts
end

