-- ==== Sys2Proof/Tests/Lanes.lean ====
section
/-! SUPPORT. Vector instructions and the state of a kiln that runs one: they meet the hypotheses of the vector statements of
Obligations.lean. -/

set_option Elab.async false

namespace Sys2Proof.Tests.Lanes
open Sys2Proof Sys2Proof.Machine Sys2Proof.Safety Sys2Proof.Tests

/-- Kiln 0 as VECTOR left it, with 16 lanes of predicate 1. -/
def running : State := vs.modKiln 0 fun x => { x with vu := { x.vu with p := [(1, 0x8003)] } }
def flagged : State := vs.modKiln 0 fun x => { x with vu := { x.vu with flag := true } }

/-- Obligations.VectorLanes: the floating-point instructions in F32 and F16, the integer ones, and the others, on lanes of predicate 1. -/
theorem witness_VectorLanes :
    (∀ opc ∈ List.range 14, ∀ ty ∈ [0, 1], ∀ rm ∈ [0, 3], let w := vi opc 3 1 2 1 1 rm ty 3
      Executes 0 opc w running ∧ VI.ieee (viOf w) = true) ∧
    (∀ n ∈ List.range 9, Executes 0 (0x18 + n) (vi (0x18 + n) 3 1 2 1 1 0 0 3) running) ∧
    ∀ opc ∈ [0x0E, 0x0F, 0x10, 0x11, 0x12, 0x13, 0x15, 0x16, 0x17, 0x21, 0x22, 0x23, 0x30], let i := vi opc 3 1 2 1 1 0 0 3
      Executes 0 opc i running ∧ ((viOf i).type == 0) = true ∧ 0 ≤ (viOf i).imm ∧ (viOf i).imm < 4 := by
  refine ⟨?_, ?_, ?_⟩ <;> decide +kernel

/-- Obligations.VectorReductions, in F32 and F16. -/
theorem witness_VectorReductions : ∀ opc ∈ [0x24, 0x25, 0x26, 0x27], ∀ ty ∈ [0, 1],
    VI.ieee (viOf (vi opc 3 1 2 1 1 0 ty 0)) = true ∧ Executes 0 opc (vi opc 3 1 2 1 1 0 ty 0) running := by
  decide +kernel

/-- Obligations.VectorPredicatesAndControl, part 1: the predicate instructions, with p0 as the destination too, and every condition. -/
theorem witness_VectorPredicates :
    (∀ opc ∈ [0x31, 0x32, 0x33, 0x34, 0x35], ∀ pd ∈ [0, 3], Executes 0 opc (vi opc pd 1 2 1 1 0 0 3) running) ∧
    (∀ c ∈ List.range 7, Executes 0 0x14 (vi 0x14 2 1 2 1 1 0 0 c) running ∧ 0 ≤ (viOf (vi 0x14 2 1 2 1 1 0 0 c)).imm ∧
      (viOf (vi 0x14 2 1 2 1 1 0 0 c)).imm ≤ 6) := by
  constructor <;> decide +kernel

/-- Obligations.VectorPredicatesAndControl, part 2: the scalar instructions, the branches each way, a loop of 3 and of 0 passes. -/
theorem witness_VectorScalarsAndBranches :
    (∀ opc ∈ [0x36, 0x37, 0x38, 0x39, 0x3E], Executes 0 opc (vi opc 3 1 2 1 1 0 0 (2 ^ 29 - 3)) running) ∧
    (∀ c ∈ List.range 6, ∀ ty ∈ [0, 3], Executes 0 0x3A (vi 0x3A 3 1 2 1 1 0 ty c) running ∧
      (condOf (viOf (vi 0x3A 3 1 2 1 1 0 ty c)).imm true false false).isSome = true) ∧
    (Executes 0 0x3B (vi 0x3B 3 1 2 1 1 0 0 (2 ^ 29 - 4)) running ∧
      0 ≤ ((vuOf running 0).pc : Int) + (viOf (vi 0x3B 3 1 2 1 1 0 0 (2 ^ 29 - 4))).imm) ∧
    (Executes 0 0x3C (vi 0x3C 3 1 2 1 1 0 0 7) flagged ∧ (vuOf flagged 0).flag = true ∧
      0 ≤ ((vuOf flagged 0).pc : Int) + (viOf (vi 0x3C 3 1 2 1 1 0 0 7)).imm) ∧
    (Executes 0 0x3C (vi 0x3C 3 1 2 1 1 0 0 7) running ∧ (vuOf running 0).flag = false) ∧
    (Executes 0 0x3D (vi 0x3D 3 1 2 1 1 0 0 7) running ∧ 1 ≤ (viOf (vi 0x3D 3 1 2 1 1 0 0 7)).imm ∧ 0 < (vuOf running 0).sreg 1 ∧
      (vuOf running 0).loops.length < 4) ∧
    (Executes 0 0x3D (vi 0x3D 3 4 2 1 1 0 0 7) running ∧ 1 ≤ (viOf (vi 0x3D 3 4 2 1 1 0 0 7)).imm ∧ (vuOf running 0).sreg 4 = 0) := by
  refine ⟨?_, ?_, ?_, ?_, ?_, ?_, ?_⟩ <;> decide +kernel

/-- Where lane l's access of a plain, strided or gathered instruction stands, in bytes past the shelf's start. -/
def offOf (u : Vu) (i : VI) (how l : Nat) : Int :=
  (u.sreg i.va : Int) + if how = 0 then ((l * typeBytes i.type : Nat) : Int) else if how = 1 then l * i.imm else (u.lane i.vb l : Int)

/-- Obligations.VectorMemory, part 1: contiguous, strided and gathered loads, and a packed load of every format. -/
theorem witness_VectorLoads :
    (∀ c ∈ [(0x28, 0, 0), (0x2A, 1, 6), (0x2C, 2, 0)], ∀ ty ∈ [0, 1],
      let w := vi c.1 3 1 4 1 1 0 ty c.2.2
      Executes 0 c.1 w running ∧ ∀ l, l < 512 → (vuOf running 0).active (viOf w) l = true →
        0 ≤ offOf (vuOf running 0) (viOf w) c.2.1 l ∧
        running.reaches 0 (offOf (vuOf running 0) (viOf w) c.2.1 l).toNat (typeBytes (viOf w).type) = true) ∧
    (∀ f ∈ List.range 10,
      let w := vi 0x2E 3 1 2 1 1 0 0 f
      Executes 0 0x2E w running ∧ ((viOf w).imm % 16).toNat = f ∧ ∀ l, l < 512 → (vuOf running 0).active (viOf w) l = true →
        running.reaches 0 ((vuOf running 0).sreg 1 + (packedAt f l).1) (packedBytes f l) = true) := by
  constructor <;> decide +kernel

/-- Obligations.VectorMemory, part 2: the stores; in each all lanes but those of predicate 1 stay out. -/
theorem witness_VectorStores :
    (∀ c ∈ [(0x29, 0, 0), (0x2B, 1, 6), (0x2D, 2, 0)], ∀ ty ∈ [0, 1],
      let w := vi c.1 3 1 4 1 1 0 ty c.2.2
      Executes 0 c.1 w running ∧ ∀ l ∈ (vuOf running 0).actives (viOf w),
        0 ≤ offOf (vuOf running 0) (viOf w) c.2.1 l ∧
        running.reaches 0 (offOf (vuOf running 0) (viOf w) c.2.1 l).toNat (typeBytes (viOf w).type) = true) ∧
    (∀ l ∈ (vuOf running 0).actives (viOf (vi 0x29 3 1 4 1 1 0 1 0)), ∀ m ∈ (vuOf running 0).actives (viOf (vi 0x29 3 1 4 1 1 0 1 0)), l < m →
      offOf (vuOf running 0) (viOf (vi 0x29 3 1 4 1 1 0 1 0)) 0 l + 2 ≤ offOf (vuOf running 0) (viOf (vi 0x29 3 1 4 1 1 0 1 0)) 0 m) ∧
    (∀ f ∈ List.range 8,
      let w := vi 0x2F 3 1 2 1 1 0 0 f
      Executes 0 0x2F w running ∧ ((viOf w).imm % 16).toNat = f ∧ running.reaches 0 ((vuOf running 0).sreg (viOf w).vc) 4 = true ∧
        ∀ l ∈ (vuOf running 0).actives (viOf w),
          running.reaches 0 ((vuOf running 0).sreg 1 + (packedAt f l).1) (packedBytes f l) = true) := by
  refine ⟨?_, ?_, ?_⟩ <;> decide +kernel

/-- The kiln's VECTOR in the window, for the three faults. -/
def owner : WinOp := { pos := 5, desc := op [(2, 0x28)], st := .running, step := 1 }
def overrun : State := running.modKiln 0 fun x => { x with vu := { x.vu with count := 1048577 } }
def farAway : State := running.modKiln 0 fun x => { x with vu := { x.vu with s := [(1, 0x7FFFFE)] } }

/-- Obligations.VectorFaults: too many instructions; a type that is none; a store that leaves the shelf. -/
theorem witness_VectorFaults :
    (∀ s ∈ [running, overrun, farAway], s.pwr.life = .ready ∧ s.winOp (vuOf s 0).owner.1 (vuOf s 0).owner.2 = some owner ∧ owner.st = .running ∧
      opcodeOf owner.desc = 0x28 ∧ (s.ctx (vuOf s 0).owner.1).ring = .active) ∧
    1048576 < (vuOf overrun 0).count ∧
    (∀ opc ∈ List.range 14, (viOf (vi opc 3 1 2 1 1 0 2 3)).opc = opc ∧ 2 ≤ (viOf (vi opc 3 1 2 1 1 0 2 3)).type) ∧
    ((viOf (vi 0x29 3 1 4 1 1 0 0 0)).opc = 0x29 ∧ ∃ l, l < 512 ∧ (vuOf farAway 0).active (viOf (vi 0x29 3 1 4 1 1 0 0 0)) l = true ∧
      farAway.reaches 0 ((vuOf farAway 0).sreg (viOf (vi 0x29 3 1 4 1 1 0 0 0)).va + l * typeBytes (viOf (vi 0x29 3 1 4 1 1 0 0 0)).type)
        (typeBytes (viOf (vi 0x29 3 1 4 1 1 0 0 0)).type) = false) :=
  by refine ⟨?_, ?_, ?_, ?_, 0, ?_, ?_, ?_⟩ <;> decide +kernel

end Sys2Proof.Tests.Lanes
end

