-- ==== Sys2Proof/Tests/Managed.lean ====
section
/-! SUPPORT. Small states and operands that meet the hypotheses of statements of Obligations.lean, one theorem a statement or part of
one, one bracket a state; what an earlier bracket shows of the same terms is not said again. -/

set_option Elab.async false

namespace Sys2Proof.Tests.Managed
open Sys2Proof Sys2Proof.Machine Sys2Proof.Safety Sys2Proof.Tests

def M (life : Life) (f : Trust → Trust) (i3c := some 9) : State := { work {} (op []) with pwr := { life := life }, trust := f { i3c := i3c, serial := 0x77, idOk := true } }
def nn : List Byte := leBytes 32 12345
def lg : LogRec := { seq := 4, datum := 0, code := 5, context := 0, kind := 1, flags := 0, origin := 0, body := 9 }
def m0 := M .ready id none
def m1 := { M .ready id with log := { head := 5, recs := [lg] } }
def m2 := M .ready fun t => { t with idOk := false }
def m5 : State := { m1 with log := { m1.log with start := [0x0901] } }
def fw0 : FwSlot := { securityVersion := 1, fwVersion := 2 }
def fwB : FwSlot := { fw0 with magic := 0 }
def ow : OwnerRec := { publicKey := [7], signature := { valid := true } }
def owB : OwnerRec := { ow with serial := 0x78 }
def f2_6 : State := (M .recovery id)
def m3 := M .ready fun t => { t with verified := [1], stagedFw := some fw0, stagedOwner := some ow }
def m4 := M .ready fun t => { t with verified := [1], stagedFw := some fwB, stagedOwner := some owB }
def pr : State := work {} (op [(2,0x10),(24,1),(28,1),(32,0),(40,0x11),(48,scr 0x100000),(64,scr 0x100010),(88,scr 0x100020)])
def prw : WinOp := (pr.winOp 0 5).getD { pos := 0, desc := 0 }
def prR : Run := ((checkProduct { prodOf prw.desc with k := 1 }).run (startRun pr arg prw)).2

/-- Obligations.ManagementServes, part 1. -/
theorem witness_ManagementServes_1 :
    (m1.i3cHears = true ∧ m1.log.start[4]? = none ∧ m1.fwHears = true ∧ m1.trust.idOk = true ∧ nn.length = 32 ∧ 33 < 64 ∧ (33 = 0 ∨ 16 < 33) ∧
      ((List.find? (fun q => q.seq == 4) m1.log.recs).isSome = true) ∧ 4 < m1.log.head ∧ m1.log.head < 4 + 16384 ∧ 33 % 1024 ≠ 0 ∧
      regCode (blockAddr 4 0) = 0 ∧ (specOf (inForceAddr (blockAddr 4 0))).isSome = true ∧ 4 < 12) ∧
    (m0.fwHears = false ∧ (m0.i3cHears = false ∨ 1024 ≠ 42 ∧ 1024 < 44)) ∧
    (m2.fwHears = true ∧ m2.trust.idOk = false ∧ (m2.log.head ≤ 17 ∨ 17 + 16384 ≤ m2.log.head) ∧ 1024 % 1024 = 0 ∧ (16 < 17 ∨ 65536 ≤ 1024) ∧
      regCode (blockAddr 4 1) ≠ 0) ∧
    (64 ≤ 1024 ∧ 5 ≤ 16 ∧ 1024 < 65536) ∧
    (([] : List Nat).length ≠ 32) ∧
    (m5.i3cHears = true ∧ m5.log.start[0]? = some 2305) :=
  by refine ⟨?_, ?_, ?_, ?_, ?_, ?_⟩ <;> decide +kernel

/-- Obligations.ManagementServes, part 2. -/
theorem witness_ManagementServes_2 :
    ((m3.pwr.life = Life.off ∨ m3.trust.i3c ≠ none) ∧ m3.i3cHears = true ∧ (0 = 0 ∨ 0 = 255) ∧ (¬(2 = 0 ∨ 2 = 1 ∨ 2 = 127 ∨ 2 = 255)) ∧
      2 ≠ 0 ∧ m3.pwr.life ≠ Life.recovery ∧ m3.trust.running < 2 ∧ m3.trust.verified.contains 1 = true ∧ m3.pwr.life ≠ Life.off ∧
      m3.booting = false ∧ m3.trust.stagedFw = some fw0 ∧ (fw0.magic = 1180119636 ∧ fw0.version = 1 ∧ fw0.stepping = 176 ∧
      m3.trust.romDigests[fw0.keyIndex]? = some (Sha3.sha3 fw0.publicKey) ∧ fw0.signature.valid = true ∧
      ∀ (p : FwPart), p ∈ fw0.components → fitBytes 32 p.digest = Sha3.sha3 (List.take p.length (List.drop (p.offset - 4096) fw0.body))) ∧
      m3.trust.stagedOwner = some ow ∧ (ow.signature.valid = true ∧ ow.keyIndex < 4 ∧ (ow.serial = 0 ∨ ow.serial = m3.trust.serial))) ∧
    (m0.pwr.life ≠ Life.off ∧ m0.trust.i3c = none ∧ m0.i3cHears = false ∧ m0.trust.stagedFw = none) ∧
    (m1.i3cHears = true ∧ 0 < 3 ∧ 3 < 255 ∧ (1 = 0 ∨ 1 = 1 ∨ 1 = 127 ∨ 1 = 255) ∧ m1.trust.verified.contains 1 = false) ∧
    (m4.pwr.life ≠ Life.off ∧ m4.booting = false ∧ m4.trust.stagedFw = some fwB ∧ (¬(fwB.magic = 1180119636 ∧ fwB.version = 1 ∧
      fwB.stepping = 176 ∧ m4.trust.romDigests[fwB.keyIndex]? = some (Sha3.sha3 fwB.publicKey) ∧ fwB.signature.valid = true ∧
      ∀ (p : FwPart), p ∈ fwB.components → fitBytes 32 p.digest = Sha3.sha3 (List.take p.length (List.drop (p.offset - 4096) fwB.body)))) ∧
      m4.trust.stagedOwner = some owB ∧ (¬(owB.signature.valid = true ∧ owB.keyIndex < 4 ∧
      (owB.serial = 0 ∨ owB.serial = m4.trust.serial)))) ∧
    (f2_6.i3cHears = true ∧ f2_6.pwr.life = Life.recovery) :=
  by refine ⟨?_, ?_, ?_, ?_, ?_⟩ <;> decide +kernel

/-- Obligations.BadLengthsAreRefused. -/
theorem witness_BadLengthsAreRefused :
    ((Dispatched pr arg prw 16 none ∧ Released pr arg.ctx prw ∧ ((prodOf prw.desc).k = 0 ∨ 131072 < (prodOf prw.desc).k) ∧
      (pr.ctx arg.ctx).ring = RingState.active) ∧
      (ExceptT.run (checkProduct { prodOf prw.desc with k := 1 }) (startRun pr arg prw) = (Except.ok (), prR))) :=
  ⟨by decide +kernel, ends_eq (by decide +kernel)⟩

end Sys2Proof.Tests.Managed
end

