-- ==== Sys2Proof/Tests/Pages.lean ====
section
/-! SUPPORT. Small states and operands that meet the hypotheses of statements of Obligations.lean, one theorem a statement or part of
one, one bracket a state; what an earlier bracket shows of the same terms is not said again. -/

set_option Elab.async false

namespace Sys2Proof.Tests.Pages
open Sys2Proof Sys2Proof.Machine Sys2Proof.Safety Sys2Proof.Tests

def wop (fs : List (Nat × Nat)) : WinOp := { pos := 5, desc := op fs, st := .running, step := 1 }
def one (fs : List (Nat × Nat)) (mem : List (Nat × Nat × Nat)) : State :=
  let s := blocks (work {} (op fs)) [(1,0,0x10000000),(1,0x100,0x20000000),(1,0x108,2 + (8<<<21) + (1<<<40))]
  withMem { s with pframes := [(frameKey 0 0, {generation := 1, count := 1})] } mem
def r0 := 0x10000000
def seqm (len : Nat) : List (Nat × Nat × Nat) := [(r0+3*128,8,1), (r0+3*128+16,4,len), (r0+0xC0000+3*4096,8,2^20+2^24)]
def xp := 0x100000
def xl := 0x100100
def fw := [(2,0x18),(24,1),(27,1),(32,scr xp),(40,scr xl),(48,scr 0x100200),(56,scr 0x100300),(64,scr 0x100400)]
def attFwd_2 : State := (one fw (seqm 2 ++ [(xp+10,1,1),(xl,2,3),(xl+4,4,1),(0x20000000,8,12345),(0x100200,8,2^50)]))
def bw := [(2,0x19),(16,0x100),(24,1),(27,1),(32,scr xp),(40,scr xl),(48,scr 0x100200),(56,scr 0x100300),(64,scr 0x100400),(72,scr 0x100500),(80,scr 0x100600),(88,scr 0x100700),(96,scr 0x100900)]
def attBwd_2 : State := (one bw (seqm 2 ++ [(xp+10,1,1),(xl,2,3),(xl+4,4,1),(0x20000000,8,12345),(0x100200,8,2^50)]))
def ap := [(2,0x1A),(26,2),(24,3),(28,1),(40,scr 0x110000),(48,scr 0x120000)]
def inf := [(0x110000,4,2^20),(0x120000,4,5)]
def wp : WinOp := { wop ap with wait := some Wait.page }
def heldS (s : State) (g : Nat) : State := { s with pframes := [(frameKey 0 g, {generation := 1, count := 1})] }
def apOwn : State := let s := one ap (seqm 2 ++ inf); { s with pframes := [(frameKey 0 0, {generation := 1, count := 1})] }
def parked (s : State) : State := s.modWin 0 5 fun w => { w with wait := some Wait.page }
def apNew : State := let s := one ap (seqm 64 ++ inf); { s with pframes := [(frameKey 0 0, {generation := 1, count := 1})] }
def apRes_2 : State := (parked apNew)
def rf := [(2,0x1A),(26,7),(24,3),(28,0),(40,scr 0x110000),(48,scr 0x120000)]
def rfS (w : Option Wait) : State := let s := one rf (seqm 2 ++ [(0x110000,4,2^20),(0x120000,4,5)])
 { s with pframes := [(frameKey 0 0, {generation := 2}), (frameKey 0 1, {generation := 9})] }.modWin 0 5 fun v => { v with wait := w }
def rfRes_2 : State := (rfS (some Wait.page))
def rfRes_3 : WinOp := { wop rf with wait := some Wait.page }
def pn := [(2,0x1A),(26,4),(24,3)]
def pin_2 : State := (heldS (one pn (seqm 2)) 0)
def fk := [(2,0x1A),(26,3),(24,4),(28,2),(32,3)]
def fork_2 : State := (heldS (one fk (seqm 2)) 0)

/-- Obligations.AttentionCompletes. -/
theorem witness_AttentionCompletes :
    ((attFwd_2.upsets = [] ∧ Released attFwd_2 arg.ctx (wop fw) ∧ Fresh (wop fw) ∧
      HasFields (wop fw).desc [(24, 2, 1), (27, 1, 1), (28, 4, 0)] ∧ 1 ≤ 1 ∧ 1 ≤ 64 ∧ 1 % (attFwd_2.pool (attFwd_2.seqPool 3)).heads = 0 ∧
      InScratch attFwd_2 arg.ctx ((wop fw).desc.field 32 8) 64 xp ∧ attFwd_2.memNat (xp + 8) 2 = 0 ∧ attFwd_2.memNat (xp + 10) 1 ≤ 1 ∧
      InScratch attFwd_2 arg.ctx ((wop fw).desc.field 40 8) 32 xl ∧ attFwd_2.memNat xl 2 = 3 ∧ 3 < 6144 ∧ attFwd_2.memNat (xl + 4) 4 = 1) ∧
      (attFwd_2.memNat (xl + 8) 4 = 0 ∧
      InScratch attFwd_2 arg.ctx ((wop fw).desc.field 48 8) (4 * 1 * (attFwd_2.pool (attFwd_2.seqPool 3)).dim) 1049088 ∧
      inMemory (attFwd_2.seqRec 3) 128 = true ∧ inMemory (attFwd_2.seqList 3) 4096 = true ∧ attFwd_2.memNat (attFwd_2.seqRec 3) 1 = 1 ∧
      attFwd_2.memNat (attFwd_2.seqRec 3 + 4) 2 = arg.ctx ∧ (wop fw).desc.field 26 1 < (attFwd_2.pool (attFwd_2.seqPool 3)).layers ∧
      (attFwd_2.pool (attFwd_2.seqPool 3)).latent = false ∧ (attFwd_2.pool (attFwd_2.seqPool 3)).ok = true ∧
      (attFwd_2.pool (attFwd_2.seqPool 3)).frames ≠ 0 ∧ attFwd_2.seqWindow 3 = 0 ∧ attFwd_2.seqLength 3 ((wop fw).desc.field 26 1) ≤ 64 ∧
      (0 < attFwd_2.seqLength 3 ((wop fw).desc.field 26 1) → attFwd_2.holdsFrame (attFwd_2.seqPool 3) (attFwd_2.pageEntry 3 0) = true ∧
      inMemory ((attFwd_2.pool (attFwd_2.seqPool 3)).frameAt (attFwd_2.pageEntry 3 0).frame) (attFwd_2.pool (attFwd_2.seqPool 3)).pageSize = true) ∧
      Dispatched attFwd_2 arg (wop fw) 24 none) ∧ (bits ((wop fw).desc.field 16 8) 8 2 = 0 ∧
      HasFields (wop fw).desc [(72, 8, 0), (84, 44, 0)] ∧
      InScratch attFwd_2 arg.ctx ((wop fw).desc.field 56 8) (4 * 1 * (attFwd_2.pool (attFwd_2.seqPool 3)).dim) 1049344 ∧
      InScratch attFwd_2 arg.ctx ((wop fw).desc.field 64 8) (8 * 1) 1049600)) ∧
    ((attBwd_2.upsets = [] ∧ Released attBwd_2 arg.ctx (wop bw) ∧ Fresh (wop bw) ∧
      HasFields (wop bw).desc [(24, 2, 1), (27, 1, 1), (28, 4, 0)] ∧ 1 % (attBwd_2.pool (attBwd_2.seqPool 3)).heads = 0 ∧
      InScratch attBwd_2 arg.ctx ((wop bw).desc.field 32 8) 64 xp ∧ attBwd_2.memNat (xp + 8) 2 = 0 ∧ attBwd_2.memNat (xp + 10) 1 ≤ 1 ∧
      InScratch attBwd_2 arg.ctx ((wop bw).desc.field 40 8) 32 xl ∧ attBwd_2.memNat xl 2 = 3 ∧ attBwd_2.memNat (xl + 4) 4 = 1 ∧
      attBwd_2.memNat (xl + 8) 4 = 0 ∧
      InScratch attBwd_2 arg.ctx ((wop bw).desc.field 48 8) (4 * 1 * (attBwd_2.pool (attBwd_2.seqPool 3)).dim) 1049088 ∧
      inMemory (attBwd_2.seqRec 3) 128 = true) ∧ (inMemory (attBwd_2.seqList 3) 4096 = true ∧ attBwd_2.memNat (attBwd_2.seqRec 3) 1 = 1 ∧
      attBwd_2.memNat (attBwd_2.seqRec 3 + 4) 2 = arg.ctx ∧ (wop bw).desc.field 26 1 < (attBwd_2.pool (attBwd_2.seqPool 3)).layers ∧
      (attBwd_2.pool (attBwd_2.seqPool 3)).latent = false ∧ (attBwd_2.pool (attBwd_2.seqPool 3)).ok = true ∧
      (attBwd_2.pool (attBwd_2.seqPool 3)).frames ≠ 0 ∧ attBwd_2.seqWindow 3 = 0 ∧ attBwd_2.seqLength 3 ((wop bw).desc.field 26 1) ≤ 64 ∧
      (0 < attBwd_2.seqLength 3 ((wop bw).desc.field 26 1) → attBwd_2.holdsFrame (attBwd_2.seqPool 3) (attBwd_2.pageEntry 3 0) = true ∧
      inMemory ((attBwd_2.pool (attBwd_2.seqPool 3)).frameAt (attBwd_2.pageEntry 3 0).frame) (attBwd_2.pool (attBwd_2.seqPool 3)).pageSize = true) ∧
      Dispatched attBwd_2 arg (wop bw) 25 none ∧ bits ((wop bw).desc.field 16 8) 8 2 = 1 ∧
      HasFields (wop bw).desc [(104, 8, 0), (116, 12, 0)] ∧ attBwd_2.memNat (xl + 16) 8 = 0) ∧
      (InScratch attBwd_2 arg.ctx ((wop bw).desc.field 56 8) (4 * 1 * (attBwd_2.pool (attBwd_2.seqPool 3)).dim) 1049344 ∧
      InScratch attBwd_2 arg.ctx ((wop bw).desc.field 64 8) (4 * 1 * (attBwd_2.pool (attBwd_2.seqPool 3)).dim) 1049600 ∧
      InScratch attBwd_2 arg.ctx ((wop bw).desc.field 72 8) (8 * 1) 1049856 ∧
      InScratch attBwd_2 arg.ctx ((wop bw).desc.field 80 8) (4 * 1 * (attBwd_2.pool (attBwd_2.seqPool 3)).dim) 1050112 ∧
      InScratch attBwd_2 arg.ctx ((wop bw).desc.field 88 8) (4 * (attBwd_2.pool (attBwd_2.seqPool 3)).heads * (attBwd_2.pool (attBwd_2.seqPool 3)).dim * attBwd_2.seqLength 3 ((wop bw).desc.field 26 1)) 1050368 ∧
      InScratch attBwd_2 arg.ctx ((wop bw).desc.field 96 8) (4 * (attBwd_2.pool (attBwd_2.seqPool 3)).heads * (attBwd_2.pool (attBwd_2.seqPool 3)).dim * attBwd_2.seqLength 3 ((wop bw).desc.field 26 1)) 1050880)) :=
  ⟨(by refine ⟨?_, ?_, ?_⟩ <;> decide +kernel),
   (by refine ⟨?_, ?_, ?_⟩ <;> decide +kernel)⟩

/-- Obligations.PageControlRecords, part 2. -/
theorem witness_PageControlRecords_2 :
    ((apRes_2.upsets = [] ∧ Released apRes_2 arg.ctx wp ∧ wp.progress = 0 ∧ wp.reads = [] ∧ wp.desc.field 24 2 = 3 ∧ 3 < 6144 ∧
      wp.desc.field 57 71 = 0 ∧ inMemory (apRes_2.seqRec 3) 128 = true ∧ inMemory (apRes_2.seqList 3) 4096 = true ∧
      apRes_2.memNat (apRes_2.seqRec 3) 1 = 1 ∧ apRes_2.memNat (apRes_2.seqRec 3 + 4) 2 = arg.ctx ∧
      (apRes_2.ctx arg.ctx).pageActs.contains (PageAct.close 3) = false ∧ wp.desc.field 28 4 = 1 ∧ wp.desc.field 56 1 = 0 ∧
      apRes_2.seqWindow 3 = 0 ∧ (apRes_2.pool (apRes_2.seqPool 3)).latent = false) ∧ ((apRes_2.pool (apRes_2.seqPool 3)).ok = true ∧
      (apRes_2.pool (apRes_2.seqPool 3)).frames ≠ 0 ∧ wp.desc.field 27 1 < (apRes_2.pool (apRes_2.seqPool 3)).layers ∧
      apRes_2.seqFirst 3 + apRes_2.seqLength 3 (wp.desc.field 27 1) < 2 ^ 31 ∧ apRes_2.seqLength 3 (wp.desc.field 27 1) < 32768 ∧
      InScratch apRes_2 arg.ctx (wp.desc.field 40 8) (4 * (apRes_2.pool (apRes_2.seqPool 3)).heads * (apRes_2.pool (apRes_2.seqPool 3)).dim) 1114112 ∧
      InScratch apRes_2 arg.ctx (wp.desc.field 48 8) (4 * (apRes_2.pool (apRes_2.seqPool 3)).heads * (apRes_2.pool (apRes_2.seqPool 3)).dim) 1179648 ∧
      (inMemory ((apRes_2.pool (apRes_2.seqPool 3)).frameAt 1) (apRes_2.pool (apRes_2.seqPool 3)).pageSize = true ∧
      (apRes_2.seqRec 3 + 128 ≤ (apRes_2.pool (apRes_2.seqPool 3)).frameAt 1 ∨ (apRes_2.pool (apRes_2.seqPool 3)).frameAt 1 + (apRes_2.pool (apRes_2.seqPool 3)).pageSize ≤ apRes_2.seqRec 3) ∧
      (apRes_2.seqList 3 + 4096 ≤ (apRes_2.pool (apRes_2.seqPool 3)).frameAt 1 ∨ (apRes_2.pool (apRes_2.seqPool 3)).frameAt 1 + (apRes_2.pool (apRes_2.seqPool 3)).pageSize ≤ apRes_2.seqList 3)) ∧
      apRes_2.step arg.ctx < 2 ^ 64 ∧ Dispatched apRes_2 arg wp 26 (some 2) ∧
      (apRes_2.pageEntry 3 (apRes_2.seqLength 3 (wp.desc.field 27 1) / 64)).valid = false ∧ apRes_2.freeFrame (apRes_2.seqPool 3) = some 1 ∧
      wp.wait = some Wait.page)) ∧
    ((rfRes_2.upsets = [] ∧ Released rfRes_2 arg.ctx rfRes_3 ∧ rfRes_3.progress = 0 ∧ rfRes_3.reads = [] ∧ rfRes_3.desc.field 24 2 = 3 ∧
      rfRes_3.desc.field 57 71 = 0 ∧ inMemory (rfRes_2.seqRec 3) 128 = true ∧ inMemory (rfRes_2.seqList 3) 4096 = true ∧
      Dispatched rfRes_2 arg rfRes_3 26 (some 7) ∧ rfRes_2.memNat (rfRes_2.seqRec 3) 1 = 1 ∧
      rfRes_2.memNat (rfRes_2.seqRec 3 + 4) 2 = arg.ctx ∧ (rfRes_2.ctx arg.ctx).pageActs.contains (PageAct.close 3) = false ∧
      rfRes_3.desc.field 56 1 = 0 ∧ rfRes_2.seqWindow 3 = 0 ∧ (rfRes_2.pool (rfRes_2.seqPool 3)).latent = false ∧
      (rfRes_2.pool (rfRes_2.seqPool 3)).ok = true) ∧ ((rfRes_2.pool (rfRes_2.seqPool 3)).frames ≠ 0 ∧
      rfRes_3.desc.field 28 4 < rfRes_2.seqBlocks 3 ∧ rfRes_3.desc.field 28 4 < 512 ∧
      (rfRes_2.pageEntry 3 (rfRes_3.desc.field 28 4)).valid = true ∧
      rfRes_2.holdsFrame (rfRes_2.seqPool 3) (rfRes_2.pageEntry 3 (rfRes_3.desc.field 28 4)) = false ∧
      rfRes_2.freeFrame (rfRes_2.seqPool 3) = some 0 ∧ rfRes_2.step arg.ctx < 2 ^ 64 ∧
      InScratch rfRes_2 arg.ctx (rfRes_3.desc.field 40 8) (4 * (rfRes_2.pool (rfRes_2.seqPool 3)).heads * (rfRes_2.pool (rfRes_2.seqPool 3)).dim * (64 * (rfRes_2.pool (rfRes_2.seqPool 3)).layers)) 1114112 ∧
      InScratch rfRes_2 arg.ctx (rfRes_3.desc.field 48 8) (4 * (rfRes_2.pool (rfRes_2.seqPool 3)).heads * (rfRes_2.pool (rfRes_2.seqPool 3)).dim * (64 * (rfRes_2.pool (rfRes_2.seqPool 3)).layers)) 1179648 ∧
      (inMemory ((rfRes_2.pool (rfRes_2.seqPool 3)).frameAt 0) (rfRes_2.pool (rfRes_2.seqPool 3)).pageSize = true ∧
      (rfRes_2.seqRec 3 + 128 ≤ (rfRes_2.pool (rfRes_2.seqPool 3)).frameAt 0 ∨ (rfRes_2.pool (rfRes_2.seqPool 3)).frameAt 0 + (rfRes_2.pool (rfRes_2.seqPool 3)).pageSize ≤ rfRes_2.seqRec 3) ∧
      (rfRes_2.seqList 3 + 4096 ≤ (rfRes_2.pool (rfRes_2.seqPool 3)).frameAt 0 ∨ (rfRes_2.pool (rfRes_2.seqPool 3)).frameAt 0 + (rfRes_2.pool (rfRes_2.seqPool 3)).pageSize ≤ rfRes_2.seqList 3)) ∧
      rfRes_3.wait = some Wait.page)) ∧
    ((apOwn.upsets = [] ∧ Released apOwn arg.ctx (wop ap) ∧ (wop ap).progress = 0 ∧ (wop ap).reads = [] ∧ (wop ap).desc.field 24 2 = 3 ∧
      (wop ap).desc.field 57 71 = 0 ∧ inMemory (apOwn.seqRec 3) 128 = true ∧ inMemory (apOwn.seqList 3) 4096 = true ∧
      apOwn.memNat (apOwn.seqRec 3) 1 = 1 ∧ apOwn.memNat (apOwn.seqRec 3 + 4) 2 = arg.ctx ∧
      (apOwn.ctx arg.ctx).pageActs.contains (PageAct.close 3) = false ∧ (wop ap).desc.field 28 4 = 1 ∧ (wop ap).desc.field 56 1 = 0 ∧
      apOwn.seqWindow 3 = 0 ∧ (apOwn.pool (apOwn.seqPool 3)).latent = false ∧ (apOwn.pool (apOwn.seqPool 3)).ok = true) ∧
      ((apOwn.pool (apOwn.seqPool 3)).frames ≠ 0 ∧ (wop ap).desc.field 27 1 < (apOwn.pool (apOwn.seqPool 3)).layers ∧
      apOwn.seqFirst 3 + apOwn.seqLength 3 ((wop ap).desc.field 27 1) < 2 ^ 31 ∧ apOwn.seqLength 3 ((wop ap).desc.field 27 1) < 32768 ∧
      InScratch apOwn arg.ctx ((wop ap).desc.field 40 8) (4 * (apOwn.pool (apOwn.seqPool 3)).heads * (apOwn.pool (apOwn.seqPool 3)).dim) 1114112 ∧
      InScratch apOwn arg.ctx ((wop ap).desc.field 48 8) (4 * (apOwn.pool (apOwn.seqPool 3)).heads * (apOwn.pool (apOwn.seqPool 3)).dim) 1179648 ∧
      (inMemory ((apOwn.pool (apOwn.seqPool 3)).frameAt 0) (apOwn.pool (apOwn.seqPool 3)).pageSize = true ∧
      (apOwn.seqRec 3 + 128 ≤ (apOwn.pool (apOwn.seqPool 3)).frameAt 0 ∨ (apOwn.pool (apOwn.seqPool 3)).frameAt 0 + (apOwn.pool (apOwn.seqPool 3)).pageSize ≤ apOwn.seqRec 3) ∧
      (apOwn.seqList 3 + 4096 ≤ (apOwn.pool (apOwn.seqPool 3)).frameAt 0 ∨ (apOwn.pool (apOwn.seqPool 3)).frameAt 0 + (apOwn.pool (apOwn.seqPool 3)).pageSize ≤ apOwn.seqList 3)) ∧
      apOwn.step arg.ctx < 2 ^ 64 ∧ Dispatched apOwn arg (wop ap) 26 (some 2) ∧
      (apOwn.pageEntry 3 (apOwn.seqLength 3 ((wop ap).desc.field 27 1) / 64)).valid = true ∧
      apOwn.holdsFrame (apOwn.seqPool 3) (apOwn.pageEntry 3 (apOwn.seqLength 3 ((wop ap).desc.field 27 1) / 64)) = true ∧
      (apOwn.pframe (apOwn.seqPool 3) (apOwn.pageEntry 3 (apOwn.seqLength 3 ((wop ap).desc.field 27 1) / 64)).frame).count = 1 ∧
      0 = (apOwn.pageEntry 3 (apOwn.seqLength 3 ((wop ap).desc.field 27 1) / 64)).frame)) ∧
    ((pin_2.upsets = [] ∧ Released pin_2 arg.ctx (wop pn) ∧ (wop pn).progress = 0 ∧ (wop pn).reads = [] ∧ (wop pn).desc.field 24 2 = 3 ∧
      (wop pn).desc.field 57 71 = 0 ∧ inMemory (pin_2.seqRec 3) 128 = true ∧ inMemory (pin_2.seqList 3) 4096 = true ∧
      Dispatched pin_2 arg (wop pn) 26 (some 4) ∧ pin_2.memNat (pin_2.seqRec 3) 1 = 1 ∧ pin_2.memNat (pin_2.seqRec 3 + 4) 2 = arg.ctx ∧
      (pin_2.ctx arg.ctx).pageActs.contains (PageAct.close 3) = false ∧ (wop pn).desc.field 56 1 = 0 ∧ (wop pn).desc.field 40 8 = 0 ∧
      (wop pn).desc.field 48 8 = 0 ∧ (wop pn).events = []) ∧ (pin_2.step arg.ctx < 2 ^ 64)) ∧
    ((fork_2.upsets = [] ∧ Released fork_2 arg.ctx (wop fk) ∧ (wop fk).progress = 0 ∧ (wop fk).reads = [] ∧ (wop fk).desc.field 24 2 = 4 ∧
      4 < 6144 ∧ (wop fk).desc.field 57 71 = 0 ∧ inMemory (fork_2.seqRec 4) 128 = true ∧ inMemory (fork_2.seqList 4) 4096 = true ∧
      Dispatched fork_2 arg (wop fk) 26 (some 3) ∧ fork_2.memNat (fork_2.seqRec 4) 1 = 0 ∧ (wop fk).desc.field 56 1 = 0 ∧
      (wop fk).desc.field 40 8 = 0 ∧ (wop fk).desc.field 48 8 = 0) ∧ ((wop fk).events = [] ∧ fork_2.tableFull = false ∧ arg.ctx < 2 ^ 16 ∧
      fork_2.step arg.ctx < 2 ^ 64 ∧ (wop fk).desc.field 32 2 < 6144 ∧ inMemory (fork_2.seqRec ((wop fk).desc.field 32 2)) 128 = true ∧
      inMemory (fork_2.seqList ((wop fk).desc.field 32 2)) 4096 = true ∧ fork_2.memNat (fork_2.seqRec ((wop fk).desc.field 32 2)) 1 = 1 ∧
      fork_2.memNat (fork_2.seqRec ((wop fk).desc.field 32 2) + 4) 2 = arg.ctx ∧
      (∀ (l : Nat), l < (fork_2.pool (fork_2.seqPool ((wop fk).desc.field 32 2))).layers → (wop fk).desc.field 28 4 ≤ fork_2.seqLength ((wop fk).desc.field 32 2) l) ∧
      (∀ (e : PageEntry), e ∈ List.filter (fun e => fork_2.holdsFrame (fork_2.seqPool ((wop fk).desc.field 32 2)) e) (List.map (fun j => fork_2.pageEntry ((wop fk).desc.field 32 2) j) (List.range (min (ceilDiv ((wop fk).desc.field 28 4) 64) (if fork_2.seqWindow ((wop fk).desc.field 32 2) = 0 then 512 else fork_2.seqWindow ((wop fk).desc.field 32 2))))) → (fork_2.pframe (fork_2.seqPool ((wop fk).desc.field 32 2)) e.frame).count < 65535) ∧
      min (ceilDiv ((wop fk).desc.field 28 4) 64) (if fork_2.seqWindow ((wop fk).desc.field 32 2) = 0 then 512 else fork_2.seqWindow ((wop fk).desc.field 32 2)) ≤ 512)) :=
  ⟨⟨by decide +kernel, by decide +kernel⟩,
   ⟨by decide +kernel, by decide +kernel⟩,
   ⟨by decide +kernel, by decide +kernel⟩,
   ⟨by decide +kernel, by decide +kernel⟩,
   ⟨by decide +kernel, by decide +kernel⟩⟩

end Sys2Proof.Tests.Pages
end

