-- ==== Sys2Proof/Tests/Powers.lean ====
section
/-! SUPPORT. Small states and operands that meet the hypotheses of statements of Obligations.lean, one theorem a statement or part of
one, one bracket a state; what an earlier bracket shows of the same terms is not said again. -/

set_option Elab.async false

namespace Sys2Proof.Tests.Powers
open Sys2Proof Sys2Proof.Machine Sys2Proof.Safety Sys2Proof.Tests

def src : Src := ⟨0, 7, 9⟩
def pw (p : Power) : State := { up live with pwr := { p with life := .ready }, mem := [(0x100,1),(0x7800000100,2)], host := {up1 := true} }
def pa := pw { transition := some 1 }
def pb := pw {}
def pd := pw { current := 1 }
def pe := pw { current := 0, transition := some 2 }
def wr : State := { work {} (op [(2,1)]) with host := {up0 := true} }
def rcv (c : Nat) : State := { work { step := .running } (op [(2,1)]) with pwr := { life := .silent, recovery := some c, current := 1 } }
def rc0 : State := { rcv 2 with pwr := { (rcv 2).pwr with lost := [0] } }
def rc1 := rcv 2
def off : State := {}
def mism_2 : StartReport := { packageMismatch := some (1, 2, 3) }
def offb : State := { trust := { fwA := { magic := 0 }, fwB := { version := 2 } } }
def onS' : State := { up live with datum := 77, ports := [(0, {})] }
def onBad : State := { onS' with trust := offb.trust }
def fullm_2 : StartReport := { packageMismatch := some (1, 2, 3) }
def onLost : State := { onS' with pwr := { onS'.pwr with lost := [0] } }
def offLost : State := { pwr := { lost := [0] } }
def ck (l : List Nat) (life : Life) : State := { up live with pwr := { life := life, lost := l }, dat := { st := .aligned }, host := { up0 := true, up1 := true } }
def ck1 := ck [] .ready
def ck2 := ck [0] .silent
def fc (f : Fcount) : State := { up live with pwr := { life := .ready, fcount := [(3, f)] }, datum := 5 }
def fc1 := fc { running := true, limit := 100 + (200 <<< 32), ctrl := 2^33 }
def fc0 := fc {}
def fc2 := fc { running := true, limit := 100 + (200 <<< 32), ctrl := 2^34 }
def fc3 := fc { running := true, limit := 100 + (200 <<< 32), ctrl := 2^34, told := some 4 }
def ip (p : Power) : State := { work {} (op []) with pwr := { p with life := .ready } }
def ip1 := ip {}
def ip2 := ip { excursion := true }
def whld : State := { (wr : State) with pwr := { (wr : State).pwr with life := .held } }

/-- Obligations.PowerStateChanges. -/
theorem witness_PowerStateChanges :
    (pa.pwr.life = Life.ready ∧ pa.pwr.transition.isSome = true ∧ (pa.pwr.transition).isSome = true ∧ pa.pwr.heldReq = none ∧
      pa.pwr.current < 2 ∧ (pa.pwr.transition.get (by decide +kernel)) < 2) ∧
    (pb.pwr.life = Life.ready ∧ pb.pwr.transition = none ∧ pb.pwr.current = 0 ∧ pb.mayLower 1 = true ∧ pb.mayLower 2 = true) ∧
    (pd.pwr.life = Life.ready ∧ pd.pwr.transition = none ∧ 0 < pd.pwr.current) ∧
    (pe.pwr.life = Life.ready ∧ pe.pwr.transition = some 2 ∧ pe.pwr.heldReq = none) :=
  by refine ⟨?_, ?_, ?_, ?_⟩ <;> decide +kernel

/-- Obligations.ResetsAndRecoveries, part 1. -/
theorem witness_ResetsAndRecoveries_1 :
    (wr.pwr.failing = false ∧ wr.log.capture = none ∧ wr.slotFault (if wr.block2Reads = true then wr.trust.selector % 2 else 0) = 0 ∧
      wr.takesWrite src = true ∧ wr.pwr.life = Life.ready ∧ (wr.pwr.life = Life.ready ∨ wr.pwr.life = Life.silent)) ∧
    (whld.pwr.failing = false ∧ whld.log.capture = none ∧ whld.pwr.life = Life.held ∧ whld.booting = false) :=
  by refine ⟨?_, ?_⟩ <;> decide +kernel

/-- Obligations.ResetsAndRecoveries, part 2. -/
theorem witness_ResetsAndRecoveries_2 :
    (rc0.pwr.recovery = some 2 ∧ rc0.stillSilent = true) ∧
    (rc1.pwr.recovery = some 2 ∧ rc1.pwr.life = Life.silent ∧ rc1.stillSilent = false) :=
  by refine ⟨?_, ?_⟩ <;> decide +kernel

/-- Obligations.ColdStarts. -/
theorem witness_ColdStarts :
    ((onS'.trust.cfgA = none ∧ onS'.trust.cfgB = none ∧ onS'.log.capture = none ∧ onS'.pwr.failing = false ∧ onS'.takesWrite src = true ∧
      (onS'.coldBase 1).sourceLost = false ∧ (onS'.coldBase 1).thermLow = false ∧
      onS'.slotFault (if onS'.block2Reads = true then onS'.trust.selector % 2 else 0) = 0 ∧ onS'.pwr.life ≠ Life.off) ∧
     (off.trust.cfgA = none ∧ off.trust.cfgB = none ∧ off.log.capture = none ∧ off.pwr.failing = false ∧ off.pwr.life = Life.off ∧
      (off.coldBase 0).sourceLost = false ∧ (off.coldBase 0).thermLow = false ∧
      off.slotFault (if off.block2Reads = true then off.trust.selector % 2 else 0) = 0) ∧
     (mism_2.packageMismatch = some (1, 2, 3) ∧ mism_2.idFault = 0 ∧ mism_2.badCopies = []) ∧
     (offb.trust.cfgA = none ∧ offb.trust.cfgB = none ∧ offb.log.capture = none ∧ offb.pwr.failing = false ∧ offb.pwr.life = Life.off ∧
      (offb.coldBase 0).sourceLost = false ∧ (offb.coldBase 0).thermLow = false ∧ offb.slotFault 0 ≠ 0 ∧ offb.slotFault 1 ≠ 0) ∧
     (onBad.trust.cfgA = none ∧ onBad.trust.cfgB = none ∧ onBad.log.capture = none ∧ onBad.pwr.failing = false ∧ onBad.takesWrite src = true ∧
      (onBad.coldBase 1).sourceLost = false ∧ (onBad.coldBase 1).thermLow = false ∧ onBad.slotFault 0 ≠ 0 ∧ onBad.slotFault 1 ≠ 0) ∧
     (fullm_2.packageMismatch = some (1, 2, 3) ∧ fullm_2.idFault = 0 ∧ fullm_2.badCopies = []) ∧
     (onLost.trust.cfgA = none ∧ onLost.trust.cfgB = none ∧ onLost.log.capture = none ∧ onLost.pwr.failing = false ∧
      onLost.takesWrite src = true ∧ ((onLost.coldBase 1).sourceLost = true ∨ (onLost.coldBase 1).thermLow = true))) ∧
    (offLost.trust.cfgA = none ∧ offLost.trust.cfgB = none ∧ offLost.log.capture = none ∧ offLost.pwr.failing = false ∧
      offLost.pwr.life = Life.off ∧ ((offLost.coldBase 0).sourceLost = true ∨ (offLost.coldBase 0).thermLow = true)) :=
  ⟨by refine ⟨?_, ?_, ?_, ?_, ?_, ?_, ?_⟩ <;> decide +kernel,
   by decide +kernel⟩

/-- Obligations.ClocksAndTheDatum, part 1. -/
theorem witness_ClocksAndTheDatum_1 :
    (ck1.pwr.life ≠ Life.off ∧ 0 < 13 ∧ ck1.pwr.lost.contains 0 = false ∧ systemClass 0 = true ∧ ck1.log.capture = none) ∧
    (ck2.pwr.life ≠ Life.off ∧ ck2.pwr.lost.contains 0 = true ∧ ck2.pwr.life = Life.silent ∧ ck2.pwr.recovery = none) ∧
    (3 < 13 ∧ ck1.pwr.lost.contains 3 = false ∧ (3 = 3 ∨ 3 = 4) ∧ ck1.booting = false) :=
  by refine ⟨?_, ?_, ?_⟩ <;> decide +kernel

/-- Obligations.ClocksAndTheDatum, part 2. -/
theorem witness_ClocksAndTheDatum_2 :
    (3 < 16 ∧ fc1.pwr.life = Life.ready ∧ fc1.takesWrite src = true ∧ (fc1.fcount 3).running = true ∧
      ((fc1.fcount 3).ctrl.testBit 34 = false ∨ bits (fc1.fcount 3).limit 0 32 ≤ 150 ∧ 150 ≤ bits (fc1.fcount 3).limit 32 32)) ∧
    (fc0.pwr.life = Life.ready ∧ (fc0.fcount 3).running = false) ∧
    (fc2.pwr.life = Life.ready ∧ (fc2.fcount 3).running = true ∧ (fc2.fcount 3).ctrl.testBit 34 = true ∧
      (201 < bits (fc2.fcount 3).limit 0 32 ∨ bits (fc2.fcount 3).limit 32 32 < 201) ∧ (fc2.fcount 3).told = none) ∧
    (fc3.pwr.life = Life.ready ∧ (fc3.fcount 3).running = true ∧ (fc3.fcount 3).ctrl.testBit 34 = true ∧
      (99 < bits (fc3.fcount 3).limit 0 32 ∨ bits (fc3.fcount 3).limit 32 32 < 99) ∧ (fc3.fcount 3).told = some 4 ∧
      fc3.datum < 4 + 1000000000) :=
  by refine ⟨?_, ?_, ?_, ?_⟩ <;> decide +kernel

/-- Obligations.InputsAndTemperatures, part 1. -/
theorem witness_InputsAndTemperatures_1 :
    (ip2.pwr.life = Life.ready ∧ ip2.pwr.failing = false ∧ ip2.log.capture = none ∧ 48000 < 65536 ∧ 48000 ≤ 48000 ∧ 48000 ≤ 58000) ∧
    (ip1.pwr.life = Life.ready ∧ ip1.pwr.failing = false ∧ ip1.log.capture = none ∧ 47999 < 65536 ∧ (44000 ≤ 47999 ∧
      47999 < 48000 ∨ 58000 < 47999 ∧ 47999 ≤ 60000)) ∧
    (43999 < 65536 ∧ (40000 ≤ 43999 ∧ 43999 < 44000 ∨ 60000 < 43999)) ∧
    (39999 < 65536 ∧ 39999 < 40000) :=
  by refine ⟨?_, ?_, ?_, ?_⟩ <;> decide +kernel

end Sys2Proof.Tests.Powers

namespace Sys2Proof.Tests.Powers2
open Sys2Proof Sys2Proof.Machine Sys2Proof.Safety Sys2Proof.Tests

def pc : State := work {} (op [])
def dt (f : Power → Power) (t : Int) : State := { work {} (op []) with pwr := f { life := .ready } }
def dt1 := dt id 0
def wr1 : WitRec := { cause := 0x0801, captureSeq := 17, datum := 0, head := [], records := [] }
def dt2 : State := { dt1 with log := { capture := some wr1 } }
def up0 : Port := { st := .up, lanes := 15, offset := -5, neighbour := none }
def dm (d : DatumSt) (en : Bool) (ports : List (Nat × Port)) : State := { (if en then up live else up {}) with dat := d, ports := ports, datum := 10^6 }
def m1 := dm { st := .root } true [(0,up0)]
def m1b := dm { st := .aligned } true [(0,up0)]

/-- Obligations.PowerStateChanges. -/
theorem witness_PowerStateChanges :
    (pc.pwr.life = Life.ready ∧ pc.pwr.transition = none ∧ pc.pwr.current = 0 ∧ pc.mayLower 1 = false ∧ pc.mayLower 2 = false) :=
  by decide +kernel

/-- Obligations.InputsAndTemperatures, part 2. -/
theorem witness_InputsAndTemperatures_2 :
    (dt1.pwr.life = Life.ready ∧ 1 < 4 ∧ 2 < dieSensors 1 ∧ dt1.pwr.tripped.contains 1 = false ∧ 399 < 400 ∧ dt1.log.capture = none) ∧
    (400 ≤ 400 ∧ 400 < 460 ∧ dt1.pwr.hot.contains (4 * 1 + 2) = false) ∧
    (460 ≤ 460) ∧
    (dt2.pwr.life = Life.ready ∧ dt2.log.capture = some wr1 ∧ ((dt2.tier.lostChannels.any fun x => decide (x.fst < 4)) = false)) :=
  by refine ⟨?_, ?_, ?_, ?_⟩ <;> decide +kernel

/-- Obligations.ClocksAndTheDatum, part 3. -/
theorem witness_ClocksAndTheDatum_3 :
    (m1.booting = false ∧ (m1.dat.st = DatumState.root ∨ m1.serves m1.upstream.fst = false) ∧
      (m1.serves m1.upstream.fst = true ∨ m1.dat.st = DatumState.root ∨ m1.dat.st = DatumState.unaligned) ∧
      m1.dat.st ≠ DatumState.holdover) ∧
    (m1b.booting = false ∧ m1b.serves m1b.upstream.fst = false ∧ m1b.serves m1b.upstream.snd = false ∧ m1b.dat.st = DatumState.aligned) :=
  by refine ⟨?_, ?_⟩ <;> decide +kernel

end Sys2Proof.Tests.Powers2

namespace Sys2Proof.Tests.Powers3
open Sys2Proof Sys2Proof.Machine Sys2Proof.Safety Sys2Proof.Tests

def up0 : Port := { st := .up, lanes := 15, offset := -5, neighbour := none }
def dm (d : DatumSt) (en : Bool) (ports : List (Nat × Port)) : State := blocks { (if en then up live else up {}) with dat := d, ports := ports, datum := 10^6 } [(10,0x18, 8 + 0x90)]
def m1b := dm { st := .aligned } true [(0,up0)]
def m2 := dm { st := .unaligned } false [(0,up0)]
def m3 := dm { st := .holdover } true [(0,up0)]
def m3b := dm { st := .holdover } true [(0,{ up0 with offset := 1001 })]
def m4 := dm { st := .aligned } false [(1,up0)]
def m7 := dm { st := .aligned, onAlt := true } false [(0,up0)]
def m8 := dm { st := .aligned, onAlt := true } true [(0,up0)]

/-- Obligations.ClocksAndTheDatum, part 3. -/
theorem witness_ClocksAndTheDatum_3 :
    (m3.booting = false ∧ m3.serves m3.upstream.fst = true ∧ (m3.dat.st = DatumState.unaligned ∨ m3.dat.st = DatumState.holdover) ∧
      m3.anyEnabled = true ∧ (m3.port (m3.upstream.fst.getD 0)).offset.natAbs ≤ 1000 ∧ m3.dat.st = DatumState.holdover) ∧
    (m1b.booting = false ∧ m1b.serves m1b.upstream.fst = true ∧ m1b.dat.st = DatumState.aligned ∧ m1b.dat.onAlt = false ∧
      m1b.upstream.fst = some m1b.dat.port) ∧
    (m2.booting = false ∧ m2.serves m2.upstream.fst = true ∧ (m2.dat.st = DatumState.unaligned ∨ m2.dat.st = DatumState.holdover) ∧
      m2.anyEnabled = false) ∧
    (m3b.booting = false ∧ m3b.serves m3b.upstream.fst = true ∧ (m3b.dat.st = DatumState.unaligned ∨ m3b.dat.st = DatumState.holdover) ∧
      m3b.anyEnabled = true ∧ 1000 < (m3b.port (m3b.upstream.fst.getD 0)).offset.natAbs) ∧
    (m4.booting = false ∧ m4.serves m4.upstream.fst = false ∧ m4.serves m4.upstream.snd = true ∧ m4.anyEnabled = false ∧
      (m4.dat.st = DatumState.holdover ∨ m4.dat.st = DatumState.aligned ∧ ¬(m4.dat.onAlt = true ∧ m4.upstream.snd = some m4.dat.port))) ∧
    (m7.booting = false ∧ m7.serves m7.upstream.fst = true ∧ m7.dat.st = DatumState.aligned ∧
      (m7.dat.onAlt = true ∨ m7.upstream.fst ≠ some m7.dat.port) ∧ m7.anyEnabled = false) ∧
    (m8.booting = false ∧ m8.serves m8.upstream.fst = true ∧ m8.dat.st = DatumState.aligned ∧
      (m8.dat.onAlt = true ∨ m8.upstream.fst ≠ some m8.dat.port) ∧ m8.anyEnabled = true ∧
      (m8.port (m8.upstream.fst.getD 0)).offset.natAbs ≤ 1000) :=
  by refine ⟨?_, ?_, ?_, ?_, ?_, ?_, ?_⟩ <;> decide +kernel

end Sys2Proof.Tests.Powers3
end

