-- ==== Sys2Proof/Tests/Queues.lean ====
section
/-! SUPPORT. Small states and operands that meet the hypotheses of statements of Obligations.lean, one theorem a statement or part of
one, one bracket a state; what an earlier bracket shows of the same terms is not said again. -/

set_option Elab.async false

namespace Sys2Proof.Tests.Queues
open Sys2Proof Sys2Proof.Machine Sys2Proof.Safety Sys2Proof.Tests

def ww (d : Desc) : WinOp := { pos := 5, desc := d, st := .running, step := 1 }
def qs (d : Desc) (q : QueueEnd) (recv : Nat) : State := let s := work {} d; let s := page s [(0x078, 0x400000)]; let s := withMem s [(0x400002,1,recv),(0x400003,1,2),(0x400004,4,64),(0x400008,8,0x600000)]; { s with ctxs := [(0, (s.ctx 0).setQueue q)] }
def rec_ (recv : Bool) : QueueRec := { peer := 0, recv := recv, slots := 2, slotBytes := 64, base := 0x600000 }
def dS := op [(2,0x48),(24,0),(32,scr 0x1FFFC0),(40,64)]
def q1 := qs dS {id := 0, sends := 1} 0
def send_7 : QueueRec := (rec_ false)
def q2 := qs dS {id := 0, sends := 5, credits := 3} 0
def credit_7 : QueueRec := (rec_ false)
def dR := op [(2,0x49),(24,0)]
def q3 := qs dR {id := 0, recvs := 3, sizes := [(3,4)]} 1
def recv_7 : QueueRec := (rec_ true)
def q4 := qs dR {id := 0, recvs := 3} 1
def arrive_7 : QueueRec := (rec_ true)
def dL := op [(2,0x4A),(24,0)]
def q5 := qs dL {id := 0, recvs := 3} 1
def release_7 : QueueRec := (rec_ true)
def seqS (d : Desc) : State := 
 let s := blocks (work {} d) [(1,0,0x10000000),(1,0x100,0x20000000),(1,0x108,2 + (8<<<21) + (1<<<40))]
 withMem s [(0x10000000,16,0x101)]
def d1 := op [(2,0x1A),(26,1),(24,6143),(32,512),(35,3),(36,2^31-1)]
def p1 := seqS d1
def d2 := op [(2,0x1A),(26,5),(24,0)]
def p2 := seqS d2
def d3 := op [(2,0x1A),(26,6),(24,0)]
def p3 := seqS d3

/-- Obligations.QueueOperations. -/
theorem witness_QueueOperations :
    ((q1.queueRec arg.ctx 0 = some send_7 ∧ q1.upsets = [] ∧ inMemory (q1.pg arg.ctx 120 + 32 * 0) 32 = true ∧ Released q1 arg.ctx (ww dS) ∧
      Fresh (ww dS) ∧ (ww dS).desc.field 24 1 = 0 ∧ (ww dS).desc.field 25 7 = 0 ∧ Dispatched q1 arg (ww dS) 72 none ∧ send_7.recv = false ∧
      formOf ((ww dS).desc.field 32 8) = Form.scratch 2097088 ∧ (ww dS).desc.field 40 8 = 64 ∧ 64 ≤ send_7.slotBytes ∧
      (ww dS).desc.field 48 80 = 0 ∧ ((q1.ctx arg.ctx).queue 0).sends < ((q1.ctx arg.ctx).queue 0).credits + send_7.slots) ∧ (0 < 64 ∧
      inMemory 2097088 64 = true ∧ q1.pg arg.ctx 40 ≤ 2097088 ∧ 2097088 + 64 ≤ q1.pg arg.ctx 40 + q1.pg arg.ctx 48)) ∧
    (q2.queueRec arg.ctx 0 = some credit_7 ∧ q2.upsets = [] ∧ inMemory (q2.pg arg.ctx 120 + 32 * 0) 32 = true ∧ Released q2 arg.ctx (ww dS) ∧
      Dispatched q2 arg (ww dS) 72 none ∧ credit_7.recv = false ∧ 64 ≤ credit_7.slotBytes ∧
      ((q2.ctx arg.ctx).queue 0).credits + credit_7.slots ≤ ((q2.ctx arg.ctx).queue 0).sends) ∧
    (q3.queueRec arg.ctx 0 = some recv_7 ∧ q3.upsets = [] ∧ inMemory (q3.pg arg.ctx 120 + 32 * 0) 32 = true ∧ Released q3 arg.ctx (ww dR) ∧
      Fresh (ww dR) ∧ (ww dR).desc.field 24 1 = 0 ∧ (ww dR).desc.field 25 7 = 0 ∧ Dispatched q3 arg (ww dR) 73 none ∧ recv_7.recv = true ∧
      (ww dR).desc.field 32 96 = 0 ∧ (alook ((q3.ctx arg.ctx).queue 0).recvs ((q3.ctx arg.ctx).queue 0).sizes).isSome = true ∧
      (ww dR).desc.field 3 1 % 2 = 1) ∧
    (q4.queueRec arg.ctx 0 = some arrive_7 ∧ q4.upsets = [] ∧ inMemory (q4.pg arg.ctx 120 + 32 * 0) 32 = true ∧ Released q4 arg.ctx (ww dR) ∧
      Dispatched q4 arg (ww dR) 73 none ∧ arrive_7.recv = true ∧
      alook ((q4.ctx arg.ctx).queue 0).recvs ((q4.ctx arg.ctx).queue 0).sizes = none) ∧
    (q5.queueRec arg.ctx 0 = some release_7 ∧ q5.upsets = [] ∧ inMemory (q5.pg arg.ctx 120 + 32 * 0) 32 = true ∧ Released q5 arg.ctx (ww dL) ∧
      Fresh (ww dL) ∧ (ww dL).desc.field 24 1 = 0 ∧ (ww dL).desc.field 25 7 = 0 ∧ Dispatched q5 arg (ww dL) 74 none ∧ release_7.recv = true ∧
      (ww dL).desc.field 32 96 = 0) :=
  by refine ⟨⟨by decide +kernel, by decide +kernel⟩, ?_, ?_, ?_, ?_⟩ <;> decide +kernel

/-- Obligations.PageControlRecords, part 1. -/
theorem witness_PageControlRecords_1 :
    (((ww d1).desc.field 24 2 = 6143 ∧ 6143 < 6144 ∧ (ww d1).desc.field 57 71 = 0 ∧ (ww d1).desc.field 56 1 = 0 ∧
      (ww d1).desc.field 40 8 = 0 ∧ (ww d1).desc.field 48 8 = 0 ∧ p1.upsets = [] ∧ Released p1 arg.ctx (ww d1) ∧ Fresh (ww d1) ∧
      inMemory (p1.seqRec 6143) 128 = true ∧ inMemory (p1.seqList 6143) 4096 = true ∧ Dispatched p1 arg (ww d1) 26 (some 1) ∧
      ((ww d1).desc.field 32 2 = 0 ∨ 2 ≤ (ww d1).desc.field 32 2 ∧ (ww d1).desc.field 32 2 ≤ 512) ∧ (ww d1).desc.field 34 1 < 8) ∧
      ((ww d1).desc.field 35 1 < 4 ∧ (ww d1).desc.field 36 4 < 2 ^ 31 ∧ p1.tableFull = false ∧ p1.memNat (p1.seqRec 6143) 1 = 0 ∧
      (p1.pool ((ww d1).desc.field 34 1)).frames ≠ 0 ∧ arg.ctx < 65536 ∧ p1.step arg.ctx < 2 ^ 64)) ∧
    (((ww d2).desc.field 24 2 = 0 ∧ 0 < 6144 ∧ (ww d2).desc.field 57 71 = 0 ∧ (ww d2).desc.field 56 1 = 0 ∧ (ww d2).desc.field 40 8 = 0 ∧
      (ww d2).desc.field 48 8 = 0 ∧ p2.upsets = [] ∧ Released p2 arg.ctx (ww d2) ∧ Fresh (ww d2) ∧ inMemory (p2.seqRec 0) 128 = true ∧
      inMemory (p2.seqList 0) 4096 = true ∧ p2.memNat (p2.seqRec 0) 1 = 1 ∧ p2.memNat (p2.seqRec 0 + 4) 2 = arg.ctx ∧
      (p2.ctx arg.ctx).pageActs.contains (PageAct.close 0) = false) ∧ (Dispatched p2 arg (ww d2) 26 (some 5) ∧ p2.seqPinned 0 = true)) ∧
    ((ww d3).desc.field 24 2 = 0 ∧ (ww d3).desc.field 57 71 = 0 ∧ (ww d3).desc.field 56 1 = 0 ∧ (ww d3).desc.field 40 8 = 0 ∧
      (ww d3).desc.field 48 8 = 0 ∧ p3.upsets = [] ∧ Released p3 arg.ctx (ww d3) ∧ Fresh (ww d3) ∧ inMemory (p3.seqRec 0) 128 = true ∧
      inMemory (p3.seqList 0) 4096 = true ∧ p3.memNat (p3.seqRec 0) 1 = 1 ∧ p3.memNat (p3.seqRec 0 + 4) 2 = arg.ctx ∧
      (p3.ctx arg.ctx).pageActs.contains (PageAct.close 0) = false ∧ Dispatched p3 arg (ww d3) 26 (some 6)) :=
  ⟨⟨by decide +kernel, by decide +kernel⟩,
   ⟨by decide +kernel, by decide +kernel⟩,
   by decide +kernel⟩

end Sys2Proof.Tests.Queues
end

