-- ==== Sys2Proof/Tests/Registers.lean ====
section
/-! SUPPORT. Small states and operands that meet the hypotheses of statements of Obligations.lean, one theorem a statement or part of
one, one bracket a state; what an earlier bracket shows of the same terms is not said again. -/

set_option Elab.async false

namespace Sys2Proof.Tests.Registers
open Sys2Proof Sys2Proof.Machine Sys2Proof.Safety Sys2Proof.Tests

def src : Src := ⟨0, 7, 9⟩
def e2 := let s := withMem (page {up {} with ctxs := [(0, { retirePos := 7, cmdProducer := 9, eventPos := 3, tallyPos := 512, fetchPos := 8 })]} [(0x048,3),(0x028,0x100000),(0x030,0x100000),(0x018,0x200000),(0x020,1),(0x038,0x500000),(0x058,0x40000000)]) [(0x500000,2,7),(0x500002,2,1),(0x200000,8,0x201001)]
          s
def bk (w : List (Nat×Nat)) (busy : Nat) (h : Option (Src × Nat)) : State := { up live with bankS := { written := w, busyUntil := busy, held := h }, datum := 50 }
def k4 := bk [(blockAddr 11 0, 3)] 50 none
def ok_2 : Word := (0x1234500000800)
def ok_r : RegSpec := ((specOf (blockAddr 11 0)).get (by decide +kernel))
def k5 := bk [(blockAddr 11 0, 63)] 50 none
def bad_2 : Word := (0x1234500000800)
def bad_r : RegSpec := ((specOf (blockAddr 11 0)).get (by decide +kernel))
def bad_e : Bad := (((k5.groupBad (k5.tentative [(blockAddr 11 0, 63)]) 11 [(blockAddr 11 0, 63)]).get (by decide +kernel)))
def g1 := up live
def g2 : State := { work {rereadCount := 3, retryCount := 4, ignoredCount := 8 } (op [(2,1)]) with discards := 77, pwr := { life := .ready, lostSince := [1,2,3] } }

/-- Obligations.ContextsAreEnabledAndDisabled. -/
theorem witness_ContextsAreEnabledAndDisabled :
    (e2.pwr.life = Life.ready ∧ (e2.ctx 0).enabled = false ∧ e2.enableBad 0 = none) :=
  by decide +kernel

/-- Obligations.CommitsTakeEffectOrWait. -/
theorem witness_CommitsTakeEffectOrWait :
    (k4.pwr.life = Life.ready ∧ (k4.bankOf src).held = none ∧ (k4.otherBank src).held = none ∧ (k4.bankOf src).busyUntil ≤ k4.datum ∧
      (k4.bankOf src).written = [(blockAddr 11 0, 3)] ∧ place (blockAddr 11 0) = Place.block 11 0 ∧ specOf (blockAddr 11 0) = some ok_r ∧
      ok_r.group = 11 ∧ ok_r.eff = Eff.commit ∧ (BitVec.toNat ok_2).testBit 11 = true ∧
      k4.groupBad (k4.tentative [(blockAddr 11 0, 3)]) 11 [(blockAddr 11 0, 3)] = none) ∧
    (k5.pwr.life = Life.ready ∧ (k5.bankOf src).held = none ∧ (k5.otherBank src).held = none ∧ (k5.bankOf src).busyUntil ≤ k5.datum ∧
      (k5.bankOf src).written = [(blockAddr 11 0, 63)] ∧ specOf (blockAddr 11 0) = some bad_r ∧ bad_r.group = 11 ∧ bad_r.eff = Eff.commit ∧
      (BitVec.toNat bad_2).testBit 11 = true ∧ k5.groupBad (k5.tentative [(blockAddr 11 0, 63)]) 11 [(blockAddr 11 0, 63)] = some bad_e ∧
      bad_e.ctx = none) :=
  by refine ⟨?_, ?_⟩ <;> decide +kernel

/-- Obligations.RegistersStageAndRead, part 1. -/
theorem witness_RegistersStageAndRead_1 :
    ((g1.takesWrite src = false ∨ blockAddr 11 4 % 8 ≠ 0)) ∧
    (g1.takesWrite src = true ∧ blockAddr 11 0 % 8 = 0 ∧ (specOf (inForceAddr (blockAddr 11 0))).isSome = true) :=
  by refine ⟨?_, ?_⟩ <;> decide +kernel

/-- Obligations.RegistersStageAndRead, part 2. -/
theorem witness_RegistersStageAndRead_2 :
    (g2.pwr.life = Life.ready ∧ g2.mayRead src (blockAddr 1 0) = true ∧ (areaOf (blockAddr 1 0)).isSome = true ∧ blockAddr 1 0 % 8 = 0 ∧
      blockAddr 1 0 + 8 * 4 ≤ (areaOf (blockAddr 1 0)).get!.snd ∧ 0 < 1024) :=
  by decide +kernel

end Sys2Proof.Tests.Registers
end

