-- ==== Sys2Proof/Tests/Slice0.lean ====
section
/-! SUPPORT. The checks of WellFormed, each refused by an ill-formed command; the worked values of the spec; single steps. -/

set_option Elab.async false

namespace Sys2Proof.Tests.Slice0
open Sys2Proof Sys2Proof.Machine Sys2Proof.Safety Sys2Proof.Tests

/-! ### WellFormed: one ill-formed command for each check -/

def okPkt : Packet := { dest := 1, src := 2, vc := 0, type := 1, slots := 1, hops := 0, job := 7, body := .control 4 0 0 0 1 0 0 0 }
def okHdr : FlitHdr := { credits := [0, 0, 0, 0], ack := 0, ackValid := false }
def okRx : RxReport := {}
def okSrc : Src := { via := 0, addr := 0, qpn := 0 }

theorem test_wf_accepts : [Instr.fence { ctx := 1023, pos := 0 }, .vadd 47 0, .dispatch 1023, .bent okPkt, .dataFlit 7 ⟨okHdr, 4095, [⟨okPkt, 0, 1⟩]⟩ okRx,
    .idleFlit 7 okHdr okRx, .registerWrite okSrc (blockAddr 0 0) 1, .rtu ⟨1, 0, 0, 1, 1⟩, .refresh 1 511, .keepalive 1024].all Instr.wf = true := by
  decide +kernel

theorem test_wf_context : (Instr.fence { ctx := 1024, pos := 0 }).wf = false ∧ (Instr.fence { ctx := 0, pos := 2 ^ 64 }).wf = false ∧ (Instr.dispatch 1024).wf = false := by decide
def okCfg : CfgSlot := { securityVersion := 0, fwFloor := 0, serial := 0, entries := [] }
theorem test_wf_kiln : (Instr.vadd 48 0).wf = false := by decide
theorem test_wf_fetch : (Instr.descriptorFetch 1024 []).wf = false ∧ (Instr.descriptorFetch 0 (List.replicate 257 0)).wf = false := by decide +kernel
theorem test_wf_doorbell : (Instr.resume 1024 8 0).wf = false ∧ (Instr.resume 0 0 0).wf = false := by decide
theorem test_wf_source : (Instr.flueCommit { okSrc with via := 4 } 0).wf = false ∧ (Instr.flueCommit { okSrc with addr := 2 ^ 128 } 0).wf = false ∧
    (Instr.flueCommit { okSrc with qpn := 2 ^ 24 } 0).wf = false ∧ (Instr.stepAbort okSrc 1024 0).wf = false := by decide +kernel
theorem test_wf_bank : (Instr.heldCommit 2).wf = false := by decide
theorem test_wf_port : (Instr.portEnable 8).wf = false ∧ (Instr.hello 8 okPkt).wf = false ∧ (Instr.ackTimer 8).wf = false := by decide +kernel
theorem test_wf_register : (Instr.registerWrite okSrc (blockAddr 0 4) 0).wf = false := by decide +kernel
theorem test_wf_counter : (Instr.fcountGateEnd 16 0).wf = false ∧ (Instr.clkFcountCtrl okSrc 16 0).wf = false := by decide
theorem test_wf_inputs : (Instr.inputVoltage 65536).wf = false ∧ (Instr.clockLost 13).wf = false ∧ (Instr.watchdog 4).wf = false := by decide
theorem test_wf_sensor : (Instr.dieTemperatureSample 4 0 0).wf = false ∧ (Instr.dieTemperatureSample 0 4 0).wf = false ∧
    (Instr.layerTemperatureSample 2 0 none).wf = false ∧ (Instr.layerTemperatureSample 0 13 none).wf = false := by decide
theorem test_wf_packet : [Instr.bent { okPkt with dest := 2 ^ 14 }, .bent { okPkt with src := 2 ^ 14 }, .bent { okPkt with vc := 4 },
    .bent { okPkt with type := 256 }, .bent { okPkt with slots := 0 }, .bent { okPkt with slots := 257 }, .bent { okPkt with hops := 16 }].any
      Instr.wf = false := by decide +kernel
theorem test_wf_flit : [Instr.dataFlit 8 ⟨okHdr, 0, []⟩ okRx, .dataFlit 0 ⟨okHdr, 4096, []⟩ okRx, .dataFlit 0 ⟨{ okHdr with ack := 4096 }, 0, []⟩ okRx,
    .idleFlit 0 { okHdr with credits := [0] } okRx, .dataFlit 0 ⟨okHdr, 0, [⟨{ okPkt with vc := 4 }, 0, 1⟩]⟩ okRx, .laneControl 0 okHdr 16 okRx].any
      Instr.wf = false := by decide +kernel
theorem test_wf_rx : [Instr.idleFlit 0 okHdr { errors := [[(576, 1)]] }, .idleFlit 0 okHdr { errors := [[(0, 1024)]] },
    .idleFlit 0 okHdr { errors := List.replicate 5 [] }, .replayRequest 0 okHdr { eye := some (1024, 0) }].any Instr.wf = false := by decide +kernel
theorem test_wf_lane : (Instr.laneFailure 0 4 0).wf = false ∧ (Instr.trainingEnd 0 16 0 0 0 0).wf = false ∧ (Instr.trainingEnd 0 0 1024 0 0 0).wf = false ∧
    (Instr.trainingEnd 0 0 0 256 0 0).wf = false ∧ (Instr.trainingTimeout 0 16).wf = false := by decide
theorem test_wf_channel : (Instr.refresh 2 0).wf = false ∧ (Instr.refresh 0 512).wf = false ∧ (Instr.throttleEvaluation 2).wf = false ∧
    (Instr.channelLost 32).wf = false := by decide
theorem test_wf_burst : (Instr.burstRead 32 none []).wf = false ∧ (Instr.patrolScrubRead 0 (List.replicate 77 (0, 1))).wf = false ∧
    (Instr.burstWrite 0 0 [] none).wf = false ∧ (Instr.burstWrite 32 0 (List.replicate 64 0) none).wf = false ∧
    (Instr.burstWrite 0 (2 ^ 64) (List.replicate 64 0) none).wf = false := by decide +kernel
theorem test_wf_adder :
    (Instr.setterAdderUpdate { ctx := 0, pos := 0, domain := 0, key := 0, addr := 0, format := 5, mask := 0, addends := [] }).wf = false ∧
    (Instr.setterAdderUpdate { ctx := 0, pos := 0, domain := 0, key := 0, addr := 32, format := 0, mask := 0, addends := [] }).wf = false := by
  decide +kernel
theorem test_wf_host : (Instr.rtu ⟨3, 0, 0, 1, 1⟩).wf = false ∧ (Instr.rtu ⟨1, 1024, 0, 1, 1⟩).wf = false ∧ (Instr.rtu ⟨1, 0, 2, 1, 1⟩).wf = false ∧
    (Instr.hostLinkDown 2 false).wf = false ∧ (Instr.keepalive 1025).wf = false ∧ (Instr.writeAcknowledged 0 2 0).wf = false ∧
    (Instr.writeRetransmit 1025 0).wf = false := by decide
theorem test_wf_images : (Instr.pldmFirmwareUpdate 1 { components := List.replicate 4 ⟨1, 0, 0, []⟩ } okCfg {}).wf = false ∧
    (Instr.pldmFirmwareUpdate 2 {} { okCfg with signer := 256 } {}).wf = false ∧
    (Instr.pldmFirmwareUpdate 3 {} okCfg { keyIndex := 256 }).wf = false ∧ (Instr.pldmFirmwareUpdate 3 {} okCfg {}).wf = true := by decide
theorem test_wf_management : (Instr.registerRead 256 0).wf = false ∧ (Instr.setEndpointId 256).wf = false ∧ (Instr.entdaa 128).wf = false ∧
    (Instr.pfcPauseFrame 2 0 true).wf = false ∧ (Instr.pfcPauseFrame 0 8 true).wf = false := by decide

/-! ### Number formats: the worked values of chapter 2 -/

/-- A decimal of the tables as the F32 nearest to it. -/
def f32 (neg : Bool) (num den : Nat) : Flt.Val := Flt.decode Flt.fmtF32 (Flt.toIeee Flt.fmtF32 .even (Flt.divVal (.fin neg num 0) (.fin false den 0)).1).1
/-- Its code in a format, with a star for saturation. -/
def short (v : Flt.VFmt) (x : Flt.Val) : Nat × Bool :=
  match x with
  | .fin neg m e => Flt.vendorFin v neg m e
  | _ => (0, false)
def shorts (x : Flt.Val) : List (Nat × Bool) := [Flt.vF8, Flt.vG8, Flt.vE3M2, Flt.vE2M3, Flt.vF4].map fun v => short v x

/-- "Worked values", first table. -/
theorem test_short_formats :
    shorts (f32 false 3 10) = [(0x2A, false), (0x35, false), (0x05, false), (0x02, false), (0x1, false)] ∧
    shorts (f32 false 3 4) = [(0x34, false), (0x3A, false), (0x0A, false), (0x06, false), (0x2, false)] ∧
    shorts (f32 false 5 2) = [(0x42, false), (0x41, false), (0x11, false), (0x12, false), (0x5, false)] ∧
    shorts (f32 false 7 1) = [(0x4E, false), (0x47, false), (0x17, false), (0x1E, false), (0x7, true)] ∧
    shorts (f32 false 100 1) = [(0x6D, false), (0x56, false), (0x1F, true), (0x1F, true), (0x7, true)] ∧
    shorts (f32 false 500 1) = [(0x7F, true), (0x60, false), (0x1F, true), (0x1F, true), (0x7, true)] ∧
    shorts (f32 true 43 10000) = [(0x82, false), (0x9C, false), (0x20, false), (0x20, false), (0x8, false)] := by decide +kernel

/-- "Conversion into B16 from F32". -/
theorem test_b16 :
    [0x3F808000, 0x7F7FFFFF, 0x00000001, 0x80000001].map (fun x => short Flt.vB16 (Flt.decode Flt.fmtF32 x)) =
      [(0x3F81, false), (0x7F7F, true), (0x0000, false), (0x8000, false)] ∧
    specialCode 2 (Flt.decode Flt.fmtF32 0x7F800000) = 0x7F80 := by decide +kernel

/-- "A carried scale catching up", step n under code 0x7C. -/
theorem test_carried_scale :
    (convertGroup 3 0x7C true ([f32 false 372 10, f32 true 53 10, f32 false 21 100, f32 false 61 1].map fun v => (v, {}))).codes =
      [0x79, 0xE3, 0x3D, 0x7F] ∧
    (convertGroup 3 0x7C true [(f32 false 61 1, {})]).sat = false ∧ (convertGroup 3 0x7C true [(f32 false 635 10, {})]).sat = true ∧
    (convertGroup 3 0x7D true [(f32 false 635 10, {})]).codes = [0x78] ∧ presentScale 3 [f32 false 635 10] = 0x7D := by decide +kernel

/-- "A sensor embedding element under small updates" of chapter 5: the pairs of R120. -/
theorem test_split_pairs :
    [(7491, 10000), (7481997, 10000000), (7472995, 10000000), (7463992, 10000000)].map (fun x : Nat × Nat =>
      split (Flt.toIeee Flt.fmtF32 .even (f32 false x.1 x.2)).1) = [(0x3F40, 0xC5), (0x3F40, 0x8A), (0x3F3F, 0x4F), (0x3F3F, 0x14)] := by
  decide +kernel

/-- R36: F32 additions by hand: 1 + 2^-24 ties to even, 1 + 1 = 2, +inf - inf is invalid. -/
theorem test_f32_add :
    Flt.add Flt.fmtF32 .even 0x3F800000 0x33800000 = (0x3F800000, { nx := true }) ∧
    Flt.add Flt.fmtF32 .even 0x3F800000 0x3F800000 = (0x40000000, {}) ∧
    Flt.add Flt.fmtF32 .even 0x7F800000 0xFF800000 = (0x7FC00000, { nv := true }) := by decide +kernel
/-- R36: 1 / 3 and the square root of 2 by hand; 1 / 0 divides by zero. -/
theorem test_f32_div :
    Flt.div Flt.fmtF32 .even 0x3F800000 0x40400000 = (0x3EAAAAAB, { nx := true }) ∧
    Flt.sqrt Flt.fmtF32 .even 0x40000000 = (0x3FB504F3, { nx := true }) ∧
    Flt.div Flt.fmtF32 .even 0x3F800000 0x00000000 = (0x7F800000, { dz := true }) := by decide +kernel

/-! ### Memory, codes, pages, trees -/

/-- "A poisoned granule in the sensor table" of chapter 7: die 0, channel 361, layer 3, burst 2. -/
theorem test_locate : (locate 0x1357A46C80).1 = 0 ∧ (locate 0x1357A46C80).2.1 = 361 := by decide +kernel
/-- R167: a burst of zeros with number 0 has check bytes of zero; the generator's roots are the first eight powers of alpha. -/
theorem test_code : Symbols.checkBytes 0 (List.replicate 64 0) = List.replicate 8 0 ∧ Symbols.generator.length = 8 := by decide +kernel
/-- "A shared building prefix" of chapter 10: the layer block of pool 0 is 33,792 bytes. -/
theorem test_layer_block : ((blocks (up {}) [(1, 0x100, 0x20000000), (1, 0x108, 16384 + (33 <<< 21) + (3 <<< 31) + (3 <<< 34) + (1 <<< 38) + (3 <<< 40) + (1 <<< 44))]).pool 0).layerBytes = 33792 := by
  decide +kernel
/-- R234: in the control tree of 16 members, rank 0 has children 1 to 8 and rank 1 has 9 to 15; rank 10's parent is 1. -/
theorem test_control_tree : treeChildren 0 16 = [1, 2, 3, 4, 5, 6, 7, 8] ∧ treeChildren 1 16 = [9, 10, 11, 12, 13, 14, 15] ∧ treeParent 10 = 1 := by
  decide
/-- R319: in a tray of eight the tree joins slots that differ in one bit. -/
theorem test_reduction_tree : treeParents (fun r => 0x100 + r) [0, 1, 2, 3, 4, 5, 6, 7] 0 =
    [(0, none), (1, some 0), (2, some 0), (3, some 1), (4, some 0), (5, some 1), (6, some 2), (7, some 3)] := by decide +kernel

/-! ### Registers and single steps -/

/-- R470 to R475: reset values of the tables. -/
theorem test_register_resets : regReset (blockAddr 0 0x30) = 64 ∧ regReset (blockAddr 0 0x38) = 100 ∧ regReset (blockAddr 1 8) = 100 ∧
    regReset (blockAddr 2 8) = 1000 ∧ regReset (blockAddr 2 0x20) = 95 ∧ regReset (blockAddr 4 0x20) = 42000 ∧ regReset (blockAddr 4 0x40) = 100 := by
  decide +kernel

/-- What a step leaves, where it has a next state. -/
def next (s : State) : State := match step s with | .next t => t | _ => s

/-- R390, log entry 1: on an empty queue a nanosecond passes. -/
theorem test_tick : (next (up live)).datum = 1 := by decide +kernel
/-- R360: a doorbell in reach moves the producer index. -/
theorem test_doorbell : ((next { up live with pending := [.cmdProducer 0 8 5] }).ctx 0).cmdProducer = 5 := by decide +kernel
/-- R464: a staged register keeps its value in force until a commit. -/
theorem test_staged : (next { hosted (up live) with pending := [.registerWrite { okSrc with via := 1 } (blockAddr 0 0x30) 7] }).reg (blockAddr 0 0x30) = 64 := by
  decide +kernel
/-- R307: an enabled port trains. -/
theorem test_port_trains : ((next { blocks { pwr := { life := .ready } } [(4, 0x100, 5)] with pending := [.portEnable 0] }).port 0).st = .training := by
  decide +kernel
/-- R94: SADD adds modulo 2^64: s3 := s1 + s2 = 0x103. -/
theorem test_sadd : (vuOf (next { vs with pending := [.sadd 0 (vi 0x37 3 1 2 0 0 0 0 0)] }) 0).sreg 3 = 0x103 := by decide +kernel
/-- R94: VIADD of lane 5: the sum of the two lanes modulo 2^32. -/
theorem test_viadd : (vuOf (next { vs.modKiln 0 fun x => { x with vu := { x.vu with v := [(1, 0xFFFFFFFF <<< 160), (2, 3 <<< 160)] } } with
    pending := [.viadd 0 (vi 0x18 4 1 2 0 0 0 0 0)] }) 0).lane 4 5 = 2 := by decide +kernel
/-- R437: the log counts its records from the first. -/
theorem test_log_head : (next { hosted (up live) with pending := [.clockLost 12] }).log.head = 1 := by decide +kernel

/-! ### Witnesses of statements over every state or operand -/

/-- Obligations.StopsAreCellsThatCannotOccur: the cell FIRE by RUNNING. -/
theorem witness_StopsAreCellsThatCannotOccur :
    (match exec (.fire (ctl 3 1 1 9 0 0 0 0 0)) ((job { step := .running } 0 2)) with
      | .refused r => r == .cannotOccur "FIRE"
      | _ => false) = true := by decide +kernel
/-- Obligations.StepsKeepTheForm and Obligations.CommandsLeaveTheQueue: a state with the form, whose front command has a next state. -/
theorem witness_StepsKeepTheForm :
    Formed { up live with pending := [.cmdProducer 0 8 5] } ∧ (match step { up live with pending := [.cmdProducer 0 8 5] } with
      | .next _ => true
      | _ => false) = true ∧
    (match exec (.cmdProducer 0 8 5) { up live with pending := [.dispatch 0] } with
      | .next _ => true
      | _ => false) = true := by unfold Formed; decide +kernel
/-- Obligations.VendorZerosAreSigned and Obligations.VendorRoundingIsNearest: a zero, a value that rounds to zero, one that is rounded, one
that saturates. -/
theorem witness_VendorRoundingIsNearest :
    (Flt.vendorFin Flt.vF8 true 1 (-60)).1 % 2 ^ Flt.vF8.signAt = 0 ∧ (Flt.vendorFin Flt.vB16 true 1 (-300)).1 % 2 ^ Flt.vB16.signAt = 0 ∧
    (Flt.vendorFin Flt.vF8 false 17 (-4)).2 = false ∧ (Flt.vendorFin Flt.vF8 false 17 (-4)).1 ≠ 0 ∧
    (Flt.vendorFin Flt.vF8 false 1 40).2 = true := by decide +kernel

end Sys2Proof.Tests.Slice0
end

