-- ==== Sys2Proof/Tests/Stops.lean ====
section
/-! SUPPORT. Small states and operands that meet the hypotheses of statements of Obligations.lean, one theorem a statement or part of
one, one bracket a state; what an earlier bracket shows of the same terms is not said again. -/

set_option Elab.async false

namespace Sys2Proof.Tests.Stops
open Sys2Proof Sys2Proof.Machine Sys2Proof.Safety Sys2Proof.Tests

def ww (d : Desc) : WinOp := { pos := 5, desc := d, st := .running, step := 1 }
def rr (i : Nat) (s : State) (d : Desc) : Run := ((opRow i).body.run (startRun s arg (ww d))).2
def dRef := op [(2,1),(24,9)]
def sRef := work {} dRef
def refuse_5 : WinOp := (ww dRef)
def refuse_6 : Run := (rr 0 sRef dRef)
def dStop := op [(2,2),(24,4),(32,scr 0x200000),(40,scr 0x100100)]
def sStop := work {} dStop
def stop_5 : WinOp := (ww dStop)
def stop_6 : Run := (rr 1 sStop dStop)
def dAb := op [(2,2),(24,4),(32,scr 0x100000),(40,scr 0x100100)]
def sAb : State := { work {} dAb with upsets := [(0x100000, Symbols.poison)] }
def abort_6 : Run := (rr 1 sAb dAb)
def dW := op [(2,0x48),(24,0),(32,scr 0x100000),(40,4)]
def sW := let s := work {} dW; let s := page s [(0x078, 0x400000)]; let s := withMem s [(0x400003,1,1),(0x400004,4,64),(0x400008,8,0x600000)]; { s with ctxs := [(0, (s.ctx 0).setQueue { id := 0, sends := 1 })] }
def wait_6 : Run := (rr 22 sW dW)
def dR := op [(2,2),(24,4),(32,(0x800 <<< 52) + 2 ^ 48 + 0x40),(40,scr 0x100100)]
def sR := hosted (work {} dR)
def read_6 : Run := (rr 1 sR dR)
def dM := op [(2,2),(24,4),(32,0x1000),(40,scr 0x100100)]
def sM := withMem (work {} dM) [(0x201008,8,2)]
def miss_6 : Run := (rr 1 sM dM)
def sF := work {} (op [(2,1)])
def ok_3 : WinOp := (ww (op [(2,1)]))
def bad_3 : WinOp := (ww dRef)
def dFill := op [(2,3),(24,12),(32,0x123456789ABCDEF0),(40,scr 0x1FFFF4)]
def sFill := work {} dFill
def fill_3 : WinOp := (ww dFill)
def dCopy := op [(2,2),(24,12),(32,scr 0x100000),(40,scr 0x100004)]
def sCopy := withMem (work {} dCopy) [(0x100000,12,0x112233445566778899AABBCC)]
def copy_3 : WinOp := (ww dCopy)
def dSh := op [(2,3),(24,12),(32,0x55),(40,0xFF4)]
def sSh := withMem (work {} dSh) [(0x300000,8,0x1122334455667788)]
def sSh1 : State := ((sSh.takeReserve 0).map (·.2)).getD sSh
def sSh2 : State := (sSh1.takeTable 0).getD sSh1
def part_11 : PEntry := { where_ := 1, frame := 0x300000 }
def dRL := op [(2,4),(24,4),(32,scr 0x100000),(40,0xFFFE000000000010)]
def sRL := withMem (work {} dRL) [(0x100000,4,0x11223344)]
def dRS := op [(2,5),(24,4),(40,scr 0x100000),(32,0xFFFE00000000FFFC),(16,1<<<16)]
def sRS := withMem (work {} dRS) [(0x780080FFFC,4,0x11223344)]
def dPg (act : Nat) := op [(2,0x1A),(26,act),(24,3)]
def sPg : State := let s := work {} (dPg 4); { s with ctxs := [(0, { s.ctx 0 with window := [{ pos := 3, desc := dPg 6, st := .running, step := 1, turn := 1 }, { pos := 5, desc := dPg 4, st := .running, step := 1, turn := 2 }] })] }
def turn_5 : WinOp := { ww (dPg 4) with turn := 2 }

/-- Obligations.OperationsStopOrWait, part 1. -/
theorem witness_OperationsStopOrWait_1 :
    ((Dispatched sRef arg refuse_5 operations[0].opc operations[0].action ∧ (sRef.ctx arg.ctx).ring = RingState.active ∧
      Released sRef arg.ctx refuse_5) ∧
      (ExceptT.run operations[0].body (startRun sRef arg refuse_5) = (Except.error (Stop.refuse 1728 (24 + 5 <<< 64)), refuse_6))) ∧
    ((Dispatched sStop arg stop_5 operations[1].opc operations[1].action ∧ (stop_6.s.ctx arg.ctx).ring = RingState.active ∧
      Released stop_6.s arg.ctx stop_5) ∧
      (ExceptT.run operations[1].body (startRun sStop arg stop_5) = (Except.error (Stop.stop 1547 (1 + 2097152 <<< 64 + 5 <<< 128)), stop_6))) :=
  ⟨⟨by decide +kernel, ends_of (by decide +kernel)⟩,
   ⟨by decide +kernel, ends_of (by decide +kernel)⟩⟩

/-- Obligations.OperationsStopOrWait, part 2. -/
theorem witness_OperationsStopOrWait_2 :
    ((Dispatched sAb arg (ww dAb) operations[1].opc operations[1].action ∧ (abort_6.s.ctx arg.ctx).step = StepState.running ∧
      (abort_6.s.ctx arg.ctx).enabled = true ∧ (abort_6.s.ctx arg.ctx).loading = false) ∧
      (ExceptT.run operations[1].body (startRun sAb arg (ww dAb)) = (Except.error (Stop.abort 771 (poisonPayload 1048576 5)), abort_6))) ∧
    ((Dispatched sW arg (ww dW) operations[22].opc operations[22].action ∧ Released sW arg.ctx (ww dW)) ∧
      (ExceptT.run operations[22].body (startRun sW arg (ww dW)) = (Except.error (Stop.wait Wait.queueCredit), wait_6))) ∧
    ((Dispatched sR arg (ww dR) operations[1].opc operations[1].action ∧
      (∀ (q : HostRead), q ∈ (ww dR).reads → q.covers (2048 <<< 52 + 2 ^ 48 + 64, 4) = false) ∧ (sR.ctx arg.ctx).ring ≠ RingState.orphaned ∧
      windowHolds sR arg.ctx (hostParts (2048 <<< 52 + 2 ^ 48 + 64)).fst (hostParts (2048 <<< 52 + 2 ^ 48 + 64)).snd 4 false = true ∧
      ((sR.takeInput arg.ctx (ww dR) arg.hin).readPort arg.ctx (hostParts (2048 <<< 52 + 2 ^ 48 + 64)).fst).isSome = true ∧
      Released sR arg.ctx (ww dR)) ∧
      (ExceptT.run operations[1].body (startRun sR arg (ww dR)) = (Except.error (Stop.read (2048 <<< 52 + 2 ^ 48 + 64) 4), read_6)) ∧
      (NothingHeld (sR.ctx arg.ctx))) ∧
    ((Dispatched sM arg (ww dM) operations[1].opc operations[1].action ∧ Released sM arg.ctx (ww dM)) ∧
      (ExceptT.run operations[1].body (startRun sM arg (ww dM)) = (Except.error (Stop.miss 1), miss_6))) :=
  ⟨⟨by decide +kernel, ends_of (by decide +kernel)⟩,
   ⟨by decide +kernel, ends_of (by decide +kernel)⟩,
   ⟨by decide +kernel, ends_of (by decide +kernel), by unfold NothingHeld; decide +kernel⟩,
   ⟨by decide +kernel, ends_of (by decide +kernel)⟩⟩

/-- Obligations.CopiesFillsAndShadows, part 1. -/
theorem witness_CopiesFillsAndShadows_1 :
    (Dispatched sF arg ok_3 1 none ∧ Released sF arg.ctx ok_3 ∧ Fresh ok_3 ∧ ok_3.desc.field 24 104 = 0 ∧ ok_3.desc.field 3 1 % 2 = 1) ∧
    (Dispatched sRef arg bad_3 1 none ∧ Released sRef arg.ctx bad_3 ∧ Fresh bad_3 ∧ bad_3.desc.field 24 104 ≠ 0 ∧
      (sRef.ctx arg.ctx).ring = RingState.active) :=
  by refine ⟨?_, ?_⟩ <;> decide +kernel

/-- Obligations.CopiesFillsAndShadows, part 2. -/
theorem witness_CopiesFillsAndShadows_2 :
    (sFill.upsets = [] ∧ Released sFill arg.ctx fill_3 ∧ Fresh fill_3 ∧ 0 < 12 ∧ 12 ≤ 2 ^ 45 ∧ fill_3.desc.field 24 8 = 12 ∧
      formOf (fill_3.desc.field 40 8) = Form.scratch 2097140 ∧ sFill.pg arg.ctx 40 ≤ 2097140 ∧
      2097140 + 12 ≤ sFill.pg arg.ctx 40 + sFill.pg arg.ctx 48 ∧ inMemory 2097140 12 = true ∧ fill_3.desc.field 48 80 = 0 ∧
      Dispatched sFill arg fill_3 3 none) ∧
    (sCopy.upsets = [] ∧ Released sCopy arg.ctx copy_3 ∧ Fresh copy_3 ∧ copy_3.desc.field 24 8 = 12 ∧
      formOf (copy_3.desc.field 40 8) = Form.scratch 1048580 ∧ sCopy.pg arg.ctx 40 ≤ 1048580 ∧
      1048580 + 12 ≤ sCopy.pg arg.ctx 40 + sCopy.pg arg.ctx 48 ∧ inMemory 1048580 12 = true ∧ copy_3.desc.field 48 80 = 0 ∧
      Dispatched sCopy arg copy_3 2 none ∧ formOf (copy_3.desc.field 32 8) = Form.scratch 1048576 ∧ sCopy.pg arg.ctx 40 ≤ 1048576 ∧
      1048576 + 12 ≤ sCopy.pg arg.ctx 40 + sCopy.pg arg.ctx 48 ∧ inMemory 1048576 12 = true) :=
  by refine ⟨?_, ?_⟩ <;> decide +kernel

/-- Obligations.CopiesFillsAndShadows, part 3. -/
theorem witness_CopiesFillsAndShadows_3 :
    ((Dispatched sSh arg (ww dSh) 3 none ∧ sSh.upsets = [] ∧ (ww dSh).desc.field 24 8 = 12 ∧ (ww dSh).desc.field 48 80 = 0 ∧
      formOf ((ww dSh).desc.field 40 8) = Form.state 4084 ∧ pieces 4084 12 = [(0, 4084, 12)] ∧ 0 < 12 ∧ 12 < 4096 ∧
      (sSh.ctx arg.ctx).loading = false ∧ alook 0 (sSh.ctx arg.ctx).shadows = none ∧ (sSh.ctx arg.ctx).shadows.length < 8800000 ∧
      (sSh.ctx arg.ctx).migrations = [] ∧ inMemory (sSh.pg arg.ctx 24 + 8 * (0 / 512)) 8 = true ∧
      (∀ (b : Nat), sSh.entryAddr arg.ctx 0 = some b → inMemory b 8 = true)) ∧ (Released sSh arg.ctx (ww dSh) ∧ Fresh (ww dSh) ∧
      sSh.firedEntry arg.ctx 0 = some part_11 ∧ part_11.where_ = 1 ∧ inMemory part_11.frame 4096 = true ∧
      sSh.takeReserve (bits part_11.frame 39 1) = some (frameAddr 0 (sSh.nextFrame 0), sSh1) ∧ sSh1.takeTable arg.ctx = some sSh2 ∧
      inMemory (frameAddr 0 (sSh.nextFrame 0) + 4084) 12 = true ∧
      (part_11.frame + 4096 ≤ frameAddr 0 (sSh.nextFrame 0) ∨ frameAddr 0 (sSh.nextFrame 0) + 4096 ≤ part_11.frame))) :=
  ⟨by decide +kernel, by decide +kernel⟩

/-- Obligations.CopiesFillsAndShadows, part 4. -/
theorem witness_CopiesFillsAndShadows_4 :
    ((sRL.upsets = [] ∧ Released sRL arg.ctx (ww dRL) ∧ Fresh (ww dRL) ∧ 0 < 4 ∧ 16 + 4 ≤ sRL.residentSize arg.ctx ∧
      (ww dRL).desc.field 24 8 = 4 ∧ (ww dRL).desc.field 48 80 = 0 ∧ (kilnsOf (ww dRL).desc).snd = 1 ∧
      sRL.opKilns arg.ctx (ww dRL).desc = [0] ∧ inMemory (515396075520 + 0 * 8388608 + 16) 4 = true ∧ inMemory 1048576 4 = true ∧
      sRL.pg arg.ctx 40 ≤ 1048576 ∧ 1048576 + 4 ≤ sRL.pg arg.ctx 40 + sRL.pg arg.ctx 48 ∧ Dispatched sRL arg (ww dRL) 4 none) ∧
      (formOf ((ww dRL).desc.field 32 8) = Form.scratch 1048576 ∧ formOf ((ww dRL).desc.field 40 8) = Form.resident 16)) ∧
    (sRS.upsets = [] ∧ Released sRS arg.ctx (ww dRS) ∧ Fresh (ww dRS) ∧ 65532 + 4 ≤ sRS.residentSize arg.ctx ∧ (ww dRS).desc.field 24 8 = 4 ∧
      (ww dRS).desc.field 48 80 = 0 ∧ (kilnsOf (ww dRS).desc).snd = 1 ∧ sRS.opKilns arg.ctx (ww dRS).desc = [1] ∧
      inMemory (515396075520 + 1 * 8388608 + 65532) 4 = true ∧ sRS.pg arg.ctx 40 ≤ 1048576 ∧
      1048576 + 4 ≤ sRS.pg arg.ctx 40 + sRS.pg arg.ctx 48 ∧ Dispatched sRS arg (ww dRS) 5 none ∧
      formOf ((ww dRS).desc.field 32 8) = Form.resident 65532 ∧ formOf ((ww dRS).desc.field 40 8) = Form.scratch 1048576) :=
  ⟨⟨by decide +kernel, by decide +kernel⟩,
   by decide +kernel⟩

/-- Obligations.OperationsStopOrWait, part 3. -/
theorem witness_OperationsStopOrWait_3 :
    (Named sPg arg turn_5 operations[12].opc operations[12].action ∧ operations[12].action ≠ none ∧ sPg.pageBehind arg.ctx turn_5 = true ∧
      Released sPg arg.ctx turn_5) :=
  by decide +kernel

end Sys2Proof.Tests.Stops
end

