-- ==== Sys2Proof/Tests/Teams.lean ====
section
/-! SUPPORT. Small states and operands that meet the hypotheses of statements of Obligations.lean, one theorem a statement or part of
one, one bracket a state; what an earlier bracket shows of the same terms is not said again. -/

set_option Elab.async false

namespace Sys2Proof.Tests.Teams
open Sys2Proof Sys2Proof.Machine Sys2Proof.Safety Sys2Proof.Tests

def wop (fs : List (Nat × Nat)) : WinOp := { pos := 5, desc := op fs, st := .running, step := 1 }
def team1 (fs : List (Nat × Nat)) (mem : List (Nat × Nat × Nat)) : State :=
  withMem (page (work {} (op fs)) [(0x038, 0x500000)]) ([(0x500000,2,7),(0x500002,2,1),(0x500040,8,0x0003000200010000)] ++ mem)
def co (o : Nat) := [(2,o),(24,2),(48,scr 0x100000),(64,scr 0x100100)]
def sm := [(0x100000,8,0x4000000040400000)]
def allReduce_2 : State := (team1 (co 0x40) sm)
def allReduce_3 : WinOp := (wop (co 0x40))
def reduceScatter_2 : State := (team1 (co 0x41) sm)
def reduceScatter_3 : WinOp := (wop (co 0x41))
def allGather_2 : State := (team1 (co 0x42) sm)
def allGather_3 : WinOp := (wop (co 0x42))
def broadcast_2 : State := (team1 (co 0x45) sm)
def broadcast_3 : WinOp := (wop (co 0x45))
def ex := [(2,0x43),(24,1),(48,scr 0x100000),(64,scr 0x100100),(112,8)]
def exchange_2 : State := (team1 ex sm)
def pe := [(2,0x44),(24,2),(104,scr 0x100200)]
def permute_2 : State := (team1 pe (sm ++ [(0x100208,8,scr 0x100000),(0x100210,8,8),(0x100200+26,1,1),(0x100208+24,8,scr 0x100300),(0x100210+24,8,8)]))

/-- Obligations.CollectivesComplete, part 2. -/
theorem witness_CollectivesComplete_2 :
    (allReduce_2.upsets = [] ∧ Released allReduce_2 arg.ctx allReduce_3 ∧ allReduce_2.members arg.ctx = 1 ∧ allReduce_2.rank arg.ctx = 0 ∧
      (allReduce_2.ctx arg.ctx).coll arg.pos = none ∧ allReduce_3.desc.field 32 4 = (allReduce_2.ctx arg.ctx).epoch ∧
      (((allReduce_2.ctx arg.ctx).window.any fun v => decide (v.pos < arg.pos) && isCollective (opcodeOf v.desc) && v.desc.field 38 1 == allReduce_3.desc.field 38 1 && v.st != OpState.finished && ((allReduce_2.ctx arg.ctx).coll v.pos).isNone) = false) ∧
      (∀ (e : EarlyReady), e ∈ (allReduce_2.ctx arg.ctx).earlyReady → e.tag ≠ allReduce_3.desc.field 38 1) ∧
      HasFields allReduce_3.desc [(28, 4, 0), (36, 2, 0), (39, 1, 0), (44, 4, 0), (56, 8, 0), (72, 32, 0), (124, 4, 0)] ∧
      allReduce_3.desc.field 104 8 = 0 ∧
      InScratch allReduce_2 arg.ctx (allReduce_3.desc.field 48 8) (4 * allReduce_3.desc.field 24 4) 1048576 ∧
      InScratch allReduce_2 arg.ctx (allReduce_3.desc.field 64 8) (4 * allReduce_3.desc.field 24 4) 1048832 ∧
      Dispatched allReduce_2 arg allReduce_3 64 none) ∧
    (reduceScatter_2.upsets = [] ∧ Released reduceScatter_2 arg.ctx reduceScatter_3 ∧ reduceScatter_2.members arg.ctx = 1 ∧
      reduceScatter_2.rank arg.ctx = 0 ∧ (reduceScatter_2.ctx arg.ctx).coll arg.pos = none ∧
      reduceScatter_3.desc.field 32 4 = (reduceScatter_2.ctx arg.ctx).epoch ∧
      (((reduceScatter_2.ctx arg.ctx).window.any fun v => decide (v.pos < arg.pos) && isCollective (opcodeOf v.desc) && v.desc.field 38 1 == reduceScatter_3.desc.field 38 1 && v.st != OpState.finished && ((reduceScatter_2.ctx arg.ctx).coll v.pos).isNone) = false) ∧
      (∀ (e : EarlyReady), e ∈ (reduceScatter_2.ctx arg.ctx).earlyReady → e.tag ≠ reduceScatter_3.desc.field 38 1) ∧
      HasFields reduceScatter_3.desc [(28, 4, 0), (36, 2, 0), (39, 1, 0), (44, 4, 0), (56, 8, 0), (72, 32, 0), (124, 4, 0)] ∧
      reduceScatter_3.desc.field 104 8 = 0 ∧
      InScratch reduceScatter_2 arg.ctx (reduceScatter_3.desc.field 48 8) (4 * reduceScatter_3.desc.field 24 4) 1048576 ∧
      InScratch reduceScatter_2 arg.ctx (reduceScatter_3.desc.field 64 8) (4 * reduceScatter_3.desc.field 24 4) 1048832 ∧
      Dispatched reduceScatter_2 arg reduceScatter_3 65 none) ∧
    (allGather_2.upsets = [] ∧ Released allGather_2 arg.ctx allGather_3 ∧ allGather_2.members arg.ctx = 1 ∧ allGather_2.rank arg.ctx = 0 ∧
      (allGather_2.ctx arg.ctx).coll arg.pos = none ∧ allGather_3.desc.field 32 4 = (allGather_2.ctx arg.ctx).epoch ∧
      (((allGather_2.ctx arg.ctx).window.any fun v => decide (v.pos < arg.pos) && isCollective (opcodeOf v.desc) && v.desc.field 38 1 == allGather_3.desc.field 38 1 && v.st != OpState.finished && ((allGather_2.ctx arg.ctx).coll v.pos).isNone) = false) ∧
      (∀ (e : EarlyReady), e ∈ (allGather_2.ctx arg.ctx).earlyReady → e.tag ≠ allGather_3.desc.field 38 1) ∧
      HasFields allGather_3.desc [(28, 4, 0), (36, 2, 0), (39, 1, 0), (44, 4, 0), (56, 8, 0), (72, 32, 0), (124, 4, 0)] ∧
      allGather_3.desc.field 104 8 = 0 ∧
      InScratch allGather_2 arg.ctx (allGather_3.desc.field 48 8) (4 * allGather_3.desc.field 24 4) 1048576 ∧
      InScratch allGather_2 arg.ctx (allGather_3.desc.field 64 8) (4 * allGather_3.desc.field 24 4) 1048832 ∧
      Dispatched allGather_2 arg allGather_3 66 none) ∧
    (broadcast_2.upsets = [] ∧ Released broadcast_2 arg.ctx broadcast_3 ∧ broadcast_2.members arg.ctx = 1 ∧ broadcast_2.rank arg.ctx = 0 ∧
      (broadcast_2.ctx arg.ctx).coll arg.pos = none ∧ broadcast_3.desc.field 32 4 = (broadcast_2.ctx arg.ctx).epoch ∧
      (((broadcast_2.ctx arg.ctx).window.any fun v => decide (v.pos < arg.pos) && isCollective (opcodeOf v.desc) && v.desc.field 38 1 == broadcast_3.desc.field 38 1 && v.st != OpState.finished && ((broadcast_2.ctx arg.ctx).coll v.pos).isNone) = false) ∧
      (∀ (e : EarlyReady), e ∈ (broadcast_2.ctx arg.ctx).earlyReady → e.tag ≠ broadcast_3.desc.field 38 1) ∧
      HasFields broadcast_3.desc [(28, 4, 0), (36, 2, 0), (39, 1, 0), (44, 4, 0), (56, 8, 0), (72, 32, 0), (124, 4, 0)] ∧
      broadcast_3.desc.field 104 8 = 0 ∧
      InScratch broadcast_2 arg.ctx (broadcast_3.desc.field 48 8) (4 * broadcast_3.desc.field 24 4) 1048576 ∧
      InScratch broadcast_2 arg.ctx (broadcast_3.desc.field 64 8) (4 * broadcast_3.desc.field 24 4) 1048832 ∧
      Dispatched broadcast_2 arg broadcast_3 69 none) ∧
    (exchange_2.upsets = [] ∧ Released exchange_2 arg.ctx (wop ex) ∧ exchange_2.members arg.ctx = 1 ∧ exchange_2.rank arg.ctx = 0 ∧
      (exchange_2.ctx arg.ctx).coll arg.pos = none ∧ (wop ex).desc.field 32 4 = (exchange_2.ctx arg.ctx).epoch ∧
      (((exchange_2.ctx arg.ctx).window.any fun v => decide (v.pos < arg.pos) && isCollective (opcodeOf v.desc) && v.desc.field 38 1 == (wop ex).desc.field 38 1 && v.st != OpState.finished && ((exchange_2.ctx arg.ctx).coll v.pos).isNone) = false) ∧
      (∀ (e : EarlyReady), e ∈ (exchange_2.ctx arg.ctx).earlyReady → e.tag ≠ (wop ex).desc.field 38 1) ∧
      HasFields (wop ex).desc [(28, 4, 0), (36, 2, 0), (39, 1, 0), (44, 4, 0), (56, 8, 0), (72, 32, 0), (124, 4, 0)] ∧
      Dispatched exchange_2 arg (wop ex) 67 none ∧ (wop ex).desc.field 104 8 = 0 ∧ (wop ex).desc.field 24 4 = 1 ∧
      InScratch exchange_2 arg.ctx ((wop ex).desc.field 48 8) ((wop ex).desc.field 112 4) 1048576 ∧
      InScratch exchange_2 arg.ctx ((wop ex).desc.field 64 8) ((wop ex).desc.field 112 4) 1048832) ∧
    ((permute_2.upsets = [] ∧ Released permute_2 arg.ctx (wop pe) ∧ permute_2.members arg.ctx = 1 ∧ permute_2.rank arg.ctx = 0 ∧
      (permute_2.ctx arg.ctx).coll arg.pos = none ∧ (wop pe).desc.field 32 4 = (permute_2.ctx arg.ctx).epoch ∧
      (((permute_2.ctx arg.ctx).window.any fun v => decide (v.pos < arg.pos) && isCollective (opcodeOf v.desc) && v.desc.field 38 1 == (wop pe).desc.field 38 1 && v.st != OpState.finished && ((permute_2.ctx arg.ctx).coll v.pos).isNone) = false) ∧
      (∀ (e : EarlyReady), e ∈ (permute_2.ctx arg.ctx).earlyReady → e.tag ≠ (wop pe).desc.field 38 1) ∧
      HasFields (wop pe).desc [(28, 4, 0), (36, 2, 0), (39, 1, 0), (44, 4, 0), (56, 8, 0), (72, 32, 0), (124, 4, 0)] ∧
      Dispatched permute_2 arg (wop pe) 68 none ∧ (wop pe).desc.field 48 8 = 0 ∧ (wop pe).desc.field 64 8 = 0 ∧ (wop pe).desc.field 24 4 = 2 ∧
      (permute_2.ctx arg.ctx).loading = false) ∧ (InScratch permute_2 arg.ctx ((wop pe).desc.field 104 8) 48 1049088 ∧
      permute_2.memNat 1049088 8 = 0 ∧ permute_2.memNat (1049088 + 24) 8 = 2 ^ 16 ∧
      permute_2.memNat (1049088 + 40) 8 = permute_2.memNat (1049088 + 16) 8 ∧ 1 ≤ permute_2.memNat (1049088 + 16) 8 ∧
      permute_2.memNat (1049088 + 16) 8 ≤ 2 ^ 40 ∧
      InScratch permute_2 arg.ctx (permute_2.memNat (1049088 + 8) 8) (permute_2.memNat (1049088 + 16) 8) 1048576 ∧
      InScratch permute_2 arg.ctx (permute_2.memNat (1049088 + 32) 8) (permute_2.memNat (1049088 + 16) 8) 1049344)) :=
  by refine ⟨?_, ?_, ?_, ?_, ?_, ⟨by decide +kernel, by decide +kernel⟩⟩ <;> decide +kernel

end Sys2Proof.Tests.Teams
end

