-- ==== Sys2Proof/Tests/Tiers.lean ====
section
/-! SUPPORT. Small states and operands that meet the hypotheses of statements of Obligations.lean, one theorem a statement or part of
one, one bracket a state; what an earlier bracket shows of the same terms is not said again. -/

set_option Elab.async false

namespace Sys2Proof.Tests.Tiers
open Sys2Proof Sys2Proof.Machine Sys2Proof.Safety Sys2Proof.Tests

def tierOn : Tier := { mounted := true }
/-- parcel 2 resides on flash, home at loc 77 -/
def fl (x : Ctx) (f : Tier → Tier) : State :=
  let s := withMem (work { x with fired := 3 } (op [])) [(0x201010, 8, (PEntry.mk 2 false false 0 3).toNat)]
  { s with tier := f { tierOn with homes := [(homeKey 0 2, { loc := 77, step := 3, image := [(0, 0x11), (4095, 0x22)] })] } }
def s1 := fl {} fun t => { t with promoq := [homeKey 0 2] }
def tk (s : State) := (s.takePool s.poolDie).getD (0, s)
def prom_s1 : State := (tk s1).2
def s3 := fl { shadows := [(2, {frame := 0x300000, filled := true, old := none})] } fun t => { t with promoq := [homeKey 0 2] }
def s4 := withMem (fl {} fun t => { t with dirtySince := [(homeKey 0 1, 2)], mapFrames := [0x900000] }) [(0x201008, 8, (PEntry.mk 1 true false 0x300000 2).toNat),(0x300008,8,0x1234)]
def s5 := blocks (withMem (fl {} fun t => { t with homes := [(homeKey 0 1, { loc := 77, step := 3 })]}) [(0x201008, 8, (PEntry.mk 1 false false 0x300000 2).toNat),(0x300008,8,0x1234)]) [(11,0x10,1000000000),(11,0x18,1000000001)]
def mg (l : List Migration) : State := { withMem (work { migrations := l } (op [(2,0x32),(24,1),(32,scr 0x100000)])) [] with tier := tierOn }
def mw : WinOp := { pos := 5, desc := op [(2,0x32),(24,1),(32,scr 0x100000)], st := .running, step := 1 }
def m1 : Migration := { parcel := 1, dest := 0, frame := 0x700000, pos := 5 }
def mig_5 : State := (mg [m1])
def mig_r : Run := ((copyParcel 1).run (startRun (mg [m1]) arg mw)).2
def migw_5 : State := (mg [m1, {m1 with parcel := 2}])
def migw_r : Run := ((copyParcel 1).run (startRun (mg [m1, {m1 with parcel := 2}]) arg mw)).2
def pgw (i : Nat) : State := (opS i).modWin 0 5 fun w => { w with wait := some .page }
def pw (i : Nat) : WinOp := { opW i with wait := some .page }
def pg_w : WinOp := pw (if 2 = 2 then 10 else 15)
def pg_r : Run := (appendBody.run (startRun (pgw 10) arg (pw 10))).2
def pgn : State := { pgw 10 with pframes := (List.range 2).map fun f => (frameKey 0 f, { count := 1, generation := 1}) }
def pgn_w : WinOp := pw (if 2 = 2 then 10 else 15)
def s6 := fl { missing := [2], missedAt := [(2, 0)] } fun t => { t with promoq := [homeKey 0 2] }
def late_s1 : State := (tk s6).2
def s7 := fl { missing := [2], shadows := [(2, {frame := 0x300000, filled := true, old := none})] } id
def lend_s1 : State := (tk s7).2

/-- Obligations.ParcelsMoveBetweenTheTiers. -/
theorem witness_ParcelsMoveBetweenTheTiers :
    (((s6.entryAddr 0 2 = some 2101264 ∧ (s6.firedEntry 0 2).isSome = true ∧ ((s6.firedEntry 0 2).get (by decide +kernel)).where_ = 2 ∧
      ((s6.firedEntry 0 2).get (by decide +kernel)).lost = false ∧ (alook (homeKey 0 2) s6.tier.homes).isSome = true ∧
      ((alook (homeKey 0 2) s6.tier.homes).get (by decide +kernel)).lost = false ∧ s6.takePool s6.poolDie = some ((tk s6).fst, late_s1) ∧
      (2101264 + 8 ≤ (tk s6).fst ∨ (tk s6).fst + 4096 ≤ 2101264) ∧
      (s6.pg 0 24 + 8 * (2 / 512) + 8 ≤ (tk s6).fst ∨ (tk s6).fst + 4096 ≤ s6.pg 0 24 + 8 * (2 / 512)) ∧ s6.upsets = [] ∧
      inMemory 2101264 8 = true ∧ s6.tierRuns = true ∧ s6.tier.promoq.contains (homeKey 0 2) = true ∧ s6.shadowed 0 2 = false) ∧
      (s6.migrating 0 2 = false ∧ (s6.ctx 0).missing = [2] ∧ alook 2 (s6.ctx 0).missedAt = some 0 ∧ s6.pwr.life = Life.ready ∧
      s6.tier.mounted = true ∧ s6.demotable 0 2 = false)) ∧
     ((mig_5.entryAddr 0 1 = some 2101256 ∧ mig_5.demotable 0 1 = false ∧
      (List.find? (fun m => m.parcel == 1 && !m.pending) (mig_5.ctx 0).migrations = some m1) ∧
      Dispatched mig_5 { ctx := 0, pos := m1.pos } mw 50 none ∧ mig_r.writes = 0 ∧ mig_r.events = [] ∧ Released mig_r.s 0 mw) ∧
      (ExceptT.run (copyParcel 1) (startRun mig_5 { ctx := 0, pos := m1.pos } mw) = (Except.ok (), mig_r))) ∧
     (((pgw 10).entryAddr 0 1 = some 2101256 ∧ (pgw 10).demotable 0 1 = false ∧ Dispatched (pgw 10) arg pg_w 26 (some 2) ∧ (2 = 2 ∨ 2 = 7) ∧
      pg_w.wait = some Wait.page ∧ ((pgw 10).freeFrame ((pgw 10).seqPool (pg_w.desc.field 24 2))).isSome = true ∧ pg_r.writes = 0 ∧
      pg_r.events = [] ∧ Released pg_r.s arg.ctx pg_w) ∧ (ExceptT.run appendBody (startRun (pgw 10) arg pg_w) = (Except.ok (), pg_r))) ∧
     ((s1.entryAddr 0 2 = some 2101264 ∧ (s1.firedEntry 0 2).isSome = true ∧ ((s1.firedEntry 0 2).get (by decide +kernel)).where_ = 2 ∧
      ((s1.firedEntry 0 2).get (by decide +kernel)).lost = false ∧ (alook (homeKey 0 2) s1.tier.homes).isSome = true ∧
      ((alook (homeKey 0 2) s1.tier.homes).get (by decide +kernel)).lost = false ∧ s1.takePool s1.poolDie = some ((tk s1).fst, prom_s1) ∧
      (2101264 + 8 ≤ (tk s1).fst ∨ (tk s1).fst + 4096 ≤ 2101264) ∧
      (s1.pg 0 24 + 8 * (2 / 512) + 8 ≤ (tk s1).fst ∨ (tk s1).fst + 4096 ≤ s1.pg 0 24 + 8 * (2 / 512)) ∧ s1.upsets = [] ∧ s1.tierRuns = true ∧
      s1.tier.promoq.contains (homeKey 0 2) = true ∧ s1.shadowed 0 2 = false ∧ s1.migrating 0 2 = false) ∧
      ((s1.ctx 0).missing.contains 2 = false)) ∧
     (s3.entryAddr 0 2 = some 2101264 ∧ s3.tierRuns = true ∧ s3.tier.promoq.contains (homeKey 0 2) = true ∧
      (s3.shadowed 0 2 = true ∨ s3.migrating 0 2 = true)) ∧
     (s4.entryAddr 0 1 = some 2101256 ∧ s4.tierRuns = true ∧ alook (homeKey 0 1) s4.tier.dirtySince = some 2 ∧
      (s4.platEntry 0 1).isSome = true ∧ ((s4.platEntry 0 1).get (by decide +kernel)).where_ = 1 ∧ alook 1 (s4.ctx 0).firedShadows = none ∧
      ((∀ (y : Nat × Nat), y ∈ s4.tier.dirtySince → y.fst / 2 ^ 33 = 0 → 2 ≤ y.snd) ∨ s4.demotes = true ∧ s4.demotable 0 1 = true ∧
      s4.olderCopy 0 1 = false) ∧ s4.mayHome 0 1 = true ∧ s4.tier.homes.length + 1 < s4.tier.capacity ∧
      8 * (s4.tier.homes.length + 1) ≤ 4096 * s4.tier.mapFrames.length ∧
      (∀ (m : Nat), m ∈ s4.tier.mapFrames → (2101256 + 8 ≤ m ∨ m + 4096 ≤ 2101256) ∧
      (s4.pg 0 24 + 8 * (1 / 512) + 8 ≤ m ∨ m + 4096 ≤ s4.pg 0 24 + 8 * (1 / 512))) ∧ s4.upsets = [] ∧ inMemory 2101256 8 = true) ∧
     (s5.entryAddr 0 1 = some 2101256 ∧ s5.tierRuns = true ∧ s5.demotes = true ∧ s5.demotable 0 1 = true ∧ (s5.platEntry 0 1).isSome = true ∧
      s5.cleanCopy 0 1 = true ∧ s5.olderCopy 0 1 = false ∧ s5.upsets = [])) ∧
    (((migw_5.entryAddr 0 1 = some 2101256 ∧ (List.find? (fun m => m.parcel == 1 && !m.pending) (migw_5.ctx 0).migrations = some m1) ∧
      Dispatched migw_5 { ctx := 0, pos := m1.pos } mw 50 none ∧ Released migw_r.s 0 mw) ∧
      (ExceptT.run (copyParcel 1) (startRun migw_5 { ctx := 0, pos := m1.pos } mw) = (Except.error (Stop.hold Wait.other), migw_r))) ∧
     (pgn.entryAddr 0 1 = some 2101256 ∧ Dispatched pgn arg pgn_w 26 (some 2) ∧ pgn_w.wait = some Wait.page ∧
      pgn.freeFrame (pgn.seqPool (pgn_w.desc.field 24 2)) = none) ∧
     (s7.entryAddr 0 2 = some 2101264 ∧ (s7.firedEntry 0 2).isSome = true ∧ ((s7.firedEntry 0 2).get (by decide +kernel)).where_ = 2 ∧
      ((s7.firedEntry 0 2).get (by decide +kernel)).lost = false ∧ (alook (homeKey 0 2) s7.tier.homes).isSome = true ∧
      ((alook (homeKey 0 2) s7.tier.homes).get (by decide +kernel)).lost = false ∧ s7.takePool s7.poolDie = some ((tk s7).fst, lend_s1) ∧
      (2101264 + 8 ≤ (tk s7).fst ∨ (tk s7).fst + 4096 ≤ 2101264) ∧
      (s7.pg 0 24 + 8 * (2 / 512) + 8 ≤ (tk s7).fst ∨ (tk s7).fst + 4096 ≤ s7.pg 0 24 + 8 * (2 / 512)) ∧ s7.upsets = [] ∧
      s7.pwr.life = Life.ready ∧ s7.tier.mounted = true ∧ (s7.ctx 0).missing = [2] ∧ (s7.shadowed 0 2 = true ∨ s7.migrating 0 2 = true))) :=
  ⟨by refine ⟨⟨by decide +kernel, by decide +kernel⟩, ⟨by decide +kernel, ends_of (by decide +kernel)⟩, ⟨by decide +kernel, ends_of (by decide +kernel)⟩, ⟨by decide +kernel, by decide +kernel⟩, ?_, ?_, ?_⟩ <;> decide +kernel,
   by refine ⟨⟨by decide +kernel, ends_of (by decide +kernel)⟩, ?_, ?_⟩ <;> decide +kernel⟩

end Sys2Proof.Tests.Tiers
end

