-- ==== Sys2Proof/Tests/Transfers.lean ====
section
/-! SUPPORT. Small states and operands that meet the hypotheses of statements of Obligations.lean, one theorem a statement or part of
one, one bracket a state; what an earlier bracket shows of the same terms is not said again. -/

set_option Elab.async false

namespace Sys2Proof.Tests.Transfers
open Sys2Proof Sys2Proof.Machine Sys2Proof.Safety Sys2Proof.Tests

def ds2 : List Desc := [31787241367950214741863698527485493251, 204166304774447957181447646161269817348, 96986913020572045273321140933502238725]
def f1 := hosted (up { live with cmdProducer := 6, fetchPos := 3, retirePos := 2 })
def f2 := hosted (up { live with cmdProducer := 4, fetchPos := 3, retirePos := 2, reread := some (3, 6) })
def f3 := hosted (up { live with cmdProducer := 4, fetchPos := 3, retirePos := 2, reread := some (3, 7), ring := .torn })
def ok_4 : Desc := 31787241367950214741863698527485493251
def bad_4 : Desc := 290280548173248073400625927781378752516
def torn_4 : Desc := (mkDesc [(0,3),(2,1),(14,5)])
def e1 : Entry := { kind := 2, outcome := 0, code := 5, context := 0, position := 3, step := 4, datum := 5, tag := 0, payload := 2^190+7}
def f4 := hosted (up { live with entryq := [e1, e1], eventPos := 66, eventConsumer := 3 })
def put_4 : List Nat := ([] : List Nat)
def put_4x1 : List Nat := ([] : List Nat)
def f5 := hosted (up { live with entryq := [e1], eventPos := 67, eventConsumer := 3 })
def full_4 : List Nat := ([] : List Nat)
def full_6 : List Entry := ([] : List Entry)
def f6 := hosted (up { live with statusDirty := true, eventPos := 67, eventAcked := 5, ringReason := 0x101, ring := .torn })
def f7 : State := blocks { f6 with host := { f6.host with stewardPos := 9, qps := [{ conn := ⟨1,0,0,1,1⟩, est := true }] } } [(5,0x110,0x10000)]
def ty : Tally := { step := 4, bytes := List.replicate 8 1, fired := true }
def f8 := hosted (up { live with tallies := [ty], tallyPos := 1024, tallyDone := 1024, tallyConsumer := 1024 })
def w_4 : List Nat := ([] : List Nat)
def f9 := hosted (up { live with tallies := [{ty with written := true, acked := true, endPos := 1536}], tallyPos := 1536, tallyDone := 1024, tallyConsumer := 1024 })
def d_5 : Tally := { ty with written := true, acked := true, endPos := 1536 }
def hw (k : WriteKind) : HostWrite := { addr := 2^48, bytes := [1,2], kind := k, port := 0 }
def fin : WinOp := { pos := 8, desc := mkDesc [(2,3),(3,1),(4,77)], st := .finished, writes := 1 }
def g1 (k : WriteKind) := hosted (up { live with writes := [hw k, hw .status], tallies := [ty], window := [fin] })
def ga := g1 (.entry 6)
def gb := g1 (.tally 4 true 99)
def gc := g1 (.output 8)
def e_5 : List HostWrite := ([] : List HostWrite)
def e_6 : List HostWrite := [hw .status]
def e_7 : HostWrite := (hw (.entry 6))
def t_5 : List HostWrite := ([] : List HostWrite)
def t_6 : List HostWrite := [hw .status]
def t_7 : HostWrite := (hw (.tally 4 true 99))
def o_5 : List HostWrite := ([] : List HostWrite)
def o_6 : List HostWrite := [hw .status]
def o_7 : HostWrite := (hw (.output 8))
def held1 : HostWrite := { hw .status with sent := false }
def gd := hosted (up { live with writes := [held1, hw (.entry 6)] })
def part_6 : List HostWrite := ([] : List HostWrite)
def part_7 : HostWrite := (hw (.entry 6))
def h1 := hosted (up { live with window := [{ pos := 8, desc := mkDesc [(2,3)], st := .running, wait := some .hostInput }] })
def h2 := hosted (up { live with stalledReads := [8], ring := .stalled })
def hostAt : Nat := (0x800 <<< 52) + 2 ^ 48
def asks (p : Option Nat) : WinOp :=
  { pos := 8, desc := mkDesc [(2,3)], st := .running, wait := some .hostInput, asked := some (hostAt, 64), reads := [{ addr := hostAt, len := 64, port := p }] }
def h3 := hosted (up { live with window := [asks (some 0)] })
def f_w : WinOp := asks (some 0)
def f_r : HostRead := ({ addr := hostAt, len := 64, port := some 0 } : HostRead)
def h4 := hosted (up { live with window := [asks none] })
def g_w : WinOp := asks none
def g_r : HostRead := ({ addr := hostAt, len := 64 } : HostRead)

/-- Obligations.DescriptorsAreFetched, part 1. -/
theorem witness_DescriptorsAreFetched_1 :
    ((f1.pwr.life = Life.ready ∧ (f1.ctx 0).enabled = true ∧ (f1.ctx 0).ring = RingState.active ∧ (f1.ctx 0).reread = none ∧
      (f1.ctx 0).strict = false ∧ (f1.blk 10 0).testBit 0 = false ∧ 0 < f1.fetchCount 0 ∧ f1.fetchCount 0 ≤ ds2.length ∧
      windowHolds f1 0 (hostParts (f1.pg 0 128)).fst ((hostParts (f1.pg 0 128)).snd + (f1.ctx 0).fetchPos % f1.cmdEntries 0 * 128) (f1.fetchCount 0 * 128) false = true ∧
      (f1.readPort 0 (hostParts (f1.pg 0 128)).fst).isSome = true) ∧
      (∀ (i : Nat), i < f1.fetchCount 0 → descValid (ds2.getD i 0) ((f1.ctx 0).fetchPos + i) = true)) :=
  ⟨by decide +kernel, by simp only [descValid_forced]; decide +kernel⟩

/-- Obligations.DescriptorsAreFetched, part 2. -/
theorem witness_DescriptorsAreFetched_2 :
    ((f2.pwr.life = Life.ready ∧ (f2.ctx 0).enabled = true ∧ ((f2.ctx 0).ring = RingState.active ∨ (f2.ctx 0).ring = RingState.torn) ∧
      (f2.ctx 0).reread = some ((f2.ctx 0).fetchPos, 6) ∧ (f2.ctx 0).strict = false ∧ (f2.blk 10 0).testBit 0 = false ∧ f2.fetchCount 0 = 1 ∧
      windowHolds f2 0 (hostParts (f2.pg 0 128)).fst ((hostParts (f2.pg 0 128)).snd + (f2.ctx 0).fetchPos % f2.cmdEntries 0 * 128) 128 false = true ∧
      (f2.readPort 0 (hostParts (f2.pg 0 128)).fst).isSome = true) ∧ (NothingHeld (f2.ctx 0)) ∧
      (descValid ok_4 (f2.ctx 0).fetchPos = true)) ∧
    ((6 < 7) ∧ (descValid bad_4 (f2.ctx 0).fetchPos = false)) ∧
    ((f3.pwr.life = Life.ready ∧ (f3.ctx 0).enabled = true ∧ ((f3.ctx 0).ring = RingState.active ∨ (f3.ctx 0).ring = RingState.torn) ∧
      (f3.ctx 0).reread = some ((f3.ctx 0).fetchPos, 7) ∧ (f3.ctx 0).strict = false ∧ (f3.blk 10 0).testBit 0 = false ∧ f3.fetchCount 0 = 1 ∧
      windowHolds f3 0 (hostParts (f3.pg 0 128)).fst ((hostParts (f3.pg 0 128)).snd + (f3.ctx 0).fetchPos % f3.cmdEntries 0 * 128) 128 false = true ∧
      (f3.readPort 0 (hostParts (f3.pg 0 128)).fst).isSome = true) ∧ (NothingHeld (f3.ctx 0)) ∧
      (descValid torn_4 (f3.ctx 0).fetchPos = false)) :=
  ⟨⟨by decide +kernel, by unfold NothingHeld; decide +kernel, by simp only [descValid_forced]; decide +kernel⟩,
   ⟨by decide +kernel, by decide +kernel⟩,
   ⟨by decide +kernel, by unfold NothingHeld; decide +kernel, by simp only [descValid_forced]; decide +kernel⟩⟩

/-- Obligations.EntriesAndStatusAreWritten, part 1. -/
theorem witness_EntriesAndStatusAreWritten_1 :
    (f4.pwr.life = Life.ready ∧ 0 ≠ 1024 ∧ (f4.ctx 0).enabled = true ∧ (f4.ctx 0).ring ≠ RingState.orphaned ∧ f4.attached 0 = true ∧
      f4.ringInWindow 0 (f4.pg 0 144) (f4.eventEntries 0 * 64) = true ∧ windowPorts f4 0 (hostParts (f4.pg 0 144)).fst = 0 :: put_4 ∧
      (f4.ctx 0).lostEntries = 0 ∧ (f4.ctx 0).entryq = [e1, e1] ∧ (∀ (v : HostWrite), v ∈ (f4.ctx 0).writes → v.sent = true) ∧
      f4.writePort 0 { addr := f4.pg 0 144 + (f4.ctx 0).eventPos % f4.eventEntries 0 * 64, bytes := entryBytes e1 (f4.ctx 0).eventPos, kind := WriteKind.entry (f4.ctx 0).eventPos, port := 0, sent := false } = some 0 ∧
      (f4.ctx 0).eventPos < (f4.ctx 0).eventConsumer + f4.eventEntries 0) ∧
    (f5.pwr.life = Life.ready ∧ (f5.ctx 0).enabled = true ∧ (f5.ctx 0).ring ≠ RingState.orphaned ∧ f5.attached 0 = true ∧
      f5.ringInWindow 0 (f5.pg 0 144) (f5.eventEntries 0 * 64) = true ∧ windowPorts f5 0 (hostParts (f5.pg 0 144)).fst = 0 :: full_4 ∧
      (f5.ctx 0).lostEntries = 0 ∧ (f5.ctx 0).entryq = e1 :: full_6 ∧ (∀ (v : HostWrite), v ∈ (f5.ctx 0).writes → v.sent = true) ∧
      f5.writePort 0 { addr := f5.pg 0 144 + (f5.ctx 0).eventPos % f5.eventEntries 0 * 64, bytes := entryBytes e1 (f5.ctx 0).eventPos, kind := WriteKind.entry (f5.ctx 0).eventPos, port := 0, sent := false } = some 0 ∧
      (f5.ctx 0).eventConsumer + f5.eventEntries 0 ≤ (f5.ctx 0).eventPos) :=
  by refine ⟨?_, ?_⟩ <;> decide +kernel

/-- Obligations.EntriesAndStatusAreWritten, part 2. -/
theorem witness_EntriesAndStatusAreWritten_2 :
    (f6.pwr.life = Life.ready ∧ 0 ≠ 1024 ∧ (f6.ctx 0).enabled = true ∧ (f6.ctx 0).ring ≠ RingState.orphaned ∧ f6.attached 0 = true ∧
      (f6.ctx 0).statusDirty = true ∧ (∀ (n : Nat), (f6.ctx 0).statusAt = some n → n + 1000 ≤ f6.datum) ∧
      f6.ringInWindow 0 (f6.pg 0 176) 64 = true ∧ windowPorts f6 0 (hostParts (f6.pg 0 176)).fst = 0 :: put_4x1 ∧
      (∀ (v : HostWrite), v ∈ (f6.ctx 0).writes → v.sent = true)) ∧
    ((f7.pwr.life = Life.ready ∧ f7.stewardOpen = true ∧ f7.host.stewardHold = 0 ∧ f7.blk 5 272 ≠ 0) ∧
      (∀ (n m : Nat), f7.host.stewardStatus = some (n, m) → n ≠ f7.stewardShown ∧ m + 1000 ≤ f7.datum)) :=
  ⟨by decide +kernel,
   ⟨by decide +kernel, fun n m h => (by rw [show f7.host.stewardStatus = none by decide +kernel] at h; cases h)⟩⟩

/-- Obligations.TalliesAndAcknowledgements, part 1. -/
theorem witness_TalliesAndAcknowledgements_1 :
    (f8.pwr.life = Life.ready ∧ (f8.ctx 0).enabled = true ∧ (f8.ctx 0).ring ≠ RingState.orphaned ∧ f8.attached 0 = true ∧
      (List.find? (fun t => t.fired && !t.written) (f8.ctx 0).tallies = some ty) ∧ ty.bytes.length * 2 ≤ f8.tallyBytes 0 ∧
      f8.ringInWindow 0 (f8.pg 0 160) (f8.tallyBytes 0) = true ∧ windowPorts f8 0 (hostParts (f8.pg 0 160)).fst = 0 :: w_4 ∧
      (f8.ctx 0).tallyPos % f8.tallyBytes 0 + ty.bytes.length ≤ f8.tallyBytes 0 ∧
      (f8.ctx 0).tallyPos + ty.bytes.length ≤ (f8.ctx 0).tallyConsumer + f8.tallyBytes 0 ∧
      (∀ (v : HostWrite), v ∈ (f8.ctx 0).writes → v.sent = true) ∧
      f8.writePort 0 { addr := f8.pg 0 160 + (f8.ctx 0).tallyPos % f8.tallyBytes 0, bytes := ty.bytes, kind := WriteKind.tally ty.step true (up64 ((f8.ctx 0).tallyPos + ty.bytes.length)), port := 0, sent := false } = some 0) ∧
    ((List.find? (fun t => t.written && !t.delivered) (f9.ctx 0).tallies = some d_5) ∧ d_5.acked = true) :=
  by refine ⟨?_, ?_⟩ <;> decide +kernel

/-- Obligations.TalliesAndAcknowledgements, part 2. -/
theorem witness_TalliesAndAcknowledgements_2 :
    (0 ≠ 1024 ∧ (ga.ctx 0).writes = e_5 ++ e_7 :: e_6 ∧ (∀ (v : HostWrite), v ∈ e_5 → ¬(v.sent = true ∧ v.port = 0)) ∧ e_7.sent = true ∧
      e_7.port = 0 ∧ e_7.bytes.length ≤ e_7.acked + 5 ∧ e_7.kind = WriteKind.entry 6 ∧ (ga.ctx 0).ring ≠ RingState.orphaned ∧
      ga.portOpen 0 = true) ∧
    ((gb.ctx 0).writes = t_5 ++ t_7 :: t_6 ∧ (∀ (v : HostWrite), v ∈ t_5 → ¬(v.sent = true ∧ v.port = 0)) ∧ t_7.sent = true ∧ t_7.port = 0 ∧
      t_7.bytes.length ≤ t_7.acked + 2 ∧ t_7.kind = WriteKind.tally 4 true 99 ∧ (gb.ctx 0).ring ≠ RingState.orphaned ∧
      gb.portOpen 0 = true) ∧
    ((gc.ctx 0).writes = o_5 ++ o_7 :: o_6 ∧ (∀ (v : HostWrite), v ∈ o_5 → ¬(v.sent = true ∧ v.port = 0)) ∧ o_7.sent = true ∧ o_7.port = 0 ∧
      o_7.bytes.length ≤ o_7.acked + 2 ∧ o_7.kind = WriteKind.output 8 ∧ gc.winOp 0 8 = some fin ∧ fin.writes = 1 ∧
      fin.st = OpState.finished ∧ fin.desc.field 3 1 % 2 = 1 ∧ Released gc 0 fin) ∧
    ((gd.ctx 0).writes = [held1] ++ part_7 :: part_6 ∧ (∀ (v : HostWrite), v ∈ [held1] → ¬(v.sent = true ∧ v.port = 0)) ∧ part_7.sent = true ∧
      part_7.port = 0 ∧ part_7.acked + 1 < part_7.bytes.length) :=
  by refine ⟨?_, ?_, ?_, ?_⟩ <;> decide +kernel

/-- Obligations.HostReadsRetryAndStall. -/
theorem witness_HostReadsRetryAndStall :
    ((h4.pwr.life = Life.ready ∧ 0 ≠ 1024 ∧ (h4.ctx 0).enabled = true ∧ (h4.ctx 0).ring ≠ RingState.orphaned ∧ (h4.ctx 0).writes = [] ∧
      (∀ (v : WinOp), v ∈ (h4.ctx 0).window → ∀ (r : HostRead), r ∈ v.reads → r.port = none ∨ r.done = true) ∧ (h4.ctx 0).keepRead = none ∧
      h4.readPort 0 (hostParts (h4.pg 0 176)).fst = some 0 ∧ (h4.ctx 0).window = [g_w] ∧ g_w.pos = 8 ∧ g_w.wait = some Wait.hostInput ∧
      g_w.asked = some (hostAt, 64) ∧ g_w.reads = [g_r] ∧ g_r.covers (hostAt, 64) = true) ∧ (g_r.port = none ∧ g_r.done = false ∧
      windowHolds h4 0 (hostParts hostAt).fst (hostParts hostAt).snd 64 false = true ∧ h4.readPort 0 (hostParts hostAt).fst = some 0 ∧
      h4.winOp 0 8 = some g_w ∧ ¬259 ∈ g_w.seen ∧ ¬8 ∈ (h4.ctx 0).stalledReads ∧ (h4.ctx 0).ring = RingState.active)) ∧
    (h1.pwr.life = Life.ready ∧ (h1.ctx 0).enabled = true ∧ (h1.ctx 0).ring ≠ RingState.orphaned ∧ (h1.ctx 0).writes = [] ∧
      (∀ (v : WinOp), v ∈ (h1.ctx 0).window → ∀ (r : HostRead), r ∈ v.reads → r.port = none ∨ r.done = true) ∧ (h1.ctx 0).keepRead = none ∧
      (h1.readPort 0 (hostParts (h1.pg 0 176)).fst).isSome = true ∧ (h1.winOp 0 8).isSome = true ∧
      ((h1.winOp 0 8).get (by decide +kernel)).wait = some Wait.hostInput ∧ ¬259 ∈ ((h1.winOp 0 8).get (by decide +kernel)).seen ∧
      ¬8 ∈ (h1.ctx 0).stalledReads ∧ (h1.ctx 0).ring = RingState.active) ∧
    (8 ∈ (h2.ctx 0).stalledReads ∧ (h2.ctx 0).ring = RingState.stalled ∧ (∀ (w : WinOp), h2.winOp 0 8 = some w → ¬260 ∈ w.seen)) ∧
    (h3.winOp 0 8 = some f_w ∧ f_w.wait = some Wait.hostInput ∧ f_w.asked = some (hostAt, 64) ∧ (h3.ctx 0).ring ≠ RingState.orphaned ∧
      (List.find? (fun r => r.covers (hostAt, 64)) f_w.reads = some f_r) ∧ f_r.port = some 0 ∧ h3.portOpen 0 = true) :=
  by refine ⟨⟨by decide +kernel, by decide +kernel⟩, ?_, ?_, ?_⟩ <;> decide +kernel

end Sys2Proof.Tests.Transfers
end

