-- ==== Sys2Proof/Tests/Traverses.lean ====
section
/-! SUPPORT. Small states and operands that meet the hypotheses of statements of Obligations.lean, one theorem a statement or part of
one, one bracket a state; what an earlier bracket shows of the same terms is not said again. -/

set_option Elab.async false

namespace Sys2Proof.Tests.Traverses
open Sys2Proof Sys2Proof.Machine Sys2Proof.Safety Sys2Proof.Tests

def pk (ty vc slots : Nat) (b : PBody) : Packet := { dest := 0, src := 1, vc := vc, type := ty, slots := slots, hops := 0, job := 7, body := b }
def hel (ident hport version grid status : Nat) : Packet := { dest := 0, src := 1, vc := 3, type := 0x10, slots := 1, hops := 0, job := 0, body := .hello ident hport 15 version 0x0200 grid 0x8000 1 status }
def hs (st : PortState) (ser : Nat := 5) (nb : Option Packet := none) : State := { blocks { pwr := {life := .ready}, trust := {serial := ser} } [(4,0,2^15),(4,0x188,2^17 + 3 + 2^14 * 2)] with ports := [(1, { st := st, lanes := 15, neighbour := nb })] }
def G := 3 + 2^15
def q1_2 : Packet := (hel 5 2 0x0203 G 1)
def q1_3 : State := (hs .traverse)
def q2_2 : Packet := (hel 6 2 0x0303 G 1)
def q2_3 : State := (hs .traverse)
def hsn : State := blocks (hs .traverse) [(4,0x188, 3 + 2^14 * 2)]
def q3_2 : Packet := (hel 6 2 0x0203 G 1)
def stay_2 : Packet := (hel 6 2 0x0203 3 1)
def stay_3 : State := (hs .traverse)
def q5_2 : Packet := (hel 6 2 0x0203 (2^15) 1)
def q5_3 : State := (hs .traverse)
def q4_2 : Packet := (hel 6 3 0x0203 G 1)
def q4_3 : State := (hs .traverse)
def up_2 : Packet := (hel 6 2 0x0203 G 1)
def up_3 : State := (hs .traverse)
def nup_2 : Packet := (hel 6 2 0x0203 G 0)
def nup_3 : State := (hs .traverse)
def us_2 : Packet := (hel 6 2 0x0203 G 0)
def us_3 : State := (hs .up 5 (some (hel 6 2 0x0203 G 1)))
def dn_2 : Packet := (hel 6 2 0x0203 G 0)
def dn_3 : State := (hs .down)
def tr (ty a n : Nat) (d : List Byte) : Packet := pk ty 1 1 (.tray a n d)
def ts (x : Ctx) : State := page (job { x with step := .running } 0 3) [(0x028, 0x100000), (0x030, 0x100000)]
def rok_1 : Packet := (tr 0x18 0x100010 8 [])
def rno_1 : Packet := (tr 0x18 0x300010 8 [])
def wok_1 : Packet := (tr 0x1A 0x100010 4 [1,2,3])
def wno_1 : Packet := (tr 0x1A 0x300010 4 [1,2,3])
def r9_1 : Packet := (tr 0x19 0x300010 4 [1,2,3])
def r90_1 : Packet := (tr 0x19 0x300010 4 [])

/-- Obligations.PortsTraverse, part 2. -/
theorem witness_PortsTraverse_2 :
    ((q1_3.pwr.life = Life.ready ∧ q1_2.type = 16 ∧ q1_2.body = PBody.hello 5 2 15 515 512 G 32768 1 1 ∧ (q1_3.port 1).waiting = [] ∧
      (q1_3.port 1).st = PortState.traverse ∧ q1_3.trust.serial ≠ 0 ∧ q1_3.gridValid = true ∧ 5 = q1_3.trust.serial ∧
      (q1_3.port 1).linked = true ∧ 1 ≤ (q1_3.port 1).credits.getD 3 0 ∧ (q1_3.port 1).replay.length < 2048) ∧
     (dn_3.pwr.life = Life.ready ∧ dn_2.type = 16 ∧ dn_2.body = PBody.hello 6 2 15 515 512 G 32768 1 0 ∧ (dn_3.port 1).waiting = [] ∧
      ((dn_3.port 1).st = PortState.disabled ∨ (dn_3.port 1).st = PortState.down ∨ (dn_3.port 1).st = PortState.training) ∧
      (dn_3.port 1).linked = false) ∧
     (q2_3.pwr.life = Life.ready ∧ q2_2.type = 16 ∧ q2_2.body = PBody.hello 6 2 15 771 512 G 32768 1 1 ∧ (q2_3.port 1).waiting = [] ∧
      (q2_3.port 1).st = PortState.traverse ∧ q2_3.trust.serial ≠ 0 ∧ q2_3.gridValid = true ∧ 6 ≠ q2_3.trust.serial ∧
      compatible 771 512 = false) ∧
     (hsn.pwr.life = Life.ready ∧ q3_2.type = 16 ∧ q3_2.body = PBody.hello 6 2 15 515 512 G 32768 1 1 ∧ (hsn.port 1).waiting = [] ∧
      (hsn.port 1).st = PortState.traverse ∧ hsn.trust.serial ≠ 0 ∧ hsn.gridValid = true ∧ 6 ≠ hsn.trust.serial ∧ compatible 515 512 = true ∧
      (hsn.blk 4 (384 + 8 * 1)).testBit 17 = false) ∧
     (stay_3.pwr.life = Life.ready ∧ stay_2.type = 16 ∧ stay_2.body = PBody.hello 6 2 15 515 512 3 32768 1 1 ∧ (stay_3.port 1).waiting = [] ∧
      (stay_3.port 1).st = PortState.traverse ∧ stay_3.trust.serial ≠ 0 ∧ stay_3.gridValid = true ∧ 6 ≠ stay_3.trust.serial ∧
      compatible 515 512 = true ∧ (stay_3.blk 4 (384 + 8 * 1)).testBit 17 = true ∧ Nat.testBit 3 15 = false) ∧
     (q5_3.pwr.life = Life.ready ∧ q5_2.type = 16 ∧ q5_2.body = PBody.hello 6 2 15 515 512 (2 ^ 15) 32768 1 1 ∧ (q5_3.port 1).waiting = [] ∧
      (q5_3.port 1).st = PortState.traverse ∧ q5_3.trust.serial ≠ 0 ∧ q5_3.gridValid = true ∧ 6 ≠ q5_3.trust.serial ∧
      compatible 515 512 = true ∧ (q5_3.blk 4 (384 + 8 * 1)).testBit 17 = true ∧ (2 ^ 15).testBit 15 = true ∧
      2 ^ 15 % 2 ^ 14 = q5_3.gridRef) ∧
     (q4_3.pwr.life = Life.ready ∧ q4_2.type = 16 ∧ q4_2.body = PBody.hello 6 3 15 515 512 G 32768 1 1 ∧ (q4_3.port 1).waiting = [] ∧
      (q4_3.port 1).st = PortState.traverse ∧ q4_3.trust.serial ≠ 0 ∧ q4_3.gridValid = true ∧ 6 ≠ q4_3.trust.serial ∧
      compatible 515 512 = true ∧ (q4_3.blk 4 (384 + 8 * 1)).testBit 17 = true ∧ G.testBit 15 = true ∧ G % 2 ^ 14 ≠ q4_3.gridRef ∧
      (G % 2 ^ 14 ≠ bits (q4_3.blk 4 (384 + 8 * 1)) 0 14 ∨ 3 ≠ bits (q4_3.blk 4 (384 + 8 * 1)) 14 3))) ∧
    ((up_3.pwr.life = Life.ready ∧ up_2.type = 16 ∧ up_2.body = PBody.hello 6 2 15 515 512 G 32768 1 1 ∧ (up_3.port 1).waiting = [] ∧
      (up_3.port 1).st = PortState.traverse ∧ up_3.trust.serial ≠ 0 ∧ up_3.gridValid = true ∧ 6 ≠ up_3.trust.serial ∧
      compatible 515 512 = true ∧ (up_3.blk 4 (384 + 8 * 1)).testBit 17 = true ∧ G % 2 ^ 14 ≠ up_3.gridRef ∧
      G % 2 ^ 14 = bits (up_3.blk 4 (384 + 8 * 1)) 0 14 ∧ 2 = bits (up_3.blk 4 (384 + 8 * 1)) 14 3 ∧ Nat.testBit 1 0 = true) ∧
     (nup_3.pwr.life = Life.ready ∧ nup_2.type = 16 ∧ nup_2.body = PBody.hello 6 2 15 515 512 G 32768 1 0 ∧ (nup_3.port 1).waiting = [] ∧
      (nup_3.port 1).st = PortState.traverse ∧ nup_3.trust.serial ≠ 0 ∧ nup_3.gridValid = true ∧ 6 ≠ nup_3.trust.serial ∧
      compatible 515 512 = true ∧ (nup_3.blk 4 (384 + 8 * 1)).testBit 17 = true ∧ G % 2 ^ 14 ≠ nup_3.gridRef ∧
      G % 2 ^ 14 = bits (nup_3.blk 4 (384 + 8 * 1)) 0 14 ∧ 2 = bits (nup_3.blk 4 (384 + 8 * 1)) 14 3 ∧ Nat.testBit 0 0 = false) ∧
     (us_3.pwr.life = Life.ready ∧ us_2.type = 16 ∧ us_2.body = PBody.hello 6 2 15 515 512 G 32768 1 0 ∧ (us_3.port 1).waiting = [] ∧
      (us_3.port 1).usable = true ∧ (∀ (o : Packet), (us_3.port 1).neighbour = some o → helloId o.body = helloId us_2.body) ∧
      (us_3.port 1).neighbour ≠ none)) :=
  ⟨by refine ⟨?_, ?_, ?_, ?_, ?_, ?_, ?_⟩ <;> decide +kernel,
   by refine ⟨?_, ?_, ?_⟩ <;> decide +kernel⟩

/-- Obligations.TrayAccessesAreAnswered. -/
theorem witness_TrayAccessesAreAnswered :
    ((ts { }).pwr.life = Life.ready ∧ (ts { }).isMine rok_1 = true ∧ rok_1.body = PBody.tray 1048592 8 [] ∧
      (ts { }).ctxOfJob rok_1.job = some 0 ∧ (ts { }).upsets = [] ∧ rok_1.type = 24 ∧ 0 < 8 ∧ inMemory 1048592 8 = true ∧
      (ts { }).inJobRanges 0 1048592 8 = true) ∧
    ((ts { }).isMine rno_1 = true ∧ rno_1.body = PBody.tray 3145744 8 [] ∧ (ts { }).ctxOfJob rno_1.job = some 0 ∧ rno_1.type = 24 ∧
      (if inMemory 3145744 8 = true then if (ts { }).inJobRanges 0 3145744 8 = true then 0 else 2 else 3) = 2 ∧
      (if inMemory 3145744 8 = true then if (ts { }).inJobRanges 0 3145744 8 = true then 0 else 2 else 3) ≠ 0) ∧
    ((ts { }).isMine wok_1 = true ∧ wok_1.body = PBody.tray 1048592 4 [1, 2, 3] ∧ (ts { }).ctxOfJob wok_1.job = some 0 ∧ wok_1.type = 26 ∧
      [1, 2, 3] ≠ [] ∧ inMemory 1048592 [1, 2, 3].length = true ∧ (ts { }).inJobRanges 0 1048592 [1, 2, 3].length = true) ∧
    ((ts { }).isMine wno_1 = true ∧ wno_1.body = PBody.tray 3145744 4 [1, 2, 3] ∧ (ts { }).ctxOfJob wno_1.job = some 0 ∧ wno_1.type = 26 ∧
      (if inMemory 3145744 [1, 2, 3].length = true then if (ts { }).inJobRanges 0 3145744 [1, 2, 3].length = true then 0 else 2 else 3) = 2 ∧
      (if inMemory 3145744 [1, 2, 3].length = true then if (ts { }).inJobRanges 0 3145744 [1, 2, 3].length = true then 0 else 2 else 3) ≠ 0) ∧
    ((ts { }).isMine r9_1 = true ∧ r9_1.body = PBody.tray 3145744 4 [1, 2, 3] ∧ (ts { }).ctxOfJob r9_1.job = some 0 ∧ r9_1.type = 25) ∧
    ((ts { }).isMine r90_1 = true ∧ r90_1.body = PBody.tray 3145744 4 [] ∧ (ts { }).ctxOfJob r90_1.job = some 0 ∧ r90_1.type = 25 ∧
      0 < 4) :=
  by refine ⟨?_, ?_, ?_, ?_, ?_, ?_⟩ <;> decide +kernel

end Sys2Proof.Tests.Traverses
end

