-- ==== Sys2Proof/Tests/Voids.lean ====
section
/-! SUPPORT. Small states and operands that meet the hypotheses of statements of Obligations.lean, one theorem a statement or part of
one, one bracket a state; what an earlier bracket shows of the same terms is not said again. -/

set_option Elab.async false

namespace Sys2Proof.Tests.Voids
open Sys2Proof Sys2Proof.Machine Sys2Proof.Safety Sys2Proof.Tests

/-- member of rank r of n, context 0, grid r -/
def mem_ (s : State) (r n : Nat) : State := blocks (withMem (page s [(0x038, 0x500000)]) [(0x500000,2,7),(0x500002,2,n),(0x500004,2,r),(0x500040,8,0x0003000200010000)]) [(4,0,2^15 + r), (0,0x20,100),(4,0x200,8),(4,0x208,9),(4,0x210,10),(4,0x218,11)]
def prt (s : State) : State := { s with ports := (List.range 4).map fun i => (i, ({ st := .up, lanes := 15 } : Port)) }
def job (x : Ctx) (r n : Nat) : State := prt (mem_ (up { x with enabled := true }) r n)
def ctl (ty r step : Nat) (d orig ev dig cx : Nat) (dest : Nat) : Packet := { dest := dest, src := r, vc := 0, type := ty, slots := 1, hops := 0, job := 7, body := .control step d orig ev r 0 dig cx }
def av (st : StepState) (r : Nat) := job { step := st, fired := 3, window := [{pos := 3, desc := 0}] } r 3
def nostep_1 : Packet := (ctl 2 1 5 0 1 0x305 0 0 0)
def nostep_2 : State := (av .running 0)
def run_1 : Packet := (ctl 2 1 4 0 1 0x305 0 0 0)
def run_2 : State := (av .running 0)
def run1_1 : Packet := (ctl 2 9 4 0 9 0x305 0 0 1)
def run1_2 : State := (av .running 1)
def arm_1 : Packet := (ctl 2 9 4 0 9 0x305 0 0 1)
def arm_2 : State := (av .armed 1)
def vno_1 : Packet := (ctl 4 0 5 0 9 0x305 0 0 1)
def vno_2 : State := (av .running 1)
def vrun_1 : Packet := (ctl 4 0 4 0 9 0x305 0 0 1)
def vrun_2 : State := (av .running 1)
def vdoubt_1 : Packet := (ctl 4 0 4 0 9 0x305 0 0 1)
def vdoubt_2 : State := (av .inDoubt 1)
def vstop_1 : Packet := (ctl 4 0 4 0 9 0x305 0 0 1)
def vstop_2 : State := (av .stopped 1)
def varm_1 : Packet := (ctl 4 0 4 0 9 0x305 0 0 1)
def varm_2 : State := (av .armed 1)
def adoubt_1 : Packet := (ctl 2 1 4 0 1 0x305 0 0 0)
def adoubt_2 : State := (av .inDoubt 0)
def avoid_1 : Packet := (ctl 2 1 4 0 1 0x305 0 0 0)
def avoid_2 : State := (av .voiding 0)
def astop_1 : Packet := (ctl 2 1 4 0 1 0x305 0 0 0)
def astop_2 : State := (job { step := .stopped, fired := 3, voidSent := true } 0 3)
def vvoid_1 : Packet := (ctl 4 0 4 0 9 0x305 0 0 1)
def vvoid_2 : State := (av .voiding 1)
def cw : State := (work { fired := 3, firedShadows := [(1, {frame := 0x302000, old := some 0x300000, step := 3})] } (op []))
def cw1_f : FiredShadow := ({frame := 0x302000, old := some 0x300000, step := 3} : FiredShadow)
def rb (x : Ctx) : State := { job { x with step := .voiding, fired := 3, epoch := 9, firedEpoch := 2, shadows := [(1, {frame := 0x300000, filled := false, old := some 0x301000})], bentFrom := [(1,4)], cause := some (1,0x305), retirePos := 4, fetchPos := 9 } 0 2 with datum := 1000 }
def r1_2 : State := (rb {coneAt := some (5,0,7)})
def r3_2 : State := (job {} 0 2)
def l1_3 : Packet := (ctl 7 1 4 0 1 0 0 0 0)
def l1_4 : State := (job { step := .running, fired := 3 } 0 3)
def l2_3 : Packet := (ctl 7 1 4 0 1 0 0 0 0)
def l2_4 : State := (job { step := .bent, fired := 3 } 0 3)
def l3_3 : Packet := (ctl 7 1 4 0 1 0 0 0 0)
def l3_4 : State := (job { step := .armed, fired := 3 } 0 3)
def l4_3 : Packet := (ctl 7 1 4 0 1 0 0 0 0)
def l4_4 : State := (job { step := .armed, fired := 3, lostRanks := [1] } 0 3)

/-- Obligations.AbortAndVoidDiscardTheStep, part 1. -/
theorem witness_AbortAndVoidDiscardTheStep_1 :
    (((5 ≠ nostep_2.step 0) ∧ (nostep_2.control nostep_1 2 = some (0, 5, 0, 1, 773, 1, 0, 0))) ∧
     ((4 = run_2.step 0 ∧ (run_2.ctx 0).loading = false ∧ ((run_2.ctx 0).step = StepState.running ∨ (run_2.ctx 0).step = StepState.bent) ∧
      run_2.rank 0 = 0) ∧ (run_2.control run_1 2 = some (0, 4, 0, 1, 773, 1, 0, 0))) ∧
     ((4 = run1_2.step 0 ∧ (run1_2.ctx 0).loading = false ∧ (run1_2.ctx 0).step ≠ StepState.armed ∧ run1_2.rank 0 ≠ 0) ∧
      (run1_2.control run1_1 2 = some (0, 4, 0, 9, 773, 9, 0, 0))) ∧
     ((4 = arm_2.step 0 ∧ ((arm_2.ctx 0).step = StepState.armed ∨ (arm_2.ctx 0).loading = true)) ∧
      (arm_2.control arm_1 2 = some (0, 4, 0, 9, 773, 9, 0, 0))) ∧
     ((5 ≠ vno_2.step 0) ∧ (vno_2.control vno_1 4 = some (0, 5, 0, 9, 773, 0, 0, 0))) ∧
     ((4 = vrun_2.step 0 ∧ (vrun_2.ctx 0).loading = false ∧
      ((vrun_2.ctx 0).step = StepState.running ∨ (vrun_2.ctx 0).step = StepState.bent)) ∧
      (vrun_2.control vrun_1 4 = some (0, 4, 0, 9, 773, 0, 0, 0))) ∧
     ((4 = vdoubt_2.step 0 ∧ (vdoubt_2.ctx 0).loading = false ∧ (vdoubt_2.ctx 0).step = StepState.inDoubt) ∧
      (vdoubt_2.control vdoubt_1 4 = some (0, 4, 0, 9, 773, 0, 0, 0)))) ∧
    (((4 = vstop_2.step 0 ∧ (vstop_2.ctx 0).loading = false ∧ (vstop_2.ctx 0).step = StepState.stopped) ∧
      (vstop_2.control vstop_1 4 = some (0, 4, 0, 9, 773, 0, 0, 0))) ∧
     ((4 = varm_2.step 0 ∧ (varm_2.ctx 0).loading = false ∧ (varm_2.ctx 0).step = StepState.armed) ∧
      (varm_2.control varm_1 4 = some (0, 4, 0, 9, 773, 0, 0, 0))) ∧
     ((4 = adoubt_2.step 0 ∧ (adoubt_2.ctx 0).loading = false ∧ (adoubt_2.ctx 0).step = StepState.inDoubt ∧ adoubt_2.rank 0 = 0) ∧
      (adoubt_2.control adoubt_1 2 = some (0, 4, 0, 1, 773, 1, 0, 0))) ∧
     ((4 = avoid_2.step 0 ∧ (avoid_2.ctx 0).loading = false ∧
      ((avoid_2.ctx 0).step = StepState.voiding ∨ (avoid_2.ctx 0).step = StepState.stopped) ∧ avoid_2.rank 0 = 0 ∧
      (avoid_2.ctx 0).voidSent = false) ∧ (avoid_2.control avoid_1 2 = some (0, 4, 0, 1, 773, 1, 0, 0))) ∧
     ((4 = astop_2.step 0 ∧ (astop_2.ctx 0).loading = false ∧
      ((astop_2.ctx 0).step = StepState.voiding ∨ (astop_2.ctx 0).step = StepState.stopped) ∧ astop_2.rank 0 = 0 ∧
      (astop_2.ctx 0).voidSent = true) ∧ (astop_2.control astop_1 2 = some (0, 4, 0, 1, 773, 1, 0, 0))) ∧
     ((4 = vvoid_2.step 0 ∧ (vvoid_2.ctx 0).loading = false ∧ (vvoid_2.ctx 0).step = StepState.voiding) ∧
      (vvoid_2.control vvoid_1 4 = some (0, 4, 0, 9, 773, 0, 0, 0)))) :=
  by and_intros <;> first | rfl | decide +kernel

/-- Obligations.WalkAndReserves, part 1. -/
theorem witness_WalkAndReserves_1 :
    (cw.pwr.life = Life.ready ∧ (cw.ctx 0).firedShadows = [(1, cw1_f)] ∧ (cw.ctx 0).firedTable = [] ∧ cw.entryAddr 0 1 = some 2101256 ∧
      cw.upsets = [] ∧ inMemory 2101256 8 = true) :=
  by decide +kernel

/-- Obligations.AbortAndVoidDiscardTheStep, part 2. -/
theorem witness_AbortAndVoidDiscardTheStep_2 :
    ((r1_2.pwr.life = Life.ready ∧ (r1_2.ctx 0).step = StepState.voiding ∧ (r1_2.ctx 0).stopAfter = false ∧
      (r1_2.ctx 0).disableAfter = false ∧ (r1_2.ctx 0).migrations = [] ∧ (r1_2.ctx 0).pageActs = [] ∧ (r1_2.ctx 0).ring = RingState.active) ∧
      (∀ (d : Nat) (w : WinOp), w ∈ (r1_2.ctx d).window → w.wait ≠ some Wait.page)) ∧
    ((r3_2.ctx 0).step ≠ StepState.voiding) :=
  ⟨⟨by decide +kernel, windows_of (p := fun w => w.wait ≠ some Wait.page) (by decide +kernel)⟩,
   by decide +kernel⟩

/-- Obligations.LostMembersStopTheJob. -/
theorem witness_LostMembersStopTheJob :
    ((l1_4.pwr.life = Life.ready ∧ (l1_4.ctx 0).enabled = true ∧ (l1_4.ctx 0).lostRanks.contains 1 = false ∧
      (l1_4.treeLinks 0).contains 1 = true ∧ (l1_4.ctx 0).step = StepState.running) ∧
      (l1_4.control l1_3 7 = some (0, 4, 0, 1, 0, 1, 0, 0))) ∧
    ((l2_4.pwr.life = Life.ready ∧ (l2_4.ctx 0).enabled = true ∧ (l2_4.ctx 0).lostRanks.contains 1 = false ∧
      (l2_4.treeLinks 0).contains 1 = true ∧ (l2_4.ctx 0).step = StepState.bent) ∧ (l2_4.control l2_3 7 = some (0, 4, 0, 1, 0, 1, 0, 0))) ∧
    ((l3_4.pwr.life = Life.ready ∧ (l3_4.ctx 0).enabled = true ∧ (l3_4.ctx 0).lostRanks.contains 1 = false ∧
      (l3_4.treeLinks 0).contains 1 = true ∧ ((l3_4.ctx 0).step = StepState.armed ∨ (l3_4.ctx 0).step = StepState.voiding)) ∧
      (l3_4.control l3_3 7 = some (0, 4, 0, 1, 0, 1, 0, 0))) ∧
    (((l4_4.ctx 0).lostRanks.contains 1 = true) ∧ (l4_4.control l4_3 7 = some (0, 4, 0, 1, 0, 1, 0, 0))) :=
  by and_intros <;> first | rfl | decide +kernel

end Sys2Proof.Tests.Voids
end

/-! PROOFS. The vendor rounding of R40 to R42: the code before saturation as units and binade, the magnitude as a strictly monotone
function of the code, and the two statements about numbers. -/

namespace Sys2Proof.Flt
open Sys2Proof.Safety

/-! ### Rounding to units -/

/-- A change of units from `2^c` to `2^a` may stop at a `2^b` between them. -/
theorem pow_toNat_sub_split {a b c : Int} (hab : a ≤ b) (hbc : b ≤ c) :
    2 ^ (c - a).toNat = 2 ^ (c - b).toNat * 2 ^ (b - a).toNat := by
  rw [← Nat.pow_add, show (c - a).toNat = (c - b).toNat + (b - a).toNat by omega]

/-- Units of at most the value's own exponent hold it exactly. -/
theorem roundUnits_of_le (rm : Rm) (neg : Bool) (m : Nat) {e g : Int} (h : g ≤ e) :
    (roundUnits rm neg m e g).1 = m * 2 ^ (e - g).toNat := by
  have hsh : g - e ≤ 0 := by omega
  have hneg : -(g - e) = e - g := by omega
  simp only [roundUnits, if_pos hsh, hneg, Nat.shiftLeft_eq]

/-- R40: a remainder of half a unit or more goes up. -/
theorem roundUnits_away_of_lt (neg : Bool) (m : Nat) {e g : Int} (h : e < g) :
    (roundUnits .away neg m e g).1 =
      if 2 ^ (g - e).toNat ≤ 2 * (m % 2 ^ (g - e).toNat) then m / 2 ^ (g - e).toNat + 1 else m / 2 ^ (g - e).toNat := by
  have hsh : ¬ g - e ≤ 0 := by omega
  simp only [roundUnits, if_neg hsh, roundsUp, Nat.shiftRight_eq_div_pow, ge_iff_le, decide_eq_true_eq]

/-- R40: `roundUnits` to nearest with ties away lands within half a unit, the upper half-unit excluded. -/
theorem roundUnits_away_nearest (neg : Bool) (m : Nat) {e g unit : Int} (he : unit ≤ e) (hg : unit ≤ g) :
    2 * (roundUnits .away neg m e g).1 * 2 ^ (g - unit).toNat ≤ 2 * (m * 2 ^ (e - unit).toNat) + 2 ^ (g - unit).toNat ∧
    2 * (m * 2 ^ (e - unit).toNat) < (2 * (roundUnits .away neg m e g).1 + 1) * 2 ^ (g - unit).toNat := by
  by_cases hge : g ≤ e
  · have hG := Nat.two_pow_pos (g - unit).toNat
    rw [roundUnits_of_le .away neg m hge, pow_toNat_sub_split hg hge]
    simp only [Nat.mul_assoc, Nat.add_mul, Nat.one_mul]
    omega
  · have hlt : e < g := Int.not_le.mp hge
    rw [pow_toNat_sub_split he (Int.le_of_lt hlt)]
    have hnear : 2 * (roundUnits .away neg m e g).1 * 2 ^ (g - e).toNat ≤ 2 * m + 2 ^ (g - e).toNat ∧
        2 * m < (2 * (roundUnits .away neg m e g).1 + 1) * 2 ^ (g - e).toNat := by
      have hm := Nat.mod_add_div' m (2 ^ (g - e).toNat)
      have hr := Nat.mod_lt m (Nat.two_pow_pos (g - e).toNat)
      rw [roundUnits_away_of_lt neg m hlt]
      split <;> simp only [Nat.mul_assoc, Nat.add_mul, Nat.one_mul] <;> omega
    have hlo := Nat.mul_le_mul_right (2 ^ (e - unit).toNat) hnear.1
    have hhi := Nat.mul_lt_mul_of_pos_right hnear.2 (Nat.two_pow_pos (e - unit).toNat)
    simp only [Nat.mul_assoc, Nat.add_mul, Nat.one_mul] at hlo hhi ⊢
    exact ⟨hlo, hhi⟩

/-! ### Magnitudes of codes -/

/-- R26 to R28: the magnitude of the code with fraction `f` and exponent field `x`, in the units of the least code. -/
theorem magnitude_fraction_exponent {v : VFmt} {unit : Int} (hu : unit ≤ v.emin - v.fb) {f : Nat} (hf : f < 2 ^ v.fb) (x : Nat) :
    magnitude v unit (f + x * 2 ^ v.fb) =
      if x = 0 then f * 2 ^ (v.emin - v.fb - unit).toNat else (f + 2 ^ v.fb) * 2 ^ ((v.emin - v.fb - unit).toNat + (x - 1)) := by
  have hx : (f + x * 2 ^ v.fb) >>> v.fb = x := by
    rw [Nat.shiftRight_eq_div_pow, Nat.add_mul_div_right _ _ (Nat.two_pow_pos _), Nat.div_eq_of_lt hf, Nat.zero_add]
  have hf' : (f + x * 2 ^ v.fb) % 2 ^ v.fb = f := by rw [Nat.add_mul_mod_self_right, Nat.mod_eq_of_lt hf]
  rw [magnitude, hx, hf']
  by_cases h0 : x = 0
  · rw [if_pos h0, if_pos h0, h0, Nat.zero_mul, Nat.add_zero]
  · have hexp : ((x : Int) - v.bias - v.fb - unit).toNat = (v.emin - v.fb - unit).toNat + (x - 1) := by
      simp only [VFmt.emin] at hu ⊢
      omega
    rw [if_neg h0, if_neg h0, hexp]

/-- `q` units of the binade `j` above the least have the code `q + j * 2 ^ fb`, also where `q` has just left the binade. -/
theorem magnitude_units {v : VFmt} {unit : Int} (hu : unit ≤ v.emin - v.fb) {q j : Nat} (hq : q ≤ 2 ^ (v.fb + 1))
    (hj : j = 0 ∨ 2 ^ v.fb ≤ q) :
    magnitude v unit (q + j * 2 ^ v.fb) = q * 2 ^ ((v.emin - v.fb - unit).toNat + j) := by
  have hpos := Nat.two_pow_pos v.fb
  rw [Nat.pow_succ] at hq
  rcases Nat.lt_or_ge q (2 ^ v.fb) with hsub | hnorm
  · have hj0 : j = 0 := by omega
    rw [hj0, magnitude_fraction_exponent hu hsub, if_pos rfl, Nat.add_zero]
  obtain ⟨f, rfl⟩ := Nat.exists_eq_add_of_le hnorm
  rcases Nat.lt_or_eq_of_le (show f ≤ 2 ^ v.fb by omega) with hf | rfl
  · rw [show 2 ^ v.fb + f + j * 2 ^ v.fb = f + (j + 1) * 2 ^ v.fb by rw [Nat.succ_mul]; omega, magnitude_fraction_exponent hu hf,
      if_neg (Nat.succ_ne_zero j), Nat.add_sub_cancel, Nat.add_comm f]
  · rw [show 2 ^ v.fb + 2 ^ v.fb + j * 2 ^ v.fb = 0 + (j + 2) * 2 ^ v.fb by rw [Nat.add_mul]; omega,
      magnitude_fraction_exponent hu hpos, if_neg (Nat.succ_ne_zero _), show j + 2 - 1 = j + 1 from rfl, ← Nat.add_assoc, Nat.pow_succ,
      Nat.zero_add, ← Nat.two_mul, Nat.mul_comm _ 2, Nat.mul_left_comm, Nat.mul_assoc]

/-- Every code is a number of units below the top of its binade. -/
theorem exists_units_of_code (fb k : Nat) : ∃ q j, k = q + j * 2 ^ fb ∧ q < 2 ^ (fb + 1) ∧ (j = 0 ∨ 2 ^ fb ≤ q) := by
  have hk := Nat.mod_add_div' k (2 ^ fb)
  have hr := Nat.mod_lt k (Nat.two_pow_pos fb)
  rw [Nat.pow_succ]
  cases hx : k / 2 ^ fb with
  | zero =>
    rw [hx] at hk
    exact ⟨k % 2 ^ fb, 0, hk.symm, by omega, .inl rfl⟩
  | succ j =>
    rw [hx, Nat.succ_mul] at hk
    exact ⟨k % 2 ^ fb + 2 ^ fb, j, by omega, by omega, .inr (by omega)⟩

/-- The next code is one unit more. -/
theorem magnitude_units_succ {v : VFmt} {unit : Int} (hu : unit ≤ v.emin - v.fb) {q j : Nat} (hq : q < 2 ^ (v.fb + 1))
    (hj : j = 0 ∨ 2 ^ v.fb ≤ q) :
    magnitude v unit (q + j * 2 ^ v.fb + 1) = (q + 1) * 2 ^ ((v.emin - v.fb - unit).toNat + j) := by
  rw [Nat.add_right_comm, magnitude_units hu hq (hj.imp_right Nat.le_succ_of_le)]

/-- A function of codes that rises from each to every greater one. -/
def Rising (M : Nat → Nat) : Prop := ∀ ⦃a b : Nat⦄, a < b → M a < M b

theorem rising_of_lt_succ {M : Nat → Nat} (h : ∀ k, M k < M (k + 1)) : Rising M := by
  intro a b hab
  induction hab with
  | refl => exact h a
  | step _ ih => exact Nat.lt_trans ih (h _)

theorem Rising.le {M : Nat → Nat} (hM : Rising M) {a b : Nat} (hab : a ≤ b) : M a ≤ M b := by
  rcases Nat.lt_or_eq_of_le hab with hlt | rfl
  · exact Nat.le_of_lt (hM hlt)
  · exact Nat.le_refl _

/-- A greater code has a greater magnitude. -/
theorem magnitude_rising {v : VFmt} {unit : Int} (hu : unit ≤ v.emin - v.fb) : Rising (magnitude v unit) := by
  refine rising_of_lt_succ fun k => ?_
  obtain ⟨q, j, rfl, hq, hj⟩ := exists_units_of_code v.fb k
  rw [magnitude_units_succ hu hq hj, magnitude_units hu (Nat.le_of_lt hq) hj]
  exact Nat.mul_lt_mul_of_pos_right q.lt_succ_self (Nat.two_pow_pos _)

/-! ### The code before saturation -/

/-- The exponent of the units to which `m * 2^e` is rounded. -/
def roundingExp (v : VFmt) (m : Nat) (e : Int) : Int := max (ilog m e) v.emin - v.fb

/-- The units to which `m * 2^e` is rounded. -/
def roundedUnits (v : VFmt) (neg : Bool) (m : Nat) (e : Int) : Nat := (roundUnits .away neg m e (roundingExp v m e)).1

/-- How many binades the units stand above the least. -/
def roundedBinade (v : VFmt) (m : Nat) (e : Int) : Nat := (roundingExp v m e - (v.emin - v.fb)).toNat

/-- The magnitude bits of `vendorFin`, before they are held against the greatest code. -/
def unboundedCode (v : VFmt) (neg : Bool) (m : Nat) (e : Int) : Nat :=
  if m = 0 then 0 else roundedUnits v neg m e + roundedBinade v m e * 2 ^ v.fb

theorem emin_sub_fb_le_roundingExp (v : VFmt) (m : Nat) (e : Int) : v.emin - v.fb ≤ roundingExp v m e := by
  simp only [roundingExp]
  omega

/-- A value lies below the top of the binade whose units it is rounded to. -/
theorem lt_binade_top (v : VFmt) (m : Nat) {e unit : Int} (he : unit ≤ e) (hu : unit ≤ v.emin - v.fb) :
    m * 2 ^ (e - unit).toNat < 2 ^ (v.fb + 1) * 2 ^ (roundingExp v m e - unit).toNat :=
  calc m * 2 ^ (e - unit).toNat
    _ < 2 ^ (Nat.log2 m + 1) * 2 ^ (e - unit).toNat := Nat.mul_lt_mul_of_pos_right Nat.lt_log2_self (Nat.two_pow_pos _)
    _ = 2 ^ (Nat.log2 m + 1 + (e - unit).toNat) := (Nat.pow_add ..).symm
    _ ≤ 2 ^ (v.fb + 1 + (roundingExp v m e - unit).toNat) := by
      refine Nat.pow_le_pow_right Nat.two_pos ?_
      simp only [roundingExp, ilog]
      omega
    _ = 2 ^ (v.fb + 1) * 2 ^ (roundingExp v m e - unit).toNat := Nat.pow_add ..

/-- Above the least binade a value is at least the foot of the binade whose units it is rounded to. -/
theorem binade_foot_le {v : VFmt} {m : Nat} (hm : m ≠ 0) {e unit : Int} (he : unit ≤ e) (hu : unit ≤ v.emin - v.fb)
    (hj : roundedBinade v m e ≠ 0) : 2 ^ v.fb * 2 ^ (roundingExp v m e - unit).toNat ≤ m * 2 ^ (e - unit).toNat :=
  calc 2 ^ v.fb * 2 ^ (roundingExp v m e - unit).toNat
    _ = 2 ^ (v.fb + (roundingExp v m e - unit).toNat) := (Nat.pow_add ..).symm
    _ = 2 ^ (Nat.log2 m + (e - unit).toNat) := by
      rw [show v.fb + (roundingExp v m e - unit).toNat = Nat.log2 m + (e - unit).toNat by
        simp only [roundedBinade, roundingExp, ilog] at hj ⊢
        omega]
    _ = 2 ^ Nat.log2 m * 2 ^ (e - unit).toNat := Nat.pow_add ..
    _ ≤ m * 2 ^ (e - unit).toNat := Nat.mul_le_mul_right _ (Nat.log2_self_le hm)

/-- The units fill at most their binade and the foot of the next. -/
theorem roundedUnits_le (v : VFmt) (neg : Bool) (m : Nat) (e : Int) : roundedUnits v neg m e ≤ 2 ^ (v.fb + 1) := by
  have hu := Int.min_le_right e (v.emin - v.fb)
  have hnear := (roundUnits_away_nearest neg m (Int.min_le_left e (v.emin - v.fb)) (Int.le_trans hu (emin_sub_fb_le_roundingExp v m e))).1
  have htop := lt_binade_top v m (Int.min_le_left e _) hu
  have hG := Nat.two_pow_pos (roundingExp v m e - min e (v.emin - v.fb)).toNat
  refine Nat.le_of_not_lt fun hgt => ?_
  have hover := Nat.mul_le_mul_right (2 ^ (roundingExp v m e - min e (v.emin - v.fb)).toNat) (Nat.succ_le_of_lt hgt)
  rw [← roundedUnits] at hnear
  simp only [Nat.succ_eq_add_one, Nat.add_mul, Nat.one_mul, Nat.mul_assoc] at hnear htop hover
  omega

/-- Above the least binade the units are those of a normal value. -/
theorem roundedBinade_eq_zero_or_le_roundedUnits (v : VFmt) (neg : Bool) {m : Nat} (hm : m ≠ 0) (e : Int) :
    roundedBinade v m e = 0 ∨ 2 ^ v.fb ≤ roundedUnits v neg m e := by
  refine Decidable.or_iff_not_imp_left.mpr fun hj => ?_
  have hu := Int.min_le_right e (v.emin - v.fb)
  have hnear := (roundUnits_away_nearest neg m (Int.min_le_left e (v.emin - v.fb)) (Int.le_trans hu (emin_sub_fb_le_roundingExp v m e))).2
  have hfoot := binade_foot_le hm (Int.min_le_left e _) hu hj
  have hG := Nat.two_pow_pos (roundingExp v m e - min e (v.emin - v.fb)).toNat
  refine Nat.le_of_not_lt fun hlt => ?_
  have hunder := Nat.mul_le_mul_right (2 ^ (roundingExp v m e - min e (v.emin - v.fb)).toNat) (Nat.succ_le_of_lt hlt)
  rw [← roundedUnits] at hnear
  simp only [Nat.succ_eq_add_one, Nat.add_mul, Nat.one_mul, Nat.mul_assoc] at hnear hfoot hunder
  omega

/-- `roundPrec` gives the rounded units, or the foot of the next binade when they have filled theirs. -/
theorem roundPrec_away_eq (v : VFmt) (neg : Bool) (m : Nat) (e : Int) : ∃ lost,
    roundPrec v.fb v.emin .away neg m e =
      if roundedUnits v neg m e = 2 ^ (v.fb + 1) then (2 ^ v.fb, roundingExp v m e + 1, lost)
      else (roundedUnits v neg m e, roundingExp v m e, lost) := ⟨_, rfl⟩

/-- The magnitude bits that `vendorFin` writes are `unboundedCode`. -/
theorem magBits_eq_unboundedCode (v : VFmt) (neg : Bool) {m : Nat} (hm : m ≠ 0) (e : Int) :
    (let r := roundPrec v.fb v.emin .away neg m e
     if r.1 < 2 ^ v.fb then r.1 else ((r.2.1 + v.fb + v.bias).toNat <<< v.fb) + (r.1 - 2 ^ v.fb)) = unboundedCode v neg m e := by
  obtain ⟨lost, hr⟩ := roundPrec_away_eq v neg m e
  have hexp : (roundingExp v m e + v.fb + v.bias).toNat = roundedBinade v m e + 1 ∧
      (roundingExp v m e + 1 + v.fb + v.bias).toNat = roundedBinade v m e + 2 := by
    have := emin_sub_fb_le_roundingExp v m e
    simp only [roundedBinade, VFmt.emin] at this ⊢
    omega
  rw [hr, unboundedCode, if_neg hm]
  by_cases hcarry : roundedUnits v neg m e = 2 ^ (v.fb + 1)
  · rw [if_pos hcarry, hcarry]
    rw [if_neg (Nat.lt_irrefl _), hexp.2, Nat.shiftLeft_eq, Nat.sub_self, Nat.add_mul, Nat.pow_succ]
    omega
  rw [if_neg hcarry]
  dsimp only
  rw [hexp.1, Nat.shiftLeft_eq]
  split
  case isTrue hsub =>
    rw [(roundedBinade_eq_zero_or_le_roundedUnits v neg hm e).resolve_right (Nat.not_le.mpr hsub), Nat.zero_mul, Nat.add_zero]
  case isFalse hnorm =>
    rw [Nat.succ_mul]
    omega

/-- R40, R42: the vendor rounding writes the sign and the lesser of the rounded code and the greatest one, and +0 where the format has no
negative zero. -/
theorem vendorFin_eq (v : VFmt) (neg : Bool) (m : Nat) (e : Int) :
    vendorFin v neg m e =
      (if unboundedCode v neg m e = 0 ∧ v.keepsNegZero = false then 0
        else (if neg then 2 ^ v.signAt else 0) + min (unboundedCode v neg m e) v.maxCode,
       decide (v.maxCode < unboundedCode v neg m e)) := by
  by_cases hm : m = 0
  · rw [unboundedCode, if_pos hm, vendorFin, if_pos hm]
    cases v.keepsNegZero <;>
      simp only [Bool.false_eq_true, Bool.true_eq_false, reduceIte, and_self, and_false, Nat.zero_min, Nat.add_zero, Nat.not_lt_zero,
        decide_false]
  rw [vendorFin, if_neg hm]
  simp only [magBits_eq_unboundedCode v neg hm e]
  generalize unboundedCode v neg m e = n, (if neg = true then 2 ^ v.signAt else 0) = sign
  rcases Nat.lt_or_ge v.maxCode n with hsat | hfit
  · rw [if_pos hsat, if_neg (fun h => Nat.ne_zero_of_lt hsat h.1), Nat.min_eq_right (Nat.le_of_lt hsat), decide_eq_true hsat]
  rw [if_neg (Nat.not_lt.mpr hfit), Nat.min_eq_left hfit, decide_eq_false (Nat.not_lt.mpr hfit)]
  by_cases hn : n = 0
  · cases v.keepsNegZero <;> simp only [hn, Bool.false_eq_true, Bool.true_eq_false, reduceIte, and_self, and_false, Nat.add_zero]
  · rw [if_neg hn, if_neg (fun h => hn h.1)]

/-- R40: the magnitude bits written are the lesser of the rounded code and the greatest one. -/
theorem vendorFin_mod_sign {v : VFmt} (hv : v.maxCode < 2 ^ v.signAt) (neg : Bool) (m : Nat) (e : Int) :
    (vendorFin v neg m e).1 % 2 ^ v.signAt = min (unboundedCode v neg m e) v.maxCode := by
  have hmin : min (unboundedCode v neg m e) v.maxCode < 2 ^ v.signAt := Nat.lt_of_le_of_lt (Nat.min_le_right _ _) hv
  rw [vendorFin_eq]
  by_cases hz : unboundedCode v neg m e = 0 ∧ v.keepsNegZero = false
  · rw [if_pos hz, hz.1, Nat.zero_min, Nat.zero_mod]
  · rw [if_neg hz]
    cases neg
    · rw [if_neg Bool.false_ne_true, Nat.zero_add, Nat.mod_eq_of_lt hmin]
    · rw [if_pos rfl, Nat.add_mod_left, Nat.mod_eq_of_lt hmin]

/-- R40, R42: a code is the sign and the magnitude bits, but for a zero of a format without a negative one. -/
theorem vendorFin_eq_sign_add {v : VFmt} (hv : v.maxCode < 2 ^ v.signAt) {neg : Bool} {m : Nat} {e : Int}
    (h : (vendorFin v neg m e).1 % 2 ^ v.signAt ≠ 0 ∨ v.keepsNegZero = true) :
    (vendorFin v neg m e).1 = (if neg then 2 ^ v.signAt else 0) + (vendorFin v neg m e).1 % 2 ^ v.signAt := by
  rw [vendorFin_mod_sign hv] at h ⊢
  rw [vendorFin_eq, if_neg]
  rintro ⟨hn, hz⟩
  rw [hn, Nat.zero_min, hz] at h
  exact h.elim (fun h => h rfl) Bool.noConfusion

/-- R26 to R28: in every vendor format the greatest code is not zero and lies below the sign. -/
theorem maxCode_bounds : ∀ v ∈ [vB16, vE3M2, vE2M3, vF4, vF8, vG8], v.maxCode ≠ 0 ∧ v.maxCode < 2 ^ v.signAt := by decide

/-- R42: the formats with a negative zero, and those without. -/
theorem keepsNegZero_of_mem : (∀ v ∈ [vB16, vE3M2, vE2M3, vF4], v.keepsNegZero = true) ∧ ∀ v ∈ [vF8, vG8], v.keepsNegZero = false := by
  decide

/-! ### Nearest codes -/

/-- The value `y / 2` lies between the two midpoints that bound what rounds to code `n`, the lower one included. -/
def BetweenMidpoints (M : Nat → Nat) (n y : Nat) : Prop := (n ≠ 0 → M (n - 1) + M n ≤ y) ∧ y < M n + M (n + 1)

/-- The code between whose midpoints a value lies is above `c` exactly where the value reaches the midpoint after `c`. -/
theorem BetweenMidpoints.lt_iff {M : Nat → Nat} (hM : Rising M) {n y : Nat} (h : BetweenMidpoints M n y) (c : Nat) :
    c < n ↔ M c + M (c + 1) ≤ y := by
  obtain ⟨hlo, hhi⟩ := h
  constructor
  · intro hc
    exact Nat.le_trans (Nat.add_le_add (hM.le (Nat.le_sub_one_of_lt hc)) (hM.le hc)) (hlo (Nat.ne_zero_of_lt hc))
  · intro hy
    refine Nat.lt_of_not_le fun hn => ?_
    have := Nat.add_le_add (hM.le hn) (hM.le (Nat.succ_le_succ hn))
    exact absurd (Nat.lt_of_lt_of_le hhi this) (Nat.not_lt.mpr hy)

/-- No code is nearer to a value than the one between whose midpoints it lies, and of two as near that is the greater. -/
theorem BetweenMidpoints.nearest {M : Nat → Nat} (hM : Rising M) {n x : Nat} (h : BetweenMidpoints M n (2 * x)) (k : Nat) :
    (M n - x) + (x - M n) ≤ (M k - x) + (x - M k) ∧ ((M k - x) + (x - M k) = (M n - x) + (x - M n) → M k ≤ M n) := by
  obtain ⟨hlo, hhi⟩ := h
  rcases Nat.lt_trichotomy k n with hk | rfl | hk
  · have hbelow := hM.le (Nat.le_sub_one_of_lt hk)
    have hmid := hlo (Nat.ne_zero_of_lt hk)
    have := hM hk
    omega
  · exact ⟨Nat.le_refl _, fun _ => Nat.le_refl _⟩
  · have habove := hM.le (Nat.succ_le_of_lt hk)
    rw [Nat.succ_eq_add_one] at habove
    have := hM hk
    omega

section
variable (v : VFmt) (neg : Bool) {m : Nat} {e unit : Int} (hm : m ≠ 0) (he : unit ≤ e) (hu : unit ≤ v.emin - v.fb)
include hu

theorem toNat_roundingExp_sub : (roundingExp v m e - unit).toNat = (v.emin - v.fb - unit).toNat + roundedBinade v m e := by
  have := emin_sub_fb_le_roundingExp v m e
  simp only [roundedBinade]
  omega

include hm

/-- The code before saturation has the magnitude of the rounded units. -/
theorem magnitude_unboundedCode :
    magnitude v unit (unboundedCode v neg m e) = roundedUnits v neg m e * 2 ^ (roundingExp v m e - unit).toNat := by
  rw [unboundedCode, if_neg hm, toNat_roundingExp_sub v hu]
  exact magnitude_units hu (roundedUnits_le v neg m e) (roundedBinade_eq_zero_or_le_roundedUnits v neg hm e)

include he

/-- A value lies below the midpoint after the code it rounds to. -/
theorem lt_upper_midpoint : 2 * (m * 2 ^ (e - unit).toNat) <
    magnitude v unit (unboundedCode v neg m e) + magnitude v unit (unboundedCode v neg m e + 1) := by
  have hvalue := magnitude_unboundedCode v neg hm hu (e := e)
  rcases Nat.lt_or_eq_of_le (roundedUnits_le v neg m e) with hlt | hcarry
  · have hnext := magnitude_units_succ hu hlt (roundedBinade_eq_zero_or_le_roundedUnits v neg hm e)
    have hnear := (roundUnits_away_nearest neg m he (Int.le_trans hu (emin_sub_fb_le_roundingExp v m e))).2
    rw [← toNat_roundingExp_sub v hu] at hnext
    rw [← roundedUnits] at hnear
    rw [hvalue, unboundedCode, if_neg hm, hnext]
    simp only [Nat.add_mul, Nat.one_mul, Nat.mul_assoc] at hnear ⊢
    omega
  · have htop := lt_binade_top v m he hu
    have := magnitude_rising hu (Nat.lt_succ_self (unboundedCode v neg m e))
    rw [hcarry] at hvalue
    rw [Nat.succ_eq_add_one] at this
    omega

/-- A value reaches the midpoint before the code it rounds to: at the foot of a binade it reaches the code, elsewhere the code before
is one unit less. -/
theorem lower_midpoint_le (hn : unboundedCode v neg m e ≠ 0) :
    magnitude v unit (unboundedCode v neg m e - 1) + magnitude v unit (unboundedCode v neg m e) ≤
      2 * (m * 2 ^ (e - unit).toNat) := by
  have hvalue := magnitude_unboundedCode v neg hm hu (e := e)
  by_cases hfoot : roundedBinade v m e ≠ 0 ∧ roundedUnits v neg m e = 2 ^ v.fb
  · have := binade_foot_le hm he hu hfoot.1
    have := magnitude_rising hu (Nat.sub_one_lt hn)
    rw [hfoot.2] at hvalue
    omega
  · have hnorm := roundedBinade_eq_zero_or_le_roundedUnits v neg hm e
    have hq := roundedUnits_le v neg m e
    have hnear := (roundUnits_away_nearest neg m he (Int.le_trans hu (emin_sub_fb_le_roundingExp v m e))).1
    rw [← roundedUnits] at hnear
    rw [hvalue]
    rw [unboundedCode, if_neg hm] at hn ⊢
    cases hp : roundedUnits v neg m e with
    | zero =>
      have := Nat.two_pow_pos v.fb
      have hj : roundedBinade v m e = 0 := by omega
      rw [hp, hj, Nat.zero_mul] at hn
      exact absurd rfl hn
    | succ p =>
      have hprev := magnitude_units hu (q := p) (j := roundedBinade v m e) (by omega) (by omega)
      rw [← toNat_roundingExp_sub v hu] at hprev
      rw [hp] at hnear
      rw [Nat.add_right_comm, Nat.add_sub_cancel, hprev]
      simp only [Nat.add_mul, Nat.mul_add, Nat.one_mul, Nat.mul_assoc] at hnear ⊢
      omega
end

/-- R40: the code before saturation is the one between whose midpoints the value lies. -/
theorem unboundedCode_betweenMidpoints (v : VFmt) (neg : Bool) (m : Nat) {e unit : Int} (he : unit ≤ e) (hu : unit ≤ v.emin - v.fb) :
    BetweenMidpoints (magnitude v unit) (unboundedCode v neg m e) (2 * (m * 2 ^ (e - unit).toNat)) := by
  by_cases hm : m = 0
  · have hpos := magnitude_rising hu (Nat.zero_lt_succ 0)
    rw [unboundedCode, if_pos hm, hm, Nat.zero_mul, Nat.mul_zero]
    exact ⟨fun h => absurd rfl h, Nat.add_pos_right _ (Nat.zero_lt_of_lt hpos)⟩
  · exact ⟨lower_midpoint_le v neg hm he hu, lt_upper_midpoint v neg hm he hu⟩

/-! ### The statements -/

/-- Settles O57: the code before saturation lies between its two midpoints, so it is the nearest; it is above the greatest code where the
value reaches the midpoint after that. -/
theorem vendorRoundingIsNearest : Obligations.VendorRoundingIsNearest := by
  intro v hv neg m e unit x c mag dist
  obtain ⟨-, hsign⟩ := maxCode_bounds v hv
  have hrise : Rising (magnitude v unit) := magnitude_rising (Int.min_le_right ..)
  have hmid : BetweenMidpoints (magnitude v unit) (unboundedCode v neg m e) (2 * x) :=
    unboundedCode_betweenMidpoints v neg m (Int.min_le_left ..) (Int.min_le_right ..)
  have hmag : mag = min (unboundedCode v neg m e) v.maxCode := vendorFin_mod_sign hsign neg m e
  have hsat : (vendorFin v neg m e).2 = decide (v.maxCode < unboundedCode v neg m e) := by rw [vendorFin_eq]
  refine ⟨?_, fun h => ?_, fun h k _ => ?_, fun h => vendorFin_eq_sign_add hsign (.inl h)⟩
  · rw [hsat, decide_eq_true_eq, hmid.lt_iff hrise]
  · rw [hsat, decide_eq_true_eq] at h
    rw [hmag, Nat.min_eq_right (Nat.le_of_lt h)]
  · rw [hsat, decide_eq_false_iff_not, Nat.not_lt] at h
    rw [hmag, Nat.min_eq_left h]
    exact hmid.nearest hrise k

/-- Settles O56: where the magnitude bits are zero the code is its sign alone, and 0 in a format without a negative zero. -/
theorem vendorZerosAreSigned : Obligations.VendorZerosAreSigned := by
  intro neg m e
  refine ⟨fun v hv hm => ?_, fun v hv hzero => ?_, fun v hv hzero => ?_⟩
  · rw [vendorFin_mod_sign (maxCode_bounds v hv).2, unboundedCode, if_pos hm, Nat.zero_min]
  · obtain ⟨-, hsign⟩ := maxCode_bounds v (List.mem_append_left [vF8, vG8] hv)
    rw [vendorFin_eq_sign_add hsign (.inr (keepsNegZero_of_mem.1 v hv)), hzero, Nat.add_zero]
  · obtain ⟨hmax, hsign⟩ := maxCode_bounds v (List.mem_append_right [vB16, vE3M2, vE2M3, vF4] hv)
    rw [vendorFin_mod_sign hsign] at hzero
    rw [vendorFin_eq, if_pos ⟨by omega, keepsNegZero_of_mem.2 v hv⟩]

end Sys2Proof.Flt

/-! PROOFS. MIGRATE to a die whose free parcel pool is empty (R153, R154): the pool of the other die answers the take of a frame, but the
operation is refused for want of space. -/

namespace Sys2Proof.Machine
open Sys2Proof.Safety

/-- A MIGRATE of the one parcel of the list at 0x100000 to die 1 (R153). -/
def migrateToDie1 : WinOp :=
  { pos := 5, st := .running, step := 1
    desc := BitVec.ofNat 1024 ((0x32 <<< (8 * 2)) + (1 <<< (8 * 24)) + (1 <<< (8 * 28)) + ((2 ^ 48 + 0x100000) <<< (8 * 32))) }

/-- Parcel 0 stands in a frame of die 0. -/
def entryOnDie0 : PEntry := { where_ := 1, frame := 0x300000 }

/-- Context 0 has scratch from 0x100000 on, where the list of the MIGRATE names parcel 0, and a directory of one lot. The free parcel pool of
die 1 is empty, that of die 0 is as after reset. -/
def fullDie1 : State :=
  let s : State := { pwr := { life := .ready }, frames1 := { pool := 0 }
                     ctxs := [(0, { enabled := true, step := .running, window := [migrateToDie1] })] }
  let registers := [(0x018, 0x200000), (0x020, 1), (0x028, 0x100000), (0x030, 0x100000)]
  ((registers.foldl (fun s r => s.setReg (pageAddr 0 r.1) r.2) s).poke 0x200000 (leBytes 8 0x201001)).poke 0x201000
    (leBytes 8 entryOnDie0.toNat)

/-- The frame of the reserve that the dirty mask would take, and the state that has taken it (R154). -/
def maskTaken : Nat × State := (fullDie1.takeReserve fullDie1.reserveDie).getD (0, fullDie1)

/-- The frame that the free parcel pools then give to one that asks for die 1, and the state that has taken it. -/
def copyTaken : Nat × State := (maskTaken.2.takePool 1).getD (0, maskTaken.2)

theorem takeReserve_fullDie1 : fullDie1.takeReserve fullDie1.reserveDie = some maskTaken := by decide +kernel

/-- Die 1 has no free frame, so a frame of die 0 is given. -/
theorem takePool_maskTaken : maskTaken.2.takePool 1 = some copyTaken ∧ bits copyTaken.1 39 1 = 0 := by decide +kernel

/-- The state after the MIGRATE. -/
def migrateRan : State := fullDie1.runOp { ctx := 0, pos := 5 } (fun d => opcodeOf d == 0x32) migrateBody

/-- The MIGRATE is refused with event 0x0B05, cause 3, parcel 0 (R154, R502), and no migration begins. -/
theorem migrateRan_refused : CtxEvent 0 5 0x0B05 3 fullDie1 migrateRan ∧ (migrateRan.ctx 0).migrations = [] := by
  unfold CtxEvent
  decide +kernel

/-- Refutes O14: a MIGRATE to die 1 while only die 0 has free frames is refused, though the take of a frame that the statement asks for
succeeds on die 0. -/
theorem not_embeddingOperationsComplete : ¬ Obligations.EmbeddingOperationsComplete := by
  intro h
  have released : Released fullDie1 0 migrateToDie1 := by decide +kernel
  have dispatched : Dispatched fullDie1 { ctx := 0, pos := 5 } migrateToDie1 0x32 none := by decide +kernel
  have inScratch : InScratch fullDie1 0 (migrateToDie1.desc.field 32 8) 8 0x100000 := by decide +kernel
  have fired : fullDie1.firedEntry 0 (fullDie1.memNat 0x100000 8) = some entryOnDie0 := by decide +kernel
  have inMem : EntryInMemory fullDie1 0 (fullDie1.memNat 0x100000 8) := by decide +kernel
  obtain ⟨-, -, migrates, -⟩ := h { ctx := 0, pos := 5 } fullDie1 migrateToDie1 0x100000 0 0 entryOnDie0 rfl released ⟨rfl, rfl, rfl⟩
  obtain ⟨-, moves⟩ := migrates 1 dispatched (by decide +kernel) (by decide) inScratch rfl rfl (by decide +kernel) (by decide) fired inMem
  obtain ⟨t, ran, begun, -⟩ := moves _ _ _ _ (by decide) (by decide) takeReserve_fullDie1 takePool_maskTaken.1
  obtain ⟨-, nothing⟩ := migrateRan_refused
  obtain rfl : migrateRan = t := Host.Outcome.next.inj ran
  rw [nothing] at begun
  cases begun

end Sys2Proof.Machine
